-- ==== Sys2Proof/Word.lean ====
section
/-! DEFINITION. Bytes, and counters that stop at their maximum. -/

namespace Sys2Proof

/-- A byte of the halt line or of the unit port. -/
abbrev Byte := BitVec 8

/-- `n` added to a count that stops at `top` (00_scope.md, Counters). -/
def satAdd (top count n : Nat) : Nat := min (count + n) top

/-- One more on a count 0..65,535 that stops at 65,535. -/
def bump (count : Nat) : Nat := satAdd 65535 count 1

end Sys2Proof
end

