-- ==== Sys2Proof/Syntax.lean ====
section
/-! DEFINITION. The commands of the part, one constructor of `Instr` per row of the table, and the operands they carry. -/

namespace Sys2Proof.Machine

/-- A train: the pair of train id and service day (00_scope.md, Trains). -/
structure TrainKey where
  id : Nat
  day : Nat
  deriving DecidableEq, Repr, Inhabited

/-- The estimate of a train (R20, R32). -/
inductive Estimate where
  | onTime
  | expected
  | delayed
  | cancelled
  deriving DecidableEq, Repr, Inhabited

/-- The travel class of a fare (R71). -/
inductive FareClass where
  | standard
  | first
  deriving DecidableEq, Repr, Inhabited

/-- The roles a node has (00_scope.md, Roles). -/
structure Roles where
  sells : Bool
  shows : Bool
  uplink : Bool
  deriving DecidableEq, Repr, Inhabited

/-- One of the two key inputs (R204). -/
inductive Key where
  | a
  | b
  deriving DecidableEq, Repr, Inhabited

/-- A yes or no for each of COUNT, CONCESSION and OVERFLOW: the exception masks (R70). -/
structure Masks where
  count : Bool
  concession : Bool
  overflow : Bool
  deriving DecidableEq, Repr, Inhabited

/-- A start record as START carries it (R185): every number as sent, before the clamping of R186.
The three fields that may be marked absent are options. -/
structure StartRequest where
  node : Nat
  roles : Roles
  sellerCount : Nat
  sellerIndex : Nat
  beaconPeriod : Option Nat
  refreshPeriod : Option Nat
  rolloverMinute : Option Nat
  holdOff : Nat
  roundingStep : Nat
  /-- The rounding mode's code: HALF_UP 0, DOWN 1, UP 2; another code is clamped. -/
  roundingMode : Nat
  minimumFare : Nat
  masks : Masks
  rows : Nat
  platformFilter : Nat
  pageInterval : Nat
  horizon : Nat
  wakeLead : Nat
  keyA : Bool
  keyB : Bool
  deriving DecidableEq, Repr, Inhabited

/-- What SET TIME carries (R15). -/
structure SetTimeRequest where
  day : Nat
  ms : Nat
  reference : Bool
  deriving DecidableEq, Repr, Inhabited

/-- What LOAD BEGIN carries (R27). -/
structure LoadBeginRequest where
  edition : Nat
  count : Nat
  deriving DecidableEq, Repr, Inhabited

/-- The train record of LOAD TRAIN (R28). -/
structure TrainRecord where
  train : TrainKey
  destination : Nat
  scheduled : Nat
  platform : Nat
  quotaTotal : Nat
  calling : List Nat
  deriving DecidableEq, Repr, Inhabited

/-- The new-train block of an update (R32). -/
structure NewTrain where
  destination : Nat
  scheduled : Nat
  quotaTotal : Nat
  calling : List Nat
  deriving DecidableEq, Repr, Inhabited

/-- A train update (R32), carried by TRAIN UPDATE and by a TRAIN frame. -/
structure Update where
  train : TrainKey
  serial : Nat
  estimate : Estimate
  expected : Option Nat
  platform : Nat
  isNew : Bool
  announce : Bool
  newTrain : Option NewTrain
  deriving DecidableEq, Repr, Inhabited

/-- A destination record (R61). -/
structure DestinationRecord where
  code : Nat
  standard : Nat
  first : Nat
  cap : Nat
  deriving DecidableEq, Repr, Inhabited

/-- A product record (R62). -/
structure ProductRecord where
  code : Nat
  factor : Nat
  childFactor : Nat
  quota : Bool
  deriving DecidableEq, Repr, Inhabited

/-- A concession record (R63). -/
structure ConcessionRecord where
  code : Nat
  discount : Nat
  products : List Nat
  deriving DecidableEq, Repr, Inhabited

/-- A time band (R64). -/
structure Band where
  start : Nat
  factor : Nat
  deriving DecidableEq, Repr, Inhabited

/-- The item of FARES ITEM, of one of four kinds (R66). -/
inductive FareItem where
  | destination (r : DestinationRecord)
  | product (r : ProductRecord)
  | concession (r : ConcessionRecord)
  | band (r : Band)
  deriving DecidableEq, Repr, Inhabited

/-- The inputs of a fare computation (R71, R86). -/
structure FareInputs where
  destination : Nat
  fareClass : FareClass
  product : Nat
  concession : Option Nat
  adults : Nat
  children : Nat
  train : Option TrainKey
  deriving DecidableEq, Repr, Inhabited

/-- What ISSUE carries (R87). -/
structure IssueRequest where
  inputs : FareInputs
  agreed : Nat
  payment : Nat
  deriving DecidableEq, Repr, Inhabited

/-- The ticket number VOID carries, field by field as its six bytes spell it (12, Encodings): sales day,
1 for a known day, node number, serial. -/
structure TicketRef where
  day : Nat
  known : Nat
  node : Nat
  serial : Nat
  deriving DecidableEq, Repr, Inhabited

/-- What READ STATUS carries (R190): a section, PORT 1 to DOZE 11, and a first index. -/
structure StatusRequest where
  sect : Nat
  first : Nat
  deriving DecidableEq, Repr, Inhabited

/-- What a transfer of a request row carries (R177, R179). `clean r` is a SEND of a complete frame of the row's kind
whose check agrees and whose payload lays `r` out; `raw bytes` is every byte of the transfer as the unit processor
sent it, for the port to judge: the first byte names the transfer's type. -/
inductive Sent (α : Type) where
  | clean (request : α)
  | raw (bytes : List Byte)
  deriving DecidableEq, Repr

/-- A character received on the halt line (08, Electrical essentials): its data bits, and whether its stop
bit read as space. -/
structure LineChar where
  data : Byte
  framingError : Bool
  deriving DecidableEq, Repr

/-- How a frame of a peer reaches the receiver (R148). `clean` is a complete frame of the row's kind whose
check agrees, with its sender, its sequence number and its payload; `raw` is the run of characters of one busy
spell, for the receiver to judge. -/
inductive Heard (α : Type) where
  | clean (sender seq : Nat) (payload : α)
  | raw (chars : List LineChar)
  deriving DecidableEq, Repr

/-- The payload of a BEACON (R145). -/
structure BeaconPayload where
  day : Nat
  ms : Nat
  stratum : Nat
  roles : Roles
  sellerIndex : Nat
  timetable : Nat
  fare : Nat
  freeSlots : Nat
  deriving DecidableEq, Repr, Inhabited

/-- The payload of an ASK (R118); its ask number is the frame's sequence number. -/
structure AskPayload where
  train : TrainKey
  wanted : Nat
  deriving DecidableEq, Repr, Inhabited

/-- The payload of a GRANT (R118). -/
structure GrantPayload where
  asker : Nat
  number : Nat
  train : TrainKey
  count : Nat
  deriving DecidableEq, Repr, Inhabited

/-- The payload of a TAKEN (R118). -/
structure TakenPayload where
  granter : Nat
  number : Nat
  train : TrainKey
  count : Nat
  deriving DecidableEq, Repr, Inhabited

end Sys2Proof.Machine

namespace Sys2Proof

open Machine

/-- The commands of the part: one constructor per row of opcode_table.json. -/
inductive Instr where
  -- requests of the unit processor (10, Requests at a glance)
  | start (x : Sent StartRequest)
  | restart (x : Sent Unit)
  | setTime (x : Sent SetTimeRequest)
  | loadBegin (x : Sent LoadBeginRequest)
  | loadTrain (x : Sent TrainRecord)
  | loadEnd (x : Sent Unit)
  | loadAbort (x : Sent Unit)
  | trainUpdate (x : Sent Update)
  | faresBegin (x : Sent Nat)
  | faresItem (x : Sent FareItem)
  | faresEnd (x : Sent Unit)
  | faresAbort (x : Sent Unit)
  | quote (x : Sent FareInputs)
  | issue (x : Sent IssueRequest)
  | abortIssue (x : Sent Unit)
  | void (x : Sent TicketRef)
  | readJournal (x : Sent Nat)
  | releaseJournal (x : Sent Nat)
  | takeNotices (x : Sent Unit)
  | readPage (x : Sent Unit)
  | readStatus (x : Sent StatusRequest)
  | clearFlags (x : Sent Unit)
  | doze (x : Sent Unit)
  /-- A FETCH transfer: the FETCH marker, then `bytes` bytes of filler, each of which shifts one byte out after the
  port status (R177, R180). -/
  | fetch (bytes : Nat)
  -- supply and reset
  | powerOn
  | resetPin
  | mainSupplyLoss
  | backupLoss
  /-- Self-test ends; the operand says whether the working memory passed its test (R194). -/
  | selfTestEnd (memoryPasses : Bool)
  | lineTimeEnd
  -- the clock
  | minuteEvent
  | slewPeriod
  | sourceDeadline
  | referenceLapse
  -- deadlines
  | refreshDeadline (train : TrainKey)
  | intervalDeadline
  | askTime
  | issueDeadline
  | watchExpiry (asker number : Nat)
  | takenDeadline (train : TrainKey) (asker number : Nat)
  | silentDeadline (node : Nat)
  | goneDeadline (node : Nat)
  | beaconDeadline
  | holdOffDeadline
  -- keys
  | keyInputChange (key : Key) (low : Bool)
  | settleDeadline (key : Key)
  -- the halt line, the part's own side
  | lineBusy
  | lineQuiet
  | slotEnd
  | sentWhole
  | collision
  | breakEnd
  -- the halt line, frames heard
  | badFrame
  | malformedFrame
  | beacon (x : Heard BeaconPayload)
  | train (x : Heard Update)
  | ask (x : Heard AskPayload)
  | grant (x : Heard GrantPayload)
  | taken (x : Heard TakenPayload)
  | resetPinRelease
  deriving DecidableEq, Repr

end Sys2Proof
end

