-- ==== Sys2Proof/Decode.lean ====
section
/-! DEFINITION. Commands spelt as words. The table gives no row any bits, so no word spells a command; the bytes
that carry a request or a frame are read by the port and by the receiver (Machine/Formats.lean). -/

namespace Sys2Proof

/-- The command that `nbits` bits `w` spell by the table's bits: none, since no row has bits. -/
def decodeTableWord (_nbits _w : Nat) : Option Instr := none

end Sys2Proof
end

