-- ==== Sys2Proof/Machine/Types.lean ====
section
/-! DEFINITION. The records the part's state is made of, and the records it carries out: entries, tables, journal
and ledger records, frames, notices, pages, replies and status reports. -/

namespace Sys2Proof.Machine

/-! ### Codes -/

/-- The part state (10, Part states). -/
inductive PartState where
  | selfTest
  | waitingStart
  | running
  | dozing
  | fault
  deriving DecidableEq, Repr, Inhabited

/-- The kind of a reset (R194). -/
inductive ResetKind where
  | powerOn
  | resetPin
  | restart
  deriving DecidableEq, Repr, Inhabited

/-- The result of a self-test (R194). -/
inductive SelfTestResult where
  | pass
  | retainedLost
  | memoryFault
  deriving DecidableEq, Repr, Inhabited

/-- What a start left of the retained store (R175, R194). -/
inductive StoreState where
  | kept
  | cleared
  deriving DecidableEq, Repr, Inhabited

/-- The request kinds, in the order of the request table (10, Requests at a glance). -/
inductive RequestKind where
  | start
  | restart
  | setTime
  | loadBegin
  | loadTrain
  | loadEnd
  | loadAbort
  | trainUpdate
  | faresBegin
  | faresItem
  | faresEnd
  | faresAbort
  | quote
  | issue
  | abortIssue
  | void
  | readJournal
  | releaseJournal
  | takeNotices
  | readPage
  | readStatus
  | clearFlags
  | doze
  deriving DecidableEq, Repr, Inhabited

/-- The result codes (12, Code values). -/
inductive ResultCode where
  | done
  | accepted
  | busy
  | notStarted
  | locked
  | notRole
  | badRequest
  | fault
  | badFrame
  | portBusy
  | backwardDay
  | noTransfer
  | shortLoad
  | listFull
  | stale
  | tableFull
  | noFares
  | badCount
  | noFare
  | noProduct
  | trainRequired
  | badConcession
  | fareOverflow
  | trainNotSellable
  | noQuota
  | journalFull
  | serialExhausted
  | quotaExhausted
  | aborted
  | trainCancelled
  | trainGone
  | fareChanged
  | noIssue
  | voidRefused
  | badRelease
  | wakePending
  deriving DecidableEq, Repr, Inhabited

/-- The kinds of frame on the halt line (R149). -/
inductive FrameKind where
  | beacon
  | train
  | ask
  | grant
  | taken
  deriving DecidableEq, Repr, Inhabited

/-- The classes of the transmit store (08, The transmit store). -/
inductive FrameClass where
  | urgent
  | normal
  | bulk
  deriving DecidableEq, Repr, Inhabited

/-- The fourteen notice kinds (R165). -/
inductive NoticeKind where
  | start
  | clock
  | board
  | page
  | sale
  | quota
  | peer
  | edition
  | sellerClash
  | duplicateNode
  | line
  | key
  | wake
  | lost
  deriving DecidableEq, Repr, Inhabited

/-- The causes of every kind (09, The kinds and their owners; R202; R204). -/
inductive NoticeCause where
  | none
  | set
  | step
  | disagree
  | update
  | created
  | gone
  | full
  | done
  | refused
  | overrun
  | share
  | ledgerFull
  | grantIn
  | grantOut
  | doubtful
  | lapse
  | timetable
  | fare
  | keyA
  | keyB
  | wakeKey
  | wakeNotice
  | wakeDeparture
  | wakeRequest
  deriving DecidableEq, Repr, Inhabited

/-- The state of a departure entry (R20). -/
inductive EntryState where
  | listed
  | due
  | gone
  | cancelled
  deriving DecidableEq, Repr, Inhabited

/-- The display state of a page row (R50). -/
inductive DisplayState where
  | onTime
  | expected
  | delayed
  | cancelled
  | due
  deriving DecidableEq, Repr, Inhabited

/-- The state of a peer record (R135). -/
inductive PeerState where
  | absent
  | present
  | silent
  | gone
  deriving DecidableEq, Repr, Inhabited

/-- The rounding modes (R70). -/
inductive RoundingMode where
  | halfUp
  | down
  | up
  deriving DecidableEq, Repr, Inhabited

/-- What became of the last SEND (R178). -/
inductive SendOutcome where
  | none
  | taken
  | badFrame
  | portBusy
  deriving DecidableEq, Repr, Inhabited

/-- The TRAIN frame the store holds for an entry (R20, frame in store). -/
inductive EntryFrame where
  | update
  | correction
  | announce
  deriving DecidableEq, Repr, Inhabited

/-! ### The start record (R185) -/

/-- The fields of a start record, in the order of R185's table. -/
inductive StartField where
  | node
  | roles
  | sellerCount
  | sellerIndex
  | beaconPeriod
  | refreshPeriod
  | rolloverMinute
  | holdOff
  | roundingStep
  | roundingMode
  | minimumFare
  | masks
  | rows
  | platformFilter
  | pageInterval
  | horizon
  | wakeLead
  | keyEnables
  deriving DecidableEq, Repr, Inhabited

/-- A start record in force: after clamping, with defaults filled in (R186, R187). -/
structure StartRecord where
  node : Nat
  roles : Roles
  sellerCount : Nat
  sellerIndex : Nat
  beaconPeriod : Nat
  refreshPeriod : Nat
  rolloverMinute : Nat
  holdOff : Nat
  roundingStep : Nat
  roundingMode : RoundingMode
  minimumFare : Nat
  masks : Masks
  rows : Nat
  platformFilter : Nat
  pageInterval : Nat
  horizon : Nat
  wakeLead : Nat
  keyA : Bool
  keyB : Bool
  deriving DecidableEq, Repr, Inhabited

/-! ### The clock -/

/-- A clock reading: day number and ms-of-day. -/
structure Reading where
  day : Nat
  ms : Nat
  deriving DecidableEq, Repr, Inhabited

/-! ### The departure list and its pages -/

/-- The frame an entry has in the store: its kind, and which used slot it is (log 24). -/
structure FrameMark where
  kind : EntryFrame
  frame : Nat
  deriving DecidableEq, Repr, Inhabited

/-- A departure entry (R20). -/
structure Entry where
  train : TrainKey
  destination : Nat
  scheduled : Nat
  estimate : Estimate
  expected : Option Nat
  platform : Nat
  platformChanged : Bool
  calling : List Nat
  serial : Nat
  clamped : Bool
  quotaTotal : Nat
  linked : Bool
  refreshDeadline : Option Nat
  frame : Option FrameMark
  state : EntryState
  deriving DecidableEq, Repr, Inhabited

/-- The load transfer record (R27). -/
structure LoadTransfer where
  edition : Nat
  declared : Nat
  taken : Nat
  kept : Nat
  refused : Nat
  deriving DecidableEq, Repr, Inhabited

/-- A row of a page (R50). -/
structure PageRow where
  trainId : Nat
  destination : Nat
  calling : List Nat
  platform : Nat
  platformChanged : Bool
  scheduled : Nat
  display : DisplayState
  expected : Option Nat
  unordered : Bool
  deriving DecidableEq, Repr, Inhabited

/-- A page record (R51). -/
structure PageRecord where
  number : Nat
  count : Nat
  clockSet : Bool
  rows : List PageRow
  deriving DecidableEq, Repr, Inhabited

/-! ### Fares -/

/-- A set of the four fare tables (R60 to R64). -/
structure TableSet where
  destinations : List DestinationRecord
  products : List ProductRecord
  concessions : List ConcessionRecord
  bands : List Band
  deriving DecidableEq, Repr, Inhabited

/-- An open fare transfer (R60). -/
structure FareTransfer where
  edition : Nat
  staged : TableSet
  deriving DecidableEq, Repr, Inhabited

/-- A set of the eight result flags (R81). -/
structure FareFlags where
  count : Bool
  concession : Bool
  untimed : Bool
  inexact : Bool
  roundedUp : Bool
  overflow : Bool
  floored : Bool
  capped : Bool
  deriving DecidableEq, Repr, Inhabited

/-- The result record of a completed computation (R81). -/
structure FareResult where
  amount : Nat
  flags : FareFlags
  band : Option Nat
  adults : Nat
  children : Nat
  placesNeeded : Nat
  edition : Nat
  deriving DecidableEq, Repr, Inhabited

/-- A computation completes or is refused (R71). -/
inductive FareVerdict where
  | fare (result : FareResult)
  | refused (code : ResultCode)
  deriving DecidableEq, Repr, Inhabited

/-! ### Sales -/

/-- A ticket number; the day is none for the mark "unknown" (R99). -/
structure TicketNumber where
  day : Option Nat
  node : Nat
  serial : Nat
  deriving DecidableEq, Repr, Inhabited

/-- The issue record of an issue in flight (R89); its state is WAITING. -/
structure IssueRecord where
  request : IssueRequest
  needed : Nat
  reserved : Nat
  asks : Nat
  askTime : Option Nat
  deadline : Nat
  deriving DecidableEq, Repr, Inhabited

/-- The fields of a SALE record (R103). -/
structure SaleFields where
  ticket : TicketNumber
  product : Nat
  destination : Nat
  fareClass : FareClass
  concession : Option Nat
  adults : Nat
  children : Nat
  train : Option TrainKey
  amount : Nat
  flags : FareFlags
  band : Option Nat
  placesUsed : Nat
  payment : Nat
  deriving DecidableEq, Repr, Inhabited

/-- The day totals (R107). -/
structure DayTotals where
  tickets : Nat
  sum : Nat
  voids : Nat
  voidSum : Nat
  deriving DecidableEq, Repr, Inhabited

/-- The four kinds of journal record (R103). -/
inductive JournalBody where
  | sale (fields : SaleFields)
  | void (ticket : TicketNumber) (amount : Nat)
  | dayClose (day : Nat) (totals : DayTotals)
  | start (kind : ResetKind) (store : StoreState)
  deriving DecidableEq, Repr, Inhabited

/-- A journal record: its number, its clock stamp with the mark of R102, and its body. -/
structure JournalRecord where
  number : Nat
  stamp : Reading
  stampSet : Bool
  body : JournalBody
  deriving DecidableEq, Repr, Inhabited

/-- The void window: the newest ticket and the line time of its commit (R85, R97). -/
structure VoidWindow where
  ticket : TicketNumber
  committed : Nat
  deriving DecidableEq, Repr, Inhabited

/-! ### Quota places -/

/-- The state of a grant record (R111). LENDING names the used slot of its GRANT frame (log 24), AWAITING its
TAKEN deadline. -/
inductive GrantState where
  | lending (frame : Nat)
  | awaiting (deadline : Nat)
  | doubtful
  deriving DecidableEq, Repr, Inhabited

/-- A grant record (R111). -/
structure GrantRecord where
  asker : Nat
  number : Nat
  count : Nat
  state : GrantState
  collided : Bool
  made : Option Nat
  deriving DecidableEq, Repr, Inhabited

/-- A ledger record (R110). -/
structure LedgerRecord where
  train : TrainKey
  quotaTotal : Nat
  share : Nat
  received : Nat
  held : Nat
  reserved : Nat
  lending : Nat
  awaiting : Nat
  lent : Nat
  doubtful : Nat
  sold : Nat
  lapsed : Nat
  grants : List GrantRecord
  deriving DecidableEq, Repr, Inhabited

/-- A record of the ask watch (R122). -/
structure WatchRecord where
  asker : Nat
  number : Nat
  train : TrainKey
  wanted : Nat
  heardGranted : Nat
  heard : Nat
  deriving DecidableEq, Repr, Inhabited

/-- The count taken from one granter (R119). -/
structure Taking where
  granter : Nat
  count : Nat
  deriving DecidableEq, Repr, Inhabited

/-- A record of the ask list (R119). -/
structure AskRecord where
  number : Nat
  train : TrainKey
  wanted : Nat
  sent : Nat
  takings : List Taking
  deriving DecidableEq, Repr, Inhabited

/-! ### Peers and the line -/

/-- What a node's last beacon advertised (R135). -/
structure Advert where
  roles : Roles
  sellerIndex : Nat
  stratum : Nat
  timetable : Nat
  fare : Nat
  freeSlots : Nat
  deriving DecidableEq, Repr, Inhabited

/-- A peer record (R135); the advertised fields are unknown together until the first beacon. -/
structure PeerRecord where
  node : Nat
  state : PeerState
  lastHeard : Option Nat
  lastSeq : Option Nat
  silentDeadline : Option Nat
  goneDeadline : Option Nat
  advert : Option Advert
  clash : Bool
  deriving DecidableEq, Repr, Inhabited

/-- What a used slot holds to send: a BEACON takes its contents at each attempt (R145, R151). -/
inductive FrameBody where
  | beacon
  | train (u : Update)
  | ask (a : AskPayload)
  | grant (g : GrantPayload)
  | taken (t : TakenPayload)
  deriving DecidableEq, Repr, Inhabited

/-- A used slot of the transmit store (R151). `id` tells it from the other used slots (log 24). -/
structure Slot where
  id : Nat
  cls : FrameClass
  seq : Nat
  body : FrameBody
  attempts : Nat
  wait : Option Nat
  deriving DecidableEq, Repr, Inhabited

/-- The transmitter's state and its chosen frame (R154). -/
inductive Transmitter where
  | idle
  | counting (frame : Nat)
  | paused (frame : Nat)
  | sending (frame : Nat)
  | breaking (frame : Nat)
  deriving DecidableEq, Repr, Inhabited

/-- The payload of a frame on the line (12, The halt line frame). -/
inductive Payload where
  | beacon (b : BeaconPayload)
  | train (u : Update)
  | ask (a : AskPayload)
  | grant (g : GrantPayload)
  | taken (t : TakenPayload)
  deriving DecidableEq, Repr, Inhabited

/-- A frame on the line: sender, sequence number, payload. -/
structure LineFrame where
  sender : Nat
  seq : Nat
  payload : Payload
  deriving DecidableEq, Repr, Inhabited

/-- The line counts (R162). -/
structure LineCounts where
  bad : Nat
  malformed : Nat
  duplicate : Nat
  collision : Nat
  giveUp : Nat
  urgentStarved : Nat
  normalStarved : Nat
  bulkStarved : Nat
  deriving DecidableEq, Repr, Inhabited

/-! ### Notices -/

/-- What a notice is about (R164). -/
inductive Subject where
  | none
  | train (t : TrainKey)
  | ticket (t : TicketNumber)
  | ask (asker number : Nat)
  deriving DecidableEq, Repr, Inhabited

/-- A notice (R164). A source of none is "own". The line time is the one of its storing. -/
structure Notice where
  kind : NoticeKind
  cause : NoticeCause
  source : Option Nat
  subject : Subject
  first : Int
  second : Int
  lineTime : Nat
  deriving DecidableEq, Repr, Inhabited

/-- The four wake causes (R202), each with what its WAKE notice carries. -/
inductive WakeCause where
  | key (k : Key)
  | notice (k : NoticeKind)
  | departure (t : TrainKey) (minute : Nat)
  | request (k : RequestKind)
  deriving DecidableEq, Repr, Inhabited

/-- A wake and the length of its doze in whole seconds (R199, R203). -/
structure LastWake where
  cause : WakeCause
  length : Nat
  deriving DecidableEq, Repr, Inhabited

/-- A key's debouncer (R204): input level, settled level (LOW is true), settle deadline, press count. -/
structure KeyState where
  inputLow : Bool
  settledLow : Bool
  settleDeadline : Option Nat
  presses : Nat
  deriving DecidableEq, Repr, Inhabited

/-- The start that preceded (R191, R198). -/
structure StartInfo where
  kind : ResetKind
  result : Option SelfTestResult
  store : Option StoreState
  deriving DecidableEq, Repr, Inhabited

/-! ### Status reports (R190): one structure per section -/

/-- R191. -/
structure PortReport where
  state : PartState
  record : Option StartRecord
  clampSet : List StartField
  start : StartInfo
  taken : Nat
  badFrame : Nat
  portBusy : Nat
  deriving DecidableEq, Repr

/-- R19. -/
structure ClockReport where
  lineTime : Nat
  reading : Reading
  set : Bool
  stratum : Nat
  source : Option Nat
  pending : Int
  referenceMinutes : Nat
  salesDay : Option Nat
  disagree : Bool
  rolloverMinute : Nat
  deriving DecidableEq, Repr

/-- R46. -/
structure BoardReport where
  full : Nat
  unknown : Nat
  stale : Nat
  edition : Nat
  entries : Nat
  listed : Nat
  due : Nat
  gone : Nat
  cancelled : Nat
  load : Option LoadTransfer
  deriving DecidableEq, Repr

/-- The page builder's four settings (R47). -/
structure PageSettings where
  rows : Nat
  platformFilter : Nat
  pageInterval : Nat
  horizon : Nat
  deriving DecidableEq, Repr

/-- R59. -/
structure PageReport where
  running : Bool
  index : Nat
  count : Nat
  shown : Nat
  intervalLeft : Option Nat
  settings : Option PageSettings
  deriving DecidableEq, Repr

/-- The number of records in each of four tables (R66, R84). -/
structure TableCounts where
  destinations : Nat
  products : Nat
  concessions : Nat
  bands : Nat
  deriving DecidableEq, Repr

/-- The fare settings of the start record (R70). -/
structure FareSettings where
  step : Nat
  mode : RoundingMode
  minimum : Nat
  masks : Masks
  deriving DecidableEq, Repr

/-- R84. -/
structure FaresReport where
  edition : Nat
  active : Option TableCounts
  transfer : Option (Nat × TableCounts)
  settings : Option FareSettings
  sticky : FareFlags
  deriving DecidableEq, Repr

/-- The issue in flight as R109 reports it. -/
structure IssueReport where
  needed : Nat
  reserved : Nat
  asks : Nat
  deadlineLeft : Nat
  payment : Nat
  deriving DecidableEq, Repr

/-- R109. -/
structure SalesReport where
  issue : Option IssueReport
  unreleased : Nat
  oldest : Option Nat
  newest : Option Nat
  next : Option Nat
  salesLeft : Nat
  totals : DayTotals
  nextSerial : Nat
  voidTicket : Option TicketNumber
  voidLeft : Option Nat
  overrun : Nat
  deriving DecidableEq, Repr

/-- A ledger record as R133 reports it. -/
structure LedgerReport where
  train : TrainKey
  quotaTotal : Nat
  share : Nat
  received : Nat
  held : Nat
  reserved : Nat
  lending : Nat
  awaiting : Nat
  lent : Nat
  doubtful : Nat
  sold : Nat
  lapsed : Nat
  grants : Nat
  deriving DecidableEq, Repr

/-- R133. -/
structure QuotaReport where
  records : Nat
  shown : List LedgerReport
  watch : Nat
  asks : Nat
  blind : Bool
  ignoredGrants : Nat
  unmatchedTaken : Nat
  ledgerFull : Nat
  forgoneGrants : Nat
  deriving DecidableEq, Repr

/-- A peer record as R146 reports it. -/
structure PeerReport where
  node : Nat
  state : PeerState
  sinceHeard : Option Nat
  advert : Option Advert
  clash : Bool
  deriving DecidableEq, Repr

/-- R146. -/
structure PeersReport where
  records : Nat
  shown : List PeerReport
  beaconLeft : Option Nat
  beaconInStore : Bool
  noticedTimetable : Nat
  noticedFare : Nat
  skipped : Nat
  duplicateNode : Nat
  unheeded : Nat
  peerGone : Nat
  deriving DecidableEq, Repr

/-- The chosen frame as R163 reports it. -/
structure ChosenReport where
  kind : FrameKind
  cls : FrameClass
  seq : Nat
  attempts : Nat
  wait : Option Nat
  deriving DecidableEq, Repr

/-- The transmitter state without its frame (R163). -/
inductive TransmitterState where
  | idle
  | counting
  | paused
  | sending
  | breaking
  deriving DecidableEq, Repr

/-- R163. -/
structure LineReport where
  busy : Bool
  sinceChange : Nat
  transmitter : TransmitterState
  chosen : Option ChosenReport
  urgent : Nat
  normal : Nat
  bulk : Nat
  free : Nat
  nextSeq : Nat
  counts : LineCounts
  deriving DecidableEq, Repr

/-- R176. -/
structure NoticesReport where
  waiting : Nat
  wakeWaiting : Bool
  lostCount : Nat
  firstLost : Option NoticeKind
  lostTotal : Nat
  holdOff : Nat
  attention : Bool
  holdOffLeft : Option Nat
  deriving DecidableEq, Repr

/-- R199. -/
structure DozeReport where
  state : PartState
  wakeLead : Option Nat
  keyAEnabled : Option Bool
  keyBEnabled : Option Bool
  keyALow : Bool
  keyAPresses : Nat
  keyBLow : Bool
  keyBPresses : Nat
  sinceDoze : Option Nat
  dozeCount : Nat
  lastWake : Option LastWake
  deriving DecidableEq, Repr

/-- The report of one section (R190). -/
inductive StatusReport where
  | port (r : PortReport)
  | clock (r : ClockReport)
  | board (r : BoardReport)
  | page (r : PageReport)
  | fares (r : FaresReport)
  | sales (r : SalesReport)
  | quota (r : QuotaReport)
  | peers (r : PeersReport)
  | line (r : LineReport)
  | notices (r : NoticesReport)
  | doze (r : DozeReport)
  deriving DecidableEq, Repr

/-! ### Replies (R180) -/

/-- How a FARES ITEM was taken (R66). -/
inductive ItemMark where
  | added
  | replaced
  deriving DecidableEq, Repr

/-- How a LOAD TRAIN was taken (R28). -/
inductive LoadMark where
  | taken
  | kept
  deriving DecidableEq, Repr

/-- The reasons of VOID_REFUSED, in the order of R100's table. -/
inductive VoidReason where
  | notFound
  | notNewest
  | alreadyVoid
  | tooLate
  deriving DecidableEq, Repr

/-- The reasons of a DOZE refusal, in the order of R200's table. -/
inductive DozeReason where
  | issue
  | load
  | fares
  | notice
  | departure
  deriving DecidableEq, Repr

/-- The payload of a reply: the fields its owning rule gives. -/
inductive ReplyBody where
  | empty
  | startDone (clampSet : List StartField) (record : StartRecord)
  | startField (field : StartField)
  | time (stratum : Nat) (salesDay : Option Nat)
  | loadMark (mark : LoadMark)
  | loadEnd (edition taken kept refused : Nat)
  | loadCounts (taken kept refused : Nat)
  | update (state : EntryState) (clamped queued : Bool)
  | staged (mark : ItemMark) (counts : TableCounts)
  | faresEnd (edition : Nat) (counts : TableCounts)
  | stagedCounts (counts : TableCounts)
  | quote (result : FareResult) (state : Option EntryState) (onHand : Option Nat)
  | ticket (record : JournalRecord)
  | voidReason (reason : VoidReason)
  | voidDone (number : Nat)
  | journal (unreleased : Nat) (records : List JournalRecord)
  | released (released left : Nat)
  | notices (taken : List Notice) (left lostCount : Nat)
  | page (record : PageRecord)
  | status (report : StatusReport)
  | flags (sticky : FareFlags)
  | dozeReason (reason : DozeReason) (train : Option TrainKey)
  deriving DecidableEq, Repr

/-- A reply frame (R180): the kind byte of the request it answers, a result code and a payload. -/
structure Reply where
  kind : Nat
  result : ResultCode
  body : ReplyBody
  deriving DecidableEq, Repr

/-- The port status shifted out at the start of a transfer (R178). -/
structure PortStatus where
  state : PartState
  replyHeld : Bool
  outcome : SendOutcome
  deriving DecidableEq, Repr

/-- What the part shifted out in a transfer (R177, R180, R206): the port status, and after it the bytes of a FETCH; none
in a SEND or a STATUS, where filler alone follows the port status for as long as the transfer lasts. -/
structure TransferOut where
  status : PortStatus
  fetched : Option (List Byte)
  deriving DecidableEq, Repr

end Sys2Proof.Machine
end

