-- ==== Sys2Proof/Config.lean ====
section
/-! DEFINITION. What the manual leaves open: free values. None of them has a body, so nothing can be proved of
their values; each is applied to the part's draw counter or to the operand it depends on. -/

namespace Sys2Proof.Config

/-- The random number behind a backoff draw; its user keeps it within 0..2^m − 1 (R155). DESIGN CHOICE, log 10. -/
opaque backoffDraw : Nat → Nat

/-- Which of the events that came due at one millisecond is queued next. DESIGN CHOICE, log 2. -/
opaque eventOrder : Nat → Nat

/-- The order in which the three receivers take a minute event (R54, R202). DESIGN CHOICE, log 11. -/
opaque receiverOrder : Nat → Nat

/-- Whether the working memory passes a self-test that runs its full 50 ms (R194). DESIGN CHOICE, log 6. -/
opaque workingMemoryPasses : Nat → Bool

/-- The class meant by a class code other than 0 and 1, which 12_frame_and_record_formats.md does not name.
DESIGN CHOICE, log 15. -/
opaque classOfCode : Nat → Machine.FareClass

/-- The reference option meant by an option byte other than 0 and 1. DESIGN CHOICE, log 15. -/
opaque referenceOfByte : Nat → Bool

/-- The payload bytes of a reply whose layout the manual does not give (00_scope.md); its user keeps them within 240
(R180). DESIGN CHOICE, log 17. -/
opaque unstatedPayload : Machine.Reply → List Byte

end Sys2Proof.Config
end

