-- ==== Sys2Proof/Machine/State.lean ====
section
/-! DEFINITION. The state of the part, block by block, with its values after reset. -/

namespace Sys2Proof.Machine

/-- The supplies and the reset pin (R193, R194). `backupLow`: the backup supply has fallen too low to hold the retained
store (log 33). -/
structure Supply where
  mainOn : Bool
  backupLow : Bool
  resetHeld : Bool
  deriving DecidableEq, Repr

/-- What the backup domain knows of the retained store (R192, R193). The store's contents stand with their
owners: the clock's reading, sales day and rollover minute; the sales unit's journal, numbers and totals; the
quota ledger and blind mark. -/
structure RetainedMarks where
  lossMark : Bool
  checkAgrees : Bool
  deriving DecidableEq, Repr

/-- The halt clock (R3, R4, R6, R11, R13, R17). A source of none is "own"; a sales day of none is "unknown". -/
structure HaltClock where
  reading : Reading
  stratum : Nat
  source : Option Nat
  sourceDeadline : Option Nat
  pending : Int
  periodStart : Nat
  referenceDeadline : Option Nat
  salesDay : Option Nat
  rolloverMinute : Nat
  disagree : Bool
  lastEventMinute : Option Nat
  deriving DecidableEq, Repr

/-- The departure list (R20, R27, R46). -/
structure DepartureList where
  entries : List Entry
  load : Option LoadTransfer
  edition : Nat
  fullCount : Nat
  unknownCount : Nat
  staleCount : Nat
  deriving DecidableEq, Repr

/-- The page builder (R47, R48). -/
structure PageBuilder where
  held : PageRecord
  index : Nat
  deadline : Option Nat
  shown : Nat
  deriving DecidableEq, Repr

/-- The fare calculator (R60). -/
structure FareCalculator where
  active : Option TableSet
  edition : Nat
  transfer : Option FareTransfer
  sticky : FareFlags
  deriving DecidableEq, Repr

/-- The sales unit (R85); a next journal number of none is "spent". The journal stands oldest first. -/
structure SalesUnit where
  issue : Option IssueRecord
  journal : List JournalRecord
  nextNumber : Option Nat
  totals : DayTotals
  nextSerial : Nat
  voidWindow : Option VoidWindow
  overrun : Nat
  deriving DecidableEq, Repr

/-- The quota unit (R110, R112). -/
structure QuotaUnit where
  ledger : List LedgerRecord
  watch : List WatchRecord
  asks : List AskRecord
  blind : Bool
  ignoredGrants : Nat
  unmatchedTaken : Nat
  ledgerFull : Nat
  forgoneGrants : Nat
  deriving DecidableEq, Repr

/-- The peer table (R135). -/
structure PeerTable where
  records : List PeerRecord
  beaconDeadline : Option Nat
  noticedTimetable : Nat
  noticedFare : Nat
  duplicateNodeTime : Option Nat
  skipped : Nat
  duplicateNode : Nat
  unheeded : Nat
  peerGone : Nat
  deriving DecidableEq, Repr

/-- The line interface (R147, R151, R154, R162). The used slots stand in the order they were taken; a class
queue is the sublist of its class. `onLine` is the frame whose attempt is under way (R157). -/
structure LineInterface where
  busy : Bool
  changedAt : Nat
  slots : List Slot
  tx : Transmitter
  nextSeq : Nat
  nextFrame : Nat
  counts : LineCounts
  onLine : Option LineFrame
  deriving DecidableEq, Repr

/-- The notice queue (R166, R167, R170), oldest first. -/
structure NoticeQueue where
  entries : List Notice
  lostCount : Nat
  firstLost : Option NoticeKind
  lostTotal : Nat
  deadline : Option Nat
  attention : Bool
  deriving DecidableEq, Repr

/-- The unit port (R178). -/
structure UnitPort where
  reply : Option Reply
  outcome : SendOutcome
  taken : Nat
  badFrame : Nat
  portBusy : Nat
  record : Option StartRecord
  clampSet : List StartField
  lastTransfer : Option TransferOut
  deriving DecidableEq, Repr

/-- Doze and keys (R199, R204). -/
structure DozeKeys where
  state : PartState
  keyA : KeyState
  keyB : KeyState
  dozeStart : Option Nat
  dozeCount : Nat
  lastWake : Option LastWake
  deriving DecidableEq, Repr

/-- The part: every block's state, and the counter its free values are drawn with (log 10). -/
structure Part where
  lineTime : Nat
  supply : Supply
  retained : RetainedMarks
  start : StartInfo
  clock : HaltClock
  board : DepartureList
  page : PageBuilder
  fares : FareCalculator
  sales : SalesUnit
  quota : QuotaUnit
  peers : PeerTable
  line : LineInterface
  notices : NoticeQueue
  port : UnitPort
  doze : DozeKeys
  draws : Nat
  deriving DecidableEq, Repr

/-- The machine: the part, and the commands that wait, first in, first out. -/
structure State where
  part : Part
  pending : List Instr
  deriving DecidableEq, Repr

/-- Why a step could stop with a fault: no reason exists. The manual gives every command an effect in every
state; what it calls FAULT is a part state (R197). -/
inductive Fault where
  deriving DecidableEq, Repr

/-- Why a step could be refused by the model. -/
inductive Refusal where
  /-- Raised by `exec` alone, for a command that has no meaning yet. Safe: nothing is claimed of it. -/
  | notModelled (mnemonic : String)
  deriving DecidableEq, Repr

/-! ### Values after reset -/

/-- The retained contents are lost and the loss is marked (R193). What stands in them is left as it was; nothing reads
it before the cold start (log 9). -/
def RetainedMarks.lost : RetainedMarks := { lossMark := true, checkAgrees := false }

/-- The cold reading (R18, R195). -/
def Reading.zero : Reading := ⟨0, 0⟩

/-- R18, cold start. -/
def HaltClock.cold : HaltClock :=
  { reading := Reading.zero, stratum := 15, source := none, sourceDeadline := none, pending := 0, periodStart := 0,
    referenceDeadline := none, salesDay := none, rolloverMinute := 150, disagree := false, lastEventMinute := none }

/-- R45. -/
def DepartureList.reset : DepartureList :=
  { entries := [], load := none, edition := 0, fullCount := 0, unknownCount := 0, staleCount := 0 }

/-- The reset record of R51. -/
def PageRecord.reset : PageRecord := { number := 0, count := 1, clockSet := false, rows := [] }

/-- R58. -/
def PageBuilder.reset : PageBuilder := { held := PageRecord.reset, index := 0, deadline := none, shown := 0 }

/-- No flag. -/
def FareFlags.none : FareFlags := ⟨false, false, false, false, false, false, false, false⟩

/-- R60. -/
def FareCalculator.reset : FareCalculator :=
  { active := none, edition := 0, transfer := none, sticky := FareFlags.none }

/-- R107, all 0. -/
def DayTotals.zero : DayTotals := ⟨0, 0, 0, 0⟩

/-- R85, cold start. -/
def SalesUnit.cold : SalesUnit :=
  { issue := none, journal := [], nextNumber := some 1, totals := DayTotals.zero, nextSerial := 1,
    voidWindow := none, overrun := 0 }

/-- R134, cold start. -/
def QuotaUnit.cold : QuotaUnit :=
  { ledger := [], watch := [], asks := [], blind := true, ignoredGrants := 0, unmatchedTaken := 0,
    ledgerFull := 0, forgoneGrants := 0 }

/-- R135. -/
def PeerRecord.absent (node : Nat) : PeerRecord :=
  { node, state := .absent, lastHeard := none, lastSeq := none, silentDeadline := none, goneDeadline := none,
    advert := none, clash := false }

/-- R135: a record for each node number 1..15. -/
def PeerTable.reset : PeerTable :=
  { records := [1, 2, 3, 4, 5, 6, 7, 8, 9, 10, 11, 12, 13, 14, 15].map PeerRecord.absent, beaconDeadline := none,
    noticedTimetable := 0, noticedFare := 0, duplicateNodeTime := none, skipped := 0, duplicateNode := 0,
    unheeded := 0, peerGone := 0 }

/-- R161. -/
def LineInterface.reset : LineInterface :=
  { busy := true, changedAt := 0, slots := [], tx := .idle, nextSeq := 0, nextFrame := 0,
    counts := ⟨0, 0, 0, 0, 0, 0, 0, 0⟩, onLine := none }

/-- R175. -/
def NoticeQueue.reset : NoticeQueue :=
  { entries := [], lostCount := 0, firstLost := none, lostTotal := 0, deadline := none, attention := false }

/-- R178. -/
def UnitPort.reset : UnitPort :=
  { reply := none, outcome := .none, taken := 0, badFrame := 0, portBusy := 0, record := none, clampSet := [],
    lastTransfer := none }

/-- R199, for a key whose input stands as given. -/
def KeyState.reset (inputLow : Bool) : KeyState :=
  { inputLow, settledLow := false, settleDeadline := some 20, presses := 0 }

/-- R199, for keys whose inputs stand as given. -/
def DozeKeys.reset (aLow bLow : Bool) : DozeKeys :=
  { state := .selfTest, keyA := KeyState.reset aLow, keyB := KeyState.reset bLow, dozeStart := none, dozeCount := 0,
    lastWake := none }

/-- The part right after a POWER_ON reset that finds no kept retained store. DESIGN CHOICE, log 4. -/
def Part.reset : Part :=
  { lineTime := 0
    supply := { mainOn := true, backupLow := false, resetHeld := false }
    retained := RetainedMarks.lost
    start := { kind := .powerOn, result := none, store := none }
    clock := HaltClock.cold
    board := DepartureList.reset
    page := PageBuilder.reset
    fares := FareCalculator.reset
    sales := SalesUnit.cold
    quota := QuotaUnit.cold
    peers := PeerTable.reset
    line := LineInterface.reset
    notices := NoticeQueue.reset
    port := UnitPort.reset
    doze := DozeKeys.reset false false
    draws := 0 }

/-- The machine right after reset: no command waits. -/
def State.reset : State := { part := Part.reset, pending := [] }

end Sys2Proof.Machine
end

