-- ==== Sys2Proof/Machine/Flags.lean ====
section
/-! DEFINITION. The result flags of a fare computation and the sticky fare flags (R81, R82). -/

namespace Sys2Proof.Machine

/-- Every flag of either set: how computations gather in the sticky fare flags (R82). -/
def FareFlags.union (a b : FareFlags) : FareFlags :=
  { count := a.count || b.count, concession := a.concession || b.concession, untimed := a.untimed || b.untimed,
    inexact := a.inexact || b.inexact, roundedUp := a.roundedUp || b.roundedUp, overflow := a.overflow || b.overflow,
    floored := a.floored || b.floored, capped := a.capped || b.capped }

/-- Each flag's weight in the fare flags byte (12, Encodings). -/
def FareFlags.code (f : FareFlags) : Nat :=
  f.count.toNat + 2 * f.concession.toNat + 4 * f.untimed.toNat + 8 * f.inexact.toNat + 16 * f.roundedUp.toNat
    + 32 * f.overflow.toNat + 64 * f.floored.toNat + 128 * f.capped.toNat

end Sys2Proof.Machine
end

