-- ==== Sys2Proof/Machine/Operands.lean ====
section
/-! DEFINITION. Views of the state: readings and minutes, the settings of the start record, departure entries and
their order, records found by their key. Nothing here changes state. -/

namespace Sys2Proof.Machine

/-! ### Readings (00_scope.md, Time; R2, R3) -/

/-- Milliseconds of a day. -/
def dayMs : Nat := 86400000

/-- The reading in ms: day number × 86,400,000 + ms-of-day. -/
def Reading.toMs (r : Reading) : Nat := r.day * dayMs + r.ms

/-- The reading of so many ms; past the last reading the clock stays at it (R2). DEDUCED for a source reading
past it, log 28. -/
def Reading.ofMs (n : Nat) : Reading :=
  if n < 65536 * dayMs then ⟨n / dayMs, n % dayMs⟩ else ⟨65535, 86399999⟩

/-- The reading after the clock gained `n` ms (R2). -/
def Reading.advance (r : Reading) (n : Nat) : Reading := Reading.ofMs (r.toMs + n)

/-- Minute-of-day. -/
def Reading.minuteOfDay (r : Reading) : Nat := r.ms / 60000

/-- Absolute minute. -/
def Reading.absMinute (r : Reading) : Nat := r.day * 1440 + r.minuteOfDay

/-- The computed sales day of a reading (R3). -/
def computedSalesDay (rollover : Nat) (r : Reading) : Nat :=
  if rollover ≤ r.minuteOfDay then r.day else r.day - 1

/-- The clock is set at every stratum but 15. -/
def HaltClock.isSet (c : HaltClock) : Bool := decide (c.stratum ≠ 15)

/-- now: the clock's absolute minute while it is set. -/
def HaltClock.now? (c : HaltClock) : Option Nat := if c.isSet then some c.reading.absMinute else none

/-! ### The part's states and settings -/

/-- The part is powered and not held in reset, so its blocks act. -/
def Part.up (p : Part) : Bool := p.supply.mainOn && !p.supply.resetHeld

/-- RUNNING or DOZING: a start record is in force and the blocks act on the halt. -/
def Part.awake (p : Part) : Bool := p.doze.state = .running || p.doze.state = .dozing

/-- The node number of the start record in force; 0 before one is. -/
def Part.ownNode (p : Part) : Nat := match p.port.record with | none => 0 | some r => r.node

/-- The roles of the start record in force; none before one is (R15). -/
def Part.roles (p : Part) : Roles := match p.port.record with | none => ⟨false, false, false⟩ | some r => r.roles

/-- The hold-off in force: 1 until a start record supplies H (R173, R175). -/
def Part.holdOff (p : Part) : Nat := match p.port.record with | none => 1 | some r => r.holdOff

/-- The beacon period in ms (R144). -/
def Part.beaconMs (p : Part) : Nat := match p.port.record with | none => 0 | some r => r.beaconPeriod * 1000

/-- The refresh period in ms (R42). -/
def Part.refreshMs (p : Part) : Nat := match p.port.record with | none => 0 | some r => r.refreshPeriod * 1000

/-- The page interval in ms (R52). -/
def Part.intervalMs (p : Part) : Nat := match p.port.record with | none => 0 | some r => r.pageInterval * 1000

/-- The wake lead in minutes (R199). -/
def Part.wakeLead (p : Part) : Nat := match p.port.record with | none => 0 | some r => r.wakeLead

/-- Whether a key is enabled (R199). -/
def Part.keyEnabled (p : Part) (k : Key) : Bool :=
  match p.port.record, k with
  | none, _ => false
  | some r, .a => r.keyA
  | some r, .b => r.keyB

/-- A key's debouncer. -/
def DozeKeys.key (d : DozeKeys) : Key → KeyState
  | .a => d.keyA
  | .b => d.keyB

/-- A key's debouncer changed. -/
def DozeKeys.setKey (d : DozeKeys) (k : Key) (v : KeyState) : DozeKeys :=
  match k with
  | .a => { d with keyA := v }
  | .b => { d with keyB := v }

/-- The page builder runs in RUNNING with the SHOWS role (R47). -/
def Part.pageRunning (p : Part) : Bool := decide (p.doze.state = .running) && p.roles.shows

/-- A deadline that line time has reached (R1). -/
def reached (now : Nat) : Option Nat → Bool
  | none => false
  | some d => decide (d ≤ now)

/-- The line time left to a deadline. -/
def timeLeft (now : Nat) (d : Option Nat) : Option Nat := d.map (· - now)

/-! ### Departure entries (R20, R21, R26) -/

/-- The absolute form of a train minute: service day × 1,440 plus the minute. -/
def absTrainMinute (t : TrainKey) (minute : Nat) : Nat := t.day * 1440 + minute

/-- The effective minute (R21), in train minutes. -/
def Entry.effective? (e : Entry) : Option Nat :=
  match e.estimate with
  | .onTime => some e.scheduled
  | .expected => some (e.expected.getD e.scheduled)
  | .delayed => none
  | .cancelled => some e.scheduled

/-- The sort minute (R21), in train minutes. -/
def Entry.sortMinute (e : Entry) : Nat := e.effective?.getD e.scheduled

/-- The absolute scheduled minute. -/
def Entry.absScheduled (e : Entry) : Nat := absTrainMinute e.train e.scheduled

/-- The absolute sort minute. -/
def Entry.absSort (e : Entry) : Nat := absTrainMinute e.train e.sortMinute

/-- LISTED or DUE: the train may be sold. -/
def Entry.sellable (e : Entry) : Bool := e.state = .listed || e.state = .due

/-- Board order by its three keys and the service day (R26). -/
def Entry.before (a b : Entry) : Bool :=
  if a.absSort ≠ b.absSort then decide (a.absSort < b.absSort)
  else if a.absScheduled ≠ b.absScheduled then decide (a.absScheduled < b.absScheduled)
  else if a.train.id ≠ b.train.id then decide (a.train.id < b.train.id)
  else decide (a.train.day ≤ b.train.day)

/-- `e` put into a list that stands in board order. -/
def insertInOrder (e : Entry) : List Entry → List Entry
  | [] => [e]
  | x :: xs => if e.before x then e :: x :: xs else x :: insertInOrder e xs

/-- The entries in board order (R26). -/
def boardOrder : List Entry → List Entry
  | [] => []
  | e :: es => insertInOrder e (boardOrder es)

/-- What evaluation at `now` gives (R22, R23, R24). -/
def Entry.judged (e : Entry) (now : Nat) : EntryState :=
  match e.state with
  | .gone => .gone
  | .cancelled => if e.absScheduled + 15 ≤ now then .gone else .cancelled
  | .listed | .due =>
    match e.effective? with
    | none => if e.absScheduled + 120 ≤ now then .gone else e.state
    | some m =>
      if absTrainMinute e.train m + 3 ≤ now then .gone
      else if absTrainMinute e.train m ≤ now + 2 then .due
      else .listed

/-- The entry of a train. -/
def DepartureList.find (b : DepartureList) (t : TrainKey) : Option Entry := b.entries.find? (fun e => e.train = t)

/-- The entry of a train changed; nothing without one. -/
def DepartureList.modify (b : DepartureList) (t : TrainKey) (f : Entry → Entry) : DepartureList :=
  { b with entries := b.entries.map (fun e => if e.train = t then f e else e) }

/-- The state of a train's entry is LISTED or DUE. -/
def Part.trainSellable (p : Part) (t : TrainKey) : Bool :=
  match p.board.find t with
  | none => false
  | some e => e.sellable

/-- The train has an entry with a ledger link. -/
def Part.trainLinked (p : Part) (t : TrainKey) : Bool :=
  match p.board.find t with
  | none => false
  | some e => e.linked

/-- The departure that is near, with the entry it reports (R200): none while the clock is unset. -/
def Part.departureNear (p : Part) : Option Entry :=
  match p.clock.now? with
  | none => none
  | some now =>
    let order := boardOrder p.board.entries
    match order.find? (fun e => e.state = .due) with
    | some e => some e
    | none =>
      match order.find? (fun e => e.state = .listed) with
      | some e => if e.absSort ≤ now + p.wakeLead then some e else none
      | none => none

/-! ### Ledger records (R110) -/

/-- The ledger record of a train. -/
def QuotaUnit.find (q : QuotaUnit) (t : TrainKey) : Option LedgerRecord := q.ledger.find? (fun r => r.train = t)

/-- The ledger record of a train changed; nothing without one. -/
def QuotaUnit.modify (q : QuotaUnit) (t : TrainKey) (f : LedgerRecord → LedgerRecord) : QuotaUnit :=
  { q with ledger := q.ledger.map (fun r => if r.train = t then f r else r) }

/-- The held count of a train's record. -/
def QuotaUnit.heldOf (q : QuotaUnit) (t : TrainKey) : Nat :=
  match q.find t with
  | none => 0
  | some r => r.held

/-! ### Peers (R135) -/

/-- The record of a node number. -/
def PeerTable.find (t : PeerTable) (node : Nat) : Option PeerRecord := t.records.find? (fun r => r.node = node)

/-- The record of a node number changed. -/
def PeerTable.modify (t : PeerTable) (node : Nat) (f : PeerRecord → PeerRecord) : PeerTable :=
  { t with records := t.records.map (fun r => if r.node = node then f r else r) }

/-! ### The transmit store (R151) -/

/-- The kind of frame a slot holds. -/
def FrameBody.kind : FrameBody → FrameKind
  | .beacon => .beacon
  | .train _ => .train
  | .ask _ => .ask
  | .grant _ => .grant
  | .taken _ => .taken

/-- The kind of a frame on the line. -/
def Payload.kind : Payload → FrameKind
  | .beacon _ => .beacon
  | .train _ => .train
  | .ask _ => .ask
  | .grant _ => .grant
  | .taken _ => .taken

/-- The chosen frame of a transmitter. -/
def Transmitter.chosen : Transmitter → Option Nat
  | .idle => none
  | .counting f | .paused f | .sending f | .breaking f => some f

/-- The slot of a frame. -/
def LineInterface.find (l : LineInterface) (id : Nat) : Option Slot := l.slots.find? (fun s => s.id = id)

/-- The slot of a frame changed. -/
def LineInterface.modify (l : LineInterface) (id : Nat) (f : Slot → Slot) : LineInterface :=
  { l with slots := l.slots.map (fun s => if s.id = id then f s else s) }

/-- A frame is in transmission from the start of an attempt until it ends (R157, R159). -/
def LineInterface.inTransmission (l : LineInterface) (id : Nat) : Bool :=
  l.tx = .sending id || l.tx = .breaking id

/-- The number of free slots (R151). -/
def LineInterface.freeSlots (l : LineInterface) : Nat := 24 - l.slots.length

/-- The number of used slots of a class. -/
def LineInterface.used (l : LineInterface) (c : FrameClass) : Nat := (l.slots.filter (fun s => s.cls = c)).length

/-- A beacon of this part is in the store (R144). -/
def LineInterface.beaconInStore (l : LineInterface) : Bool := l.slots.any (fun s => s.body = .beacon)

/-! ### Notices (R165, R174) -/

/-- The urgent kinds. -/
def Notice.urgent (n : Notice) : Bool :=
  match n.kind with
  | .sale | .lost | .duplicateNode => true
  | .clock => n.cause = .disagree
  | _ => false

/-- The wake kinds. -/
def Notice.isWake (n : Notice) : Bool :=
  match n.kind with
  | .lost | .duplicateNode | .key => true
  | .clock => n.cause = .disagree
  | _ => false

/-- A wake kind is waiting (R174). -/
def NoticeQueue.wakeWaiting (q : NoticeQueue) : Bool := q.entries.any Notice.isWake || decide (0 < q.lostCount)

/-! ### Tickets -/

/-- The bytes of a ticket number, as numbers (12, Encodings; R207). -/
def TicketNumber.ref (t : TicketNumber) : TicketRef :=
  match t.day with
  | none => ⟨0, 0, t.node, t.serial⟩
  | some d => ⟨d, 1, t.node, t.serial⟩

end Sys2Proof.Machine
end

