-- ==== Sys2Proof/WellFormed.lean ====
section
/-! DEFINITION. Which operands a command can carry: every field within the bytes its layout gives it
(12_frame_and_record_formats.md). A field within its bytes but outside its range is well formed: the owning rule
judges it. -/

namespace Sys2Proof.Machine

/-- One byte. -/
abbrev isByte (n : Nat) : Bool := decide (n ≤ 255)

/-- Two bytes. -/
abbrev isShort (n : Nat) : Bool := decide (n ≤ 65535)

/-- Four bytes. -/
abbrev isLong (n : Nat) : Bool := decide (n ≤ 4294967295)

/-- An absent field, or a field that passes `f`. -/
def optionally (f : Nat → Bool) : Option Nat → Bool
  | none => true
  | some n => f n

/-- The two shorts of a train (12, Encodings). -/
def TrainKey.fits (t : TrainKey) : Bool := isShort t.id && isShort t.day

/-- A calling list, or another list of a count byte and code places, holds bytes. -/
def codesFit (l : List Nat) : Bool := isByte l.length && l.all isByte

/-- The 24 bytes of a start record (12). -/
def StartRequest.fits (r : StartRequest) : Bool :=
  isByte r.node && isByte r.sellerCount && isByte r.sellerIndex && optionally isByte r.beaconPeriod
    && optionally isByte r.refreshPeriod && optionally isShort r.rolloverMinute && isByte r.holdOff
    && isByte r.roundingStep && isByte r.roundingMode && isLong r.minimumFare && isByte r.rows
    && isByte r.platformFilter && isByte r.pageInterval && isShort r.horizon && isByte r.wakeLead

def SetTimeRequest.fits (r : SetTimeRequest) : Bool := isShort r.day && isLong r.ms

def LoadBeginRequest.fits (r : LoadBeginRequest) : Bool := isShort r.edition && isByte r.count

def TrainRecord.fits (r : TrainRecord) : Bool :=
  r.train.fits && isByte r.destination && isShort r.scheduled && isByte r.platform && isByte r.quotaTotal
    && codesFit r.calling

def NewTrain.fits (b : NewTrain) : Bool :=
  isByte b.destination && isShort b.scheduled && isByte b.quotaTotal && codesFit b.calling

/-- An expected minute of 65,535 is the mark for an absent one (12, Encodings). -/
def Update.fits (u : Update) : Bool :=
  u.train.fits && isShort u.serial && optionally (fun m => decide (m < 65535)) u.expected && isByte u.platform
    && (match u.newTrain with | none => true | some b => b.fits)

def FareItem.fits : FareItem → Bool
  | .destination r => isByte r.code && isLong r.standard && isLong r.first && isLong r.cap
  | .product r => isByte r.code && isShort r.factor && isShort r.childFactor
  | .concession r => isByte r.code && isByte r.discount && codesFit r.products
  | .band r => isShort r.start && isShort r.factor

/-- A concession of 65,535 is the mark for none, and a train id of 0 the mark for no train (12). -/
def FareInputs.fits (r : FareInputs) : Bool :=
  isByte r.destination && isByte r.product && optionally (fun c => decide (c < 65535)) r.concession
    && isByte r.adults && isByte r.children
    && (match r.train with | none => true | some t => t.fits && decide (t.id ≠ 0))

def IssueRequest.fits (r : IssueRequest) : Bool := r.inputs.fits && isLong r.agreed && isLong r.payment

def TicketRef.fits (t : TicketRef) : Bool := isShort t.day && isByte t.known && isByte t.node && isShort t.serial

def StatusRequest.fits (r : StatusRequest) : Bool := isByte r.sect && isByte r.first

def BeaconPayload.fits (b : BeaconPayload) : Bool :=
  isShort b.day && isLong b.ms && isByte b.stratum && isByte b.sellerIndex && isShort b.timetable
    && isShort b.fare && isByte b.freeSlots

def AskPayload.fits (a : AskPayload) : Bool := a.train.fits && isByte a.wanted

def GrantPayload.fits (g : GrantPayload) : Bool :=
  isByte g.asker && isByte g.number && g.train.fits && isByte g.count

def TakenPayload.fits (t : TakenPayload) : Bool :=
  isByte t.granter && isByte t.number && t.train.fits && isByte t.count

/-- A carried request fits; bytes as they arrived always do. -/
def Sent.fits {α : Type} (f : α → Bool) : Sent α → Bool
  | .clean r => f r
  | .raw _ => true

/-- A heard frame fits; a run of characters always does. -/
def Heard.fits {α : Type} (f : α → Bool) : Heard α → Bool
  | .clean sender seq payload => isByte sender && isByte seq && f payload
  | .raw _ => true

end Sys2Proof.Machine

namespace Sys2Proof

open Machine

/-- The check that a command's operands can be carried as the formats lay down. -/
def Instr.wellFormed : Instr → Bool
  | .start x => x.fits StartRequest.fits
  | .setTime x => x.fits SetTimeRequest.fits
  | .loadBegin x => x.fits LoadBeginRequest.fits
  | .loadTrain x => x.fits TrainRecord.fits
  | .trainUpdate x => x.fits Update.fits
  | .faresBegin x => x.fits isShort
  | .faresItem x => x.fits FareItem.fits
  | .quote x => x.fits FareInputs.fits
  | .issue x => x.fits IssueRequest.fits
  | .void x => x.fits TicketRef.fits
  | .readJournal x => x.fits isLong
  | .releaseJournal x => x.fits isLong
  | .readStatus x => x.fits StatusRequest.fits
  | .refreshDeadline t => t.fits
  | .watchExpiry asker number => isByte asker && isByte number
  | .takenDeadline t asker number => t.fits && isByte asker && isByte number
  | .silentDeadline node => isByte node
  | .goneDeadline node => isByte node
  | .beacon x => x.fits BeaconPayload.fits
  | .train x => x.fits Update.fits
  | .ask x => x.fits AskPayload.fits
  | .grant x => x.fits GrantPayload.fits
  | .taken x => x.fits TakenPayload.fits
  | .restart _ | .loadEnd _ | .loadAbort _ | .faresEnd _ | .faresAbort _ | .abortIssue _ | .takeNotices _
  | .readPage _ | .clearFlags _ | .doze _ | .fetch _ | .powerOn | .resetPin | .mainSupplyLoss | .backupLoss
  | .selfTestEnd _ | .lineTimeEnd | .minuteEvent | .slewPeriod | .sourceDeadline | .referenceLapse
  | .intervalDeadline | .askTime | .issueDeadline | .beaconDeadline | .holdOffDeadline | .keyInputChange _ _
  | .settleDeadline _ | .lineBusy | .lineQuiet | .slotEnd | .sentWhole | .collision | .breakEnd | .badFrame
  | .malformedFrame | .resetPinRelease => true

end Sys2Proof
end

