-- ==== Sys2Proof/Machine/Formats.lean ====
section
/-! DEFINITION. Byte layouts (12_frame_and_record_formats.md): code values, the 16-bit check, halt line frames, the
unit port's envelope, the request payloads, and the records the port carries out. -/

namespace Sys2Proof.Machine

/-! ### Bytes -/

/-- `n` in `w` bytes, most significant first. -/
def beBytes : Nat → Nat → List Byte
  | 0, _ => []
  | w + 1, n => BitVec.ofNat 8 (n / 256 ^ w) :: beBytes w n

/-- The number that bytes spell, most significant first. -/
def beNat (l : List Byte) : Nat := l.foldl (fun a b => a * 256 + b.toNat) 0

/-- The number in the `w` bytes at an offset. -/
def fieldAt (off w : Nat) (l : List Byte) : Nat := beNat ((l.drop off).take w)

/-- `l` followed by bytes of 0 up to `n` bytes in all. -/
def padTo (n : Nat) (l : List Byte) : List Byte := l ++ List.replicate (n - l.length) 0

/-- Two's complement in four bytes (12: signed numbers). -/
def beInt (n : Int) : List Byte := beBytes 4 (n % 4294967296).toNat

/-- One bit through the cyclic check of generator x^16 + x^12 + x^5 + 1 (R205). -/
def crcBit (c : BitVec 16) (b : Bool) : BitVec 16 :=
  if c.getLsbD 15 != b then (c <<< 1) ^^^ 0x1021#16 else c <<< 1

/-- One byte through the check, most significant bit first. -/
def crcByte (c : BitVec 16) (b : Byte) : BitVec 16 :=
  [7, 6, 5, 4, 3, 2, 1, 0].foldl (fun c i => crcBit c (b.getLsbD i)) c

/-- The check of some bytes, from 65,535, with no final exclusive-or (R205, R206). -/
def crc (l : List Byte) : BitVec 16 := l.foldl crcByte 0xFFFF#16

/-- The two bytes of the check, high byte first. -/
def crcBytes (l : List Byte) : List Byte := beBytes 2 (crc l).toNat

/-! ### Code values -/

def FrameKind.code : FrameKind → Nat
  | .beacon => 1 | .train => 2 | .ask => 3 | .grant => 4 | .taken => 5

def PartState.code : PartState → Nat
  | .selfTest => 0 | .waitingStart => 1 | .running => 2 | .dozing => 3 | .fault => 4

def Estimate.code : Estimate → Nat
  | .onTime => 0 | .expected => 1 | .delayed => 2 | .cancelled => 3

/-- The estimate of a code; none for a code that names none. -/
def Estimate.ofCode : Nat → Option Estimate
  | 0 => some .onTime | 1 => some .expected | 2 => some .delayed | 3 => some .cancelled | _ => none

def EntryState.code : EntryState → Nat
  | .listed => 0 | .due => 1 | .gone => 2 | .cancelled => 3

def DisplayState.code : DisplayState → Nat
  | .onTime => 0 | .expected => 1 | .delayed => 2 | .cancelled => 3 | .due => 4

def PeerState.code : PeerState → Nat
  | .absent => 0 | .present => 1 | .silent => 2 | .gone => 3

def FareClass.code : FareClass → Nat
  | .standard => 0 | .first => 1

/-- The class of a class code; a free value for a code the manual does not name (log 15). -/
def FareClass.ofCode : Nat → FareClass
  | 0 => .standard | 1 => .first | n => Config.classOfCode n

def RoundingMode.code : RoundingMode → Nat
  | .halfUp => 0 | .down => 1 | .up => 2

def ResetKind.code : ResetKind → Nat
  | .powerOn => 0 | .resetPin => 1 | .restart => 2

def SelfTestResult.code : SelfTestResult → Nat
  | .pass => 0 | .retainedLost => 1 | .memoryFault => 2

def StoreState.code : StoreState → Nat
  | .kept => 0 | .cleared => 1

def NoticeKind.code : NoticeKind → Nat
  | .start => 1 | .clock => 2 | .board => 3 | .page => 4 | .sale => 5 | .quota => 6 | .peer => 7 | .edition => 8
  | .sellerClash => 9 | .duplicateNode => 10 | .line => 11 | .key => 12 | .wake => 13 | .lost => 14

/-- A cause's number within its kind, in the order of R165's table of kinds. -/
def NoticeCause.code : NoticeCause → Nat
  | .none => 0
  | .set => 1 | .step => 2 | .disagree => 3
  | .update => 1 | .created => 2 | .gone => 3 | .full => 4
  | .done => 1 | .refused => 2 | .overrun => 3
  | .share => 1 | .ledgerFull => 2 | .grantIn => 3 | .grantOut => 4 | .doubtful => 5 | .lapse => 6
  | .timetable => 1 | .fare => 2
  | .keyA => 1 | .keyB => 2
  | .wakeKey => 1 | .wakeNotice => 2 | .wakeDeparture => 3 | .wakeRequest => 4

def Key.code : Key → Nat
  | .a => 1 | .b => 2

def ResultCode.code : ResultCode → Nat
  | .done => 0 | .accepted => 1 | .busy => 2 | .notStarted => 3 | .locked => 4 | .notRole => 5 | .badRequest => 6
  | .fault => 7 | .badFrame => 8 | .portBusy => 9 | .backwardDay => 10 | .noTransfer => 11 | .shortLoad => 12
  | .listFull => 13 | .stale => 14 | .tableFull => 15 | .noFares => 16 | .badCount => 17 | .noFare => 18
  | .noProduct => 19 | .trainRequired => 20 | .badConcession => 21 | .fareOverflow => 22 | .trainNotSellable => 23
  | .noQuota => 24 | .journalFull => 25 | .serialExhausted => 26 | .quotaExhausted => 27 | .aborted => 28
  | .trainCancelled => 29 | .trainGone => 30 | .fareChanged => 31 | .noIssue => 32 | .voidRefused => 33
  | .badRelease => 34 | .wakePending => 35

def RequestKind.code : RequestKind → Nat
  | .start => 1 | .restart => 2 | .setTime => 3 | .loadBegin => 4 | .loadTrain => 5 | .loadEnd => 6 | .loadAbort => 7
  | .trainUpdate => 8 | .faresBegin => 9 | .faresItem => 10 | .faresEnd => 11 | .faresAbort => 12 | .quote => 13
  | .issue => 14 | .abortIssue => 15 | .void => 16 | .readJournal => 17 | .releaseJournal => 18 | .takeNotices => 19
  | .readPage => 20 | .readStatus => 21 | .clearFlags => 22 | .doze => 23

/-- The request kind of a kind byte; none for a kind not in the request list (R181). -/
def RequestKind.ofCode : Nat → Option RequestKind
  | 1 => some .start | 2 => some .restart | 3 => some .setTime | 4 => some .loadBegin | 5 => some .loadTrain
  | 6 => some .loadEnd | 7 => some .loadAbort | 8 => some .trainUpdate | 9 => some .faresBegin | 10 => some .faresItem
  | 11 => some .faresEnd | 12 => some .faresAbort | 13 => some .quote | 14 => some .issue | 15 => some .abortIssue
  | 16 => some .void | 17 => some .readJournal | 18 => some .releaseJournal | 19 => some .takeNotices
  | 20 => some .readPage | 21 => some .readStatus | 22 => some .clearFlags | 23 => some .doze | _ => none

def SendOutcome.code : SendOutcome → Nat
  | .none => 0 | .taken => 1 | .badFrame => 2 | .portBusy => 3

/-- The reason byte of a START refusal: the field at fault. -/
def StartField.faultCode : StartField → Nat
  | .node => 1 | .roles => 2 | .sellerIndex => 3 | _ => 0

/-- A field's place in the order of R185's table. -/
def StartField.index : StartField → Nat
  | .node => 0 | .roles => 1 | .sellerCount => 2 | .sellerIndex => 3 | .beaconPeriod => 4 | .refreshPeriod => 5
  | .rolloverMinute => 6 | .holdOff => 7 | .roundingStep => 8 | .roundingMode => 9 | .minimumFare => 10 | .masks => 11
  | .rows => 12 | .platformFilter => 13 | .pageInterval => 14 | .horizon => 15 | .wakeLead => 16 | .keyEnables => 17

/-! ### Encodings shared by every layout -/

def TrainKey.bytes (t : TrainKey) : List Byte := beBytes 2 t.id ++ beBytes 2 t.day

/-- A train or none: train id 0 means none. DESIGN CHOICE, log 42: the service day bytes of none are 0 too. -/
def trainBytes : Option TrainKey → List Byte
  | none => beBytes 4 0
  | some t => t.bytes

def TicketRef.bytes (t : TicketRef) : List Byte :=
  beBytes 2 t.day ++ beBytes 1 t.known ++ beBytes 1 t.node ++ beBytes 2 t.serial

def Reading.bytes (r : Reading) : List Byte := beBytes 2 r.day ++ beBytes 4 r.ms

/-- An expected minute, or 65,535 for an absent one. -/
def minuteBytes (m : Option Nat) : List Byte := beBytes 2 (m.getD 65535)

/-- A calling list: the code count, then 8 code places, padded with 0 (R205). -/
def callingBytes (l : List Nat) : List Byte := beBytes 1 l.length ++ padTo 8 ((l.take 8).map (BitVec.ofNat 8))

def Roles.code (r : Roles) : Nat := r.sells.toNat + 2 * r.shows.toNat + 4 * r.uplink.toNat

/-- The roles of a roles byte; bits that name no role are ignored (R205). -/
def Roles.ofCode (n : Nat) : Roles := ⟨n.testBit 0, n.testBit 1, n.testBit 2⟩

def Masks.code (m : Masks) : Nat := m.count.toNat + 2 * m.concession.toNat + 4 * m.overflow.toNat

def Masks.ofCode (n : Nat) : Masks := ⟨n.testBit 0, n.testBit 1, n.testBit 2⟩

def bandByte (b : Option Nat) : List Byte := beBytes 1 (b.getD 255)

/-- The train at an offset. -/
def trainAt (off : Nat) (l : List Byte) : TrainKey := ⟨fieldAt off 2 l, fieldAt (off + 2) 2 l⟩

/-- A list of a count byte and 8 code places at an offset. Places beyond the count are padding; a count above 8
gives a list of that many codes, which the owning rule refuses. -/
def codesAt (off : Nat) (l : List Byte) : List Nat :=
  let count := fieldAt off 1 l
  let places := ((l.drop (off + 1)).take 8).map BitVec.toNat
  if count ≤ 8 then places.take count else places ++ List.replicate (count - places.length) 0

/-! ### Train updates: TRAIN payloads and TRAIN UPDATE (R32, R205, R206) -/

def NewTrain.bytes (b : NewTrain) : List Byte :=
  beBytes 1 b.destination ++ beBytes 2 b.scheduled ++ beBytes 1 b.quotaTotal ++ callingBytes b.calling

def Update.bytes (u : Update) : List Byte :=
  u.train.bytes ++ beBytes 2 u.serial ++ beBytes 1 u.estimate.code ++ minuteBytes u.expected ++ beBytes 1 u.platform
    ++ beBytes 1 (u.isNew.toNat + 2 * u.announce.toNat)
    ++ (match u.newTrain with | none => [] | some b => b.bytes)

/-- The update a payload of 11 or 24 bytes lays out; none where its estimate code names no estimate. -/
def Update.parse (l : List Byte) : Option Update :=
  (Estimate.ofCode (fieldAt 6 1 l)).map fun estimate =>
    { train := trainAt 0 l
      serial := fieldAt 4 2 l
      estimate
      expected := if fieldAt 7 2 l = 65535 then none else some (fieldAt 7 2 l)
      platform := fieldAt 9 1 l
      isNew := (fieldAt 10 1 l).testBit 0
      announce := (fieldAt 10 1 l).testBit 1
      newTrain :=
        if l.length = 24 then some ⟨fieldAt 11 1 l, fieldAt 12 2 l, fieldAt 14 1 l, codesAt 15 l⟩ else none }

/-- The new-train block is within its ranges (R32). -/
def NewTrain.inRange (b : NewTrain) : Bool :=
  decide (b.destination ≤ 47) && decide (b.scheduled ≤ 1799) && decide (b.quotaTotal ≤ 99)
    && decide (b.calling.length ≤ 8) && b.calling.all (fun c => decide (c ≤ 47))

/-- The update is not ill-formed (R32). -/
def Update.ok (u : Update) : Bool :=
  decide (u.train.id ≠ 0) && decide (u.train.id ≤ 65535) && decide (u.train.day ≤ 65535)
    && decide (u.serial ≠ 0) && decide (u.serial ≤ 65535)
    && optionally (fun m => decide (m ≤ 1799)) u.expected && decide (u.platform ≤ 4)
    && (u.expected.isSome == decide (u.estimate = .expected))
    && (u.isNew == u.newTrain.isSome)
    && (!u.isNew || decide (u.platform ≠ 0))
    && (match u.newTrain with | none => true | some b => b.inRange)

/-! ### Halt line frames (R148, R149, R205) -/

/-- The start mark. -/
def startMark : Byte := 165#8

def BeaconPayload.bytes (b : BeaconPayload) : List Byte :=
  beBytes 2 b.day ++ beBytes 4 b.ms ++ beBytes 1 b.stratum ++ beBytes 1 b.roles.code ++ beBytes 1 b.sellerIndex
    ++ beBytes 2 b.timetable ++ beBytes 2 b.fare ++ beBytes 1 b.freeSlots

def BeaconPayload.parse (l : List Byte) : BeaconPayload :=
  { day := fieldAt 0 2 l, ms := fieldAt 2 4 l, stratum := fieldAt 6 1 l, roles := Roles.ofCode (fieldAt 7 1 l),
    sellerIndex := fieldAt 8 1 l, timetable := fieldAt 9 2 l, fare := fieldAt 11 2 l, freeSlots := fieldAt 13 1 l }

def AskPayload.bytes (a : AskPayload) : List Byte := a.train.bytes ++ beBytes 1 a.wanted

def GrantPayload.bytes (g : GrantPayload) : List Byte :=
  beBytes 1 g.asker ++ beBytes 1 g.number ++ g.train.bytes ++ beBytes 1 g.count

def TakenPayload.bytes (t : TakenPayload) : List Byte :=
  beBytes 1 t.granter ++ beBytes 1 t.number ++ t.train.bytes ++ beBytes 1 t.count

def Payload.bytes : Payload → List Byte
  | .beacon b => b.bytes
  | .train u => u.bytes
  | .ask a => a.bytes
  | .grant g => g.bytes
  | .taken t => t.bytes

/-- The payload of a kind byte and its bytes; none for an unknown kind, a length that is not the kind's, or an
estimate code that names no estimate (R149). -/
def Payload.parse (kind : Nat) (l : List Byte) : Option Payload :=
  match kind with
  | 1 => if l.length = 14 then some (.beacon (BeaconPayload.parse l)) else none
  | 2 => if l.length = 11 ∨ l.length = 24 then (Update.parse l).map .train else none
  | 3 => if l.length = 5 then some (.ask ⟨trainAt 0 l, fieldAt 4 1 l⟩) else none
  | 4 => if l.length = 7 then some (.grant ⟨fieldAt 0 1 l, fieldAt 1 1 l, trainAt 2 l, fieldAt 6 1 l⟩) else none
  | 5 => if l.length = 7 then some (.taken ⟨fieldAt 0 1 l, fieldAt 1 1 l, trainAt 2 l, fieldAt 6 1 l⟩) else none
  | _ => none

/-- A node number 1..15. -/
def isNode (n : Nat) : Bool := decide (1 ≤ n) && decide (n ≤ 15)

/-- Places 1..9. -/
def isPlaces (n : Nat) : Bool := decide (1 ≤ n) && decide (n ≤ 9)

/-- The payload checks of R32, R118 and R141. -/
def Payload.ok : Payload → Bool
  | .beacon b =>
    b.fits && decide (b.ms ≤ 86399999) && (decide (b.stratum ≤ 8) || decide (b.stratum = 15))
      && (b.roles.sells || b.roles.shows || b.roles.uplink) && decide (b.sellerIndex ≤ 14) && decide (b.freeSlots ≤ 24)
  | .train u => u.ok
  | .ask a => a.fits && decide (a.train.id ≠ 0) && isPlaces a.wanted
  | .grant g => g.fits && decide (g.train.id ≠ 0) && isPlaces g.count && isNode g.asker
  | .taken t => t.fits && decide (t.train.id ≠ 0) && isPlaces t.count && isNode t.granter

/-- A complete frame is a good frame (R149). -/
def LineFrame.ok (f : LineFrame) : Bool := isNode f.sender && isByte f.seq && f.payload.ok

/-- The header and payload of a frame. -/
def LineFrame.body (f : LineFrame) : List Byte :=
  [BitVec.ofNat 8 f.payload.kind.code, BitVec.ofNat 8 f.sender, BitVec.ofNat 8 f.seq,
    BitVec.ofNat 8 f.payload.bytes.length] ++ f.payload.bytes

/-- The characters of a frame: start mark, header, payload, check (R205). -/
def LineFrame.bytes (f : LineFrame) : List Byte := startMark :: f.body ++ crcBytes f.body

/-- How a busy spell outside an echo spell ends (R148, R149). -/
inductive Spell where
  | bad
  | malformed
  | good (f : LineFrame)
  deriving DecidableEq, Repr

/-- The receiver judges the characters of a busy spell in the order they arrive (R148). -/
def judgeSpell (chars : List LineChar) : Spell :=
  match chars with
  | mark :: rest =>
    if mark.data ≠ startMark ∨ mark.framingError then .bad
    else if (rest.take 4).any LineChar.framingError then .bad
    else if rest.length < 4 then .bad
    else
      let len := fieldAt 3 1 ((rest.take 4).map LineChar.data)
      if 56 < len then .malformed
      else if ((rest.drop 4).take (len + 2)).any LineChar.framingError then .bad
      else if rest.length < 4 + len + 2 then .bad
      else
        let bytes := rest.map LineChar.data
        if (bytes.drop (4 + len)).take 2 ≠ crcBytes (bytes.take (4 + len)) then .bad
        else
          match Payload.parse (fieldAt 0 1 bytes) ((bytes.drop 4).take len) with
          | none => .malformed
          | some payload =>
            let f : LineFrame := ⟨fieldAt 1 1 bytes, fieldAt 2 1 bytes, payload⟩
            if f.ok then .good f else .malformed
  | [] => .bad

/-! ### The unit port's envelope (R177 to R180, R206) -/

/-- The SEND marker (12, The unit port envelope). -/
def sendMarker : Byte := 81#8

/-- The FETCH marker. -/
def fetchMarker : Byte := 82#8

/-- The filler. -/
def filler : Byte := 255#8

/-- The absent marker, where a reply's kind byte would stand. -/
def absentMarker : Byte := 0#8

/-- The type of a transfer (R177). -/
inductive TransferType where
  | status
  | send
  | fetch
  deriving DecidableEq, Repr

/-- The type that a transfer's first byte names: any byte that is neither of the two markers names STATUS (R177). -/
def transferType (first : Byte) : TransferType :=
  if first = sendMarker then .send else if first = fetchMarker then .fetch else .status

/-- The port status byte. -/
def PortStatus.byte (s : PortStatus) : Byte :=
  BitVec.ofNat 8 (s.state.code + 8 * s.replyHeld.toNat + 16 * s.outcome.code)

/-- A request frame: kind, length, payload, check. -/
def requestFrame (k : RequestKind) (payload : List Byte) : List Byte :=
  let body := BitVec.ofNat 8 k.code :: BitVec.ofNat 8 payload.length :: payload
  body ++ crcBytes body

/-- What the port finds at the end of a SEND (R179): a bad frame with its kind byte, or a complete frame. -/
inductive Judged where
  | badFrame (kind : Nat)
  | complete (kind : Nat) (payload : List Byte)
  deriving DecidableEq, Repr

/-- The port judges the bytes that followed the SEND marker (R179, R206). -/
def judgeSend (bytes : List Byte) : Judged :=
  match bytes with
  | [] => .badFrame 0
  | [kind] => .badFrame kind.toNat
  | kind :: len :: rest =>
    if 120 < len.toNat then .badFrame kind.toNat
    else if rest.length < len.toNat + 2 then .badFrame kind.toNat
    else
      let payload := rest.take len.toNat
      if (rest.drop len.toNat).take 2 ≠ crcBytes (kind :: len :: payload) then .badFrame kind.toNat
      else .complete kind.toNat payload

/-- The payload lengths of a request kind (12, The unit port envelope). -/
def RequestKind.lengths : RequestKind → List Nat
  | .start => [24] | .restart => [0] | .setTime => [7] | .loadBegin => [3] | .loadTrain => [18] | .loadEnd => [0]
  | .loadAbort => [0] | .trainUpdate => [11, 24] | .faresBegin => [2] | .faresItem => [14] | .faresEnd => [0]
  | .faresAbort => [0] | .quote => [11] | .issue => [19] | .abortIssue => [0] | .void => [6] | .readJournal => [4]
  | .releaseJournal => [4] | .takeNotices => [0] | .readPage => [0] | .readStatus => [2] | .clearFlags => [0]
  | .doze => [0]

/-! ### Request payloads (12; R186, R206) -/

def StartRequest.bytes (r : StartRequest) : List Byte :=
  beBytes 1 r.node ++ beBytes 1 r.roles.code ++ beBytes 1 r.sellerCount ++ beBytes 1 r.sellerIndex
    ++ beBytes 1 (r.beaconPeriod.getD 0) ++ beBytes 1 (r.refreshPeriod.getD 0) ++ beBytes 2 (r.rolloverMinute.getD 0)
    ++ beBytes 1 r.holdOff ++ beBytes 1 r.roundingStep ++ beBytes 1 r.roundingMode ++ beBytes 4 r.minimumFare
    ++ beBytes 1 r.masks.code ++ beBytes 1 r.rows ++ beBytes 1 r.platformFilter ++ beBytes 1 r.pageInterval
    ++ beBytes 2 r.horizon ++ beBytes 1 r.wakeLead ++ beBytes 1 (r.keyA.toNat + 2 * r.keyB.toNat)
    ++ beBytes 1 (r.beaconPeriod.isNone.toNat + 2 * r.refreshPeriod.isNone.toNat + 4 * r.rolloverMinute.isNone.toNat)

def StartRequest.parse (l : List Byte) : StartRequest :=
  let absent := fieldAt 23 1 l
  { node := fieldAt 0 1 l
    roles := Roles.ofCode (fieldAt 1 1 l)
    sellerCount := fieldAt 2 1 l
    sellerIndex := fieldAt 3 1 l
    beaconPeriod := if absent.testBit 0 then none else some (fieldAt 4 1 l)
    refreshPeriod := if absent.testBit 1 then none else some (fieldAt 5 1 l)
    rolloverMinute := if absent.testBit 2 then none else some (fieldAt 6 2 l)
    holdOff := fieldAt 8 1 l
    roundingStep := fieldAt 9 1 l
    roundingMode := fieldAt 10 1 l
    minimumFare := fieldAt 11 4 l
    masks := Masks.ofCode (fieldAt 15 1 l)
    rows := fieldAt 16 1 l
    platformFilter := fieldAt 17 1 l
    pageInterval := fieldAt 18 1 l
    horizon := fieldAt 19 2 l
    wakeLead := fieldAt 21 1 l
    keyA := (fieldAt 22 1 l).testBit 0
    keyB := (fieldAt 22 1 l).testBit 1 }

def SetTimeRequest.bytes (r : SetTimeRequest) : List Byte :=
  beBytes 2 r.day ++ beBytes 4 r.ms ++ beBytes 1 r.reference.toNat

/-- The reference option of its byte; a free value for a byte other than 0 and 1 (log 15). -/
def referenceOf : Nat → Bool
  | 0 => false | 1 => true | n => Config.referenceOfByte n

def SetTimeRequest.parse (l : List Byte) : SetTimeRequest :=
  ⟨fieldAt 0 2 l, fieldAt 2 4 l, referenceOf (fieldAt 6 1 l)⟩

def LoadBeginRequest.bytes (r : LoadBeginRequest) : List Byte := beBytes 2 r.edition ++ beBytes 1 r.count

def LoadBeginRequest.parse (l : List Byte) : LoadBeginRequest := ⟨fieldAt 0 2 l, fieldAt 2 1 l⟩

def TrainRecord.bytes (r : TrainRecord) : List Byte :=
  r.train.bytes ++ beBytes 1 r.destination ++ beBytes 2 r.scheduled ++ beBytes 1 r.platform ++ beBytes 1 r.quotaTotal
    ++ callingBytes r.calling

def TrainRecord.parse (l : List Byte) : TrainRecord :=
  ⟨trainAt 0 l, fieldAt 4 1 l, fieldAt 5 2 l, fieldAt 7 1 l, fieldAt 8 1 l, codesAt 9 l⟩

/-- The 14 bytes of an item. DESIGN CHOICE, log 34: a concession's discount, a percentage, takes one byte, and so does a
product's QUOTA flag, 0 for no and 1 for yes. -/
def FareItem.bytes : FareItem → List Byte
  | .destination r =>
    padTo 14 (beBytes 1 1 ++ beBytes 1 r.code ++ beBytes 4 r.standard ++ beBytes 4 r.first ++ beBytes 4 r.cap)
  | .product r =>
    padTo 14 (beBytes 1 2 ++ beBytes 1 r.code ++ beBytes 2 r.factor ++ beBytes 2 r.childFactor ++ beBytes 1 r.quota.toNat)
  | .concession r => padTo 14 (beBytes 1 3 ++ beBytes 1 r.code ++ beBytes 1 r.discount ++ callingBytes r.products)
  | .band r => padTo 14 (beBytes 1 4 ++ beBytes 2 r.start ++ beBytes 2 r.factor)

/-- The item 14 bytes lay out; none where the item kind is not one of the four, or a QUOTA flag byte is neither no
nor yes: a field outside its range (R66). DEDUCED, log 16. DESIGN CHOICE, log 34: a concession's discount takes one
byte, so its product list starts at offset 3, and a product's QUOTA flag is the byte at offset 6, 0 for no and 1 for yes. -/
def FareItem.parse (l : List Byte) : Option FareItem :=
  match fieldAt 0 1 l with
  | 1 => some (.destination ⟨fieldAt 1 1 l, fieldAt 2 4 l, fieldAt 6 4 l, fieldAt 10 4 l⟩)
  | 2 =>
    match fieldAt 6 1 l with
    | 0 => some (.product ⟨fieldAt 1 1 l, fieldAt 2 2 l, fieldAt 4 2 l, false⟩)
    | 1 => some (.product ⟨fieldAt 1 1 l, fieldAt 2 2 l, fieldAt 4 2 l, true⟩)
    | _ => none
  | 3 => some (.concession ⟨fieldAt 1 1 l, fieldAt 2 1 l, codesAt 3 l⟩)
  | 4 => some (.band ⟨fieldAt 1 2 l, fieldAt 3 2 l⟩)
  | _ => none

def FareInputs.bytes (r : FareInputs) : List Byte :=
  beBytes 1 r.destination ++ beBytes 1 r.fareClass.code ++ beBytes 1 r.product ++ beBytes 2 (r.concession.getD 65535)
    ++ beBytes 1 r.adults ++ beBytes 1 r.children ++ trainBytes r.train

def FareInputs.parse (l : List Byte) : FareInputs :=
  { destination := fieldAt 0 1 l
    fareClass := FareClass.ofCode (fieldAt 1 1 l)
    product := fieldAt 2 1 l
    concession := if fieldAt 3 2 l = 65535 then none else some (fieldAt 3 2 l)
    adults := fieldAt 5 1 l
    children := fieldAt 6 1 l
    train := if fieldAt 7 2 l = 0 then none else some (trainAt 7 l) }

def IssueRequest.bytes (r : IssueRequest) : List Byte := r.inputs.bytes ++ beBytes 4 r.agreed ++ beBytes 4 r.payment

def IssueRequest.parse (l : List Byte) : IssueRequest := ⟨FareInputs.parse l, fieldAt 11 4 l, fieldAt 15 4 l⟩

def TicketRef.parse (l : List Byte) : TicketRef := ⟨fieldAt 0 2 l, fieldAt 2 1 l, fieldAt 3 1 l, fieldAt 4 2 l⟩

def StatusRequest.bytes (r : StatusRequest) : List Byte := beBytes 1 r.sect ++ beBytes 1 r.first

def StatusRequest.parse (l : List Byte) : StatusRequest := ⟨fieldAt 0 1 l, fieldAt 1 1 l⟩

/-! ### Records carried out through the port (R207) -/

/-- The subject type and the six subject bytes of a notice entry. -/
def Subject.bytes : Subject → List Byte
  | .none => beBytes 1 0 ++ padTo 6 []
  | .train t => beBytes 1 1 ++ padTo 6 t.bytes
  | .ticket t => beBytes 1 2 ++ padTo 6 t.ref.bytes
  | .ask asker number => beBytes 1 3 ++ padTo 6 (beBytes 1 asker ++ beBytes 1 number)

/-- A notice entry, 22 bytes. -/
def Notice.bytes (n : Notice) : List Byte :=
  beBytes 1 n.kind.code ++ beBytes 1 n.cause.code ++ beBytes 1 (n.source.getD 0) ++ n.subject.bytes ++ beInt n.first
    ++ beInt n.second ++ beBytes 4 n.lineTime

/-- The kind byte of a journal body. -/
def JournalBody.code : JournalBody → Nat
  | .sale _ => 1 | .void _ _ => 2 | .dayClose _ _ => 3 | .start _ _ => 4

def JournalBody.bytes : JournalBody → List Byte
  | .sale f =>
    f.ticket.ref.bytes ++ beBytes 1 f.product ++ beBytes 1 f.destination ++ beBytes 1 f.fareClass.code
      ++ beBytes 2 (f.concession.getD 65535) ++ beBytes 1 f.adults ++ beBytes 1 f.children ++ trainBytes f.train
      ++ beBytes 4 f.amount ++ beBytes 1 f.flags.code ++ bandByte f.band ++ beBytes 1 f.placesUsed ++ beBytes 4 f.payment
  | .void t amount => t.ref.bytes ++ beBytes 4 amount
  | .dayClose day t => beBytes 2 day ++ beBytes 2 t.tickets ++ beBytes 4 t.sum ++ beBytes 2 t.voids ++ beBytes 4 t.voidSum
  | .start kind store => beBytes 1 kind.code ++ beBytes 1 store.code

/-- A journal record, 40 bytes. -/
def JournalRecord.bytes (r : JournalRecord) : List Byte :=
  beBytes 1 r.body.code ++ beBytes 4 r.number ++ r.stamp.bytes ++ beBytes 1 r.stampSet.toNat ++ padTo 28 r.body.bytes

/-- A page row, 19 bytes. -/
def PageRow.bytes (r : PageRow) : List Byte :=
  beBytes 2 r.trainId ++ beBytes 1 r.destination ++ callingBytes r.calling ++ beBytes 1 r.platform
    ++ beBytes 1 (r.platformChanged.toNat + 2 * r.unordered.toNat) ++ beBytes 2 r.scheduled ++ beBytes 1 r.display.code
    ++ minuteBytes r.expected

def PageRecord.bytes (r : PageRecord) : List Byte :=
  beBytes 1 r.number ++ beBytes 1 r.count ++ beBytes 1 r.clockSet.toNat ++ beBytes 1 r.rows.length
    ++ r.rows.flatMap PageRow.bytes

/-- The 3-byte clamp set. -/
def clampBytes (l : List StartField) : List Byte := beBytes 3 (l.foldl (fun a f => a ||| (1 <<< f.index)) 0)

/-- The record in force, in the layout of a START payload with no field absent (R207). -/
def StartRecord.bytes (r : StartRecord) : List Byte :=
  StartRequest.bytes
    { node := r.node, roles := r.roles, sellerCount := r.sellerCount, sellerIndex := r.sellerIndex,
      beaconPeriod := some r.beaconPeriod, refreshPeriod := some r.refreshPeriod, rolloverMinute := some r.rolloverMinute,
      holdOff := r.holdOff, roundingStep := r.roundingStep, roundingMode := r.roundingMode.code,
      minimumFare := r.minimumFare, masks := r.masks, rows := r.rows, platformFilter := r.platformFilter,
      pageInterval := r.pageInterval, horizon := r.horizon, wakeLead := r.wakeLead, keyA := r.keyA, keyB := r.keyB }

/-- The payload bytes of a reply, where the manual gives their layout (00_scope.md; R207). -/
def ReplyBody.bytes? : ReplyBody → Option (List Byte)
  | .empty => some []
  | .startDone clampSet record => some (clampBytes clampSet ++ record.bytes)
  | .startField f => some (beBytes 1 f.faultCode)
  | .notices taken left lostCount =>
    some (beBytes 1 taken.length ++ beBytes 1 left ++ beBytes 2 lostCount ++ taken.flatMap Notice.bytes)
  | .journal unreleased records => some (beBytes 2 unreleased ++ records.flatMap JournalRecord.bytes)
  | .page record => some record.bytes
  | _ => none

/-- The section a status reply reports, 0 for another reply. -/
def ReplyBody.sect : ReplyBody → Nat
  | .status (.port _) => 1 | .status (.clock _) => 2 | .status (.board _) => 3 | .status (.page _) => 4
  | .status (.fares _) => 5 | .status (.sales _) => 6 | .status (.quota _) => 7 | .status (.peers _) => 8
  | .status (.line _) => 9 | .status (.notices _) => 10 | .status (.doze _) => 11 | _ => 0

/-- The payload bytes of a reply; a free value of up to 240 bytes where the manual gives no layout (log 17). -/
def Reply.payload (r : Reply) : List Byte :=
  match r.body.bytes? with
  | some l => l
  | none => (Config.unstatedPayload r).take 240

/-- The length of a reply's payload. -/
def Reply.payloadLength (r : Reply) : Nat := r.payload.length

/-- A reply frame as it is shifted out: kind, result code, length, payload, check (R180, R206). -/
def Reply.bytes (r : Reply) : List Byte :=
  let body := BitVec.ofNat 8 r.kind :: BitVec.ofNat 8 r.result.code :: BitVec.ofNat 8 r.payloadLength :: r.payload
  body ++ crcBytes body

/-- What a FETCH shifts out after the port status before any filler: the held reply from its first byte, or the absent
marker (R177, R180). -/
def fetchAnswer : Option Reply → List Byte
  | none => [absentMarker]
  | some r => r.bytes

/-- The bytes that `n` bytes of a FETCH shift out after the port status: the answer as far as they reach, and filler
after its end (R206). -/
def shiftOut (answer : List Byte) (n : Nat) : List Byte :=
  answer.take n ++ List.replicate (n - answer.length) filler

end Sys2Proof.Machine
end

