-- ==== Sys2Proof/Machine/Ops.lean ====
section
/-! DEFINITION. Operations every block uses: storing a notice and driving the attention line, building the page,
waking from doze, posting a notice. -/

namespace Sys2Proof.Machine

/-! ### The notice queue (R164 to R174) -/

/-- A notice to be posted; it takes its line time when it is stored. -/
def mkNotice (kind : NoticeKind) (cause : NoticeCause) (source : Option Nat) (subject : Subject) (first second : Int) :
    Notice :=
  { kind, cause, source, subject, first, second, lineTime := 0 }

/-- The attention line and the hold-off deadline after a notice was stored behind `before` others
(R170, R171, R173, R174). -/
def NoticeQueue.attend (q : NoticeQueue) (state : PartState) (holdOff now before : Nat) (urgent : Bool) : NoticeQueue :=
  match state with
  | .dozing => q
  | .selfTest | .waitingStart | .fault => { q with attention := true }
  | .running =>
    if urgent || decide (47 ≤ before) then { q with attention := true, deadline := none }
    else if before ≠ 0 ∨ holdOff = 0 then q
    else if holdOff = 1 then { q with attention := true }
    else if q.attention then q
    else { q with deadline := some (now + holdOff) }

/-- A notice handed to the queue: stored while there is room (R166), else lost (R167). -/
def NoticeQueue.store (q : NoticeQueue) (state : PartState) (holdOff now : Nat) (n : Notice) : NoticeQueue :=
  if q.entries.length < 64 then
    { q with entries := q.entries ++ [{ n with lineTime := now }] }.attend state holdOff now q.entries.length n.urgent
  else
    { q with lostCount := bump q.lostCount, lostTotal := bump q.lostTotal,
             firstLost := if q.lostCount = 0 then some n.kind else q.firstLost }

/-- What the queue tells doze and keys when a notice is handed to it in DOZING (R167, R174): the kind of a wake-kind
notice stored, or LOST for the first loss of a gap. -/
def NoticeQueue.wakeReport (q : NoticeQueue) (n : Notice) : Option NoticeKind :=
  if q.entries.length < 64 then (if n.isWake then some n.kind else none)
  else if q.lostCount = 0 then some .lost
  else none

/-- A notice handed to the queue, with no wake following. -/
def Part.note (p : Part) (n : Notice) : Part :=
  { p with notices := p.notices.store p.doze.state p.holdOff p.lineTime n }

/-! ### The page builder (R48 to R53) -/

/-- An entry is shown (R48). -/
def Entry.shown (e : Entry) (r : StartRecord) (now : Option Nat) : Bool :=
  decide (e.state ≠ .gone) && (decide (r.platformFilter = 0) || decide (r.platformFilter = e.platform))
    && (match now with | none => true | some n => decide (e.absSort ≤ n + r.horizon))

/-- The shown entries in board order (R48). -/
def Part.shownEntries (p : Part) (r : StartRecord) : List Entry :=
  (boardOrder p.board.entries).filter (fun e => e.shown r p.clock.now?)

/-- The page count of `m` shown entries with `rows` rows a page (R49). -/
def pageCount (rows m : Nat) : Nat :=
  if m ≤ rows ∨ rows ≤ 1 then 1 else (m - 1 + (rows - 2)) / (rows - 1)

/-- The entries on page `k` (R49): the pinned row, then the page's own. -/
def pageEntries (rows k : Nat) (shown : List Entry) : List Entry :=
  if shown.length ≤ rows then shown
  else
    match shown with
    | [] => []
    | pinned :: rest => if rows ≤ 1 then [pinned] else pinned :: (rest.drop (k * (rows - 1))).take (rows - 1)

/-- The display state of an entry (R50). -/
def Entry.display (e : Entry) : DisplayState :=
  if e.state = .cancelled then .cancelled
  else if e.estimate = .delayed then .delayed
  else if e.state = .due then .due
  else if e.estimate = .expected then .expected
  else .onTime

/-- The row of an entry (R50). -/
def Entry.row (e : Entry) : PageRow :=
  { trainId := e.train.id, destination := e.destination, calling := e.calling, platform := e.platform,
    platformChanged := e.platformChanged, scheduled := e.scheduled, display := e.display,
    expected := if e.display = .expected then e.expected else none,
    unordered := decide (e.display = .delayed) }

/-- The index a rebuild keeps (R53). -/
def keepIndex (index count : Nat) : Nat := if index < count then index else 0

/-- The index a turn goes to (R52). -/
def turnIndex (index count : Nat) : Nat := if index + 1 < count then index + 1 else 0

/-- The page record built with page index `k` (R49, R50, R51). -/
def Part.buildPage (p : Part) (r : StartRecord) (k : Nat) : PageRecord :=
  let shown := p.shownEntries r
  { number := k, count := pageCount r.rows shown.length, clockSet := p.clock.isSet,
    rows := (pageEntries r.rows k shown).map Entry.row }

/-- The PAGE notice of a page record (R55). -/
def pageNotice (r : PageRecord) (shown : List Entry) : Notice :=
  mkNotice .page .none none
    (match shown with | [] => .none | e :: _ => .train e.train) r.number r.count

/-- The new page held, with its notice if it differs from the one held before (R51, R55). The subject of the notice
is the pinned train. -/
def Part.holdPage (p : Part) (index shown : Nat) (record : PageRecord) (n : Notice) : Part :=
  let q := { p with page := { p.page with index, shown, held := record } }
  if record = p.page.held then q else q.note n

/-- Rebuild with the index that `pick` chooses from the old index and the page count (R52, R53). The builder runs in
RUNNING alone, so its PAGE notice wakes nothing. -/
def Part.rebuild (p : Part) (pick : Nat → Nat → Nat) : Part :=
  match p.port.record with
  | none => p
  | some r =>
    let shown := p.shownEntries r
    let k := pick p.page.index (pageCount r.rows shown.length)
    let record := p.buildPage r k
    p.holdPage k shown.length record (pageNotice record shown)

/-- The page builder is told of a board change or of a minute event (R53). -/
def Part.boardChanged (p : Part) : Part := if p.pageRunning then p.rebuild keepIndex else p

/-- The page builder told only if there was a change. -/
def Part.boardChangedIf (p : Part) (changed : Bool) : Part := if changed then p.boardChanged else p

/-- The page builder starts, or goes on after doze: it rebuilds once and restarts its interval (R57, R58). -/
def Part.startPages (p : Part) : Part :=
  if p.pageRunning then
    let q := p.rebuild keepIndex
    { q with page := { q.page with deadline := some (q.lineTime + q.intervalMs) } }
  else p

/-! ### Waking (R202, R203) and posting (R166) -/

/-- The cause of a WAKE notice. -/
def WakeCause.noticeCause : WakeCause → NoticeCause
  | .key _ => .wakeKey
  | .notice _ => .wakeNotice
  | .departure _ _ => .wakeDeparture
  | .request _ => .wakeRequest

/-- The subject of a WAKE notice. -/
def WakeCause.subject : WakeCause → Subject
  | .departure t _ => .train t
  | _ => .none

/-- The first value of a WAKE notice (R202, R207). -/
def WakeCause.value : WakeCause → Nat
  | .key k => k.code
  | .notice k => k.code
  | .departure _ m => m
  | .request k => k.code

/-- The length of the doze in whole seconds (R203). -/
def Part.dozeLength (p : Part) : Nat := (p.lineTime - p.doze.dozeStart.getD p.lineTime) / 1000

/-- A wake: the WAKE notice, RUNNING, the attention line, the page (R203). -/
def Part.wake (p : Part) (c : WakeCause) : Part :=
  let length := p.dozeLength
  let q := p.note (mkNotice .wake c.noticeCause none c.subject c.value length)
  let q := { q with doze := { q.doze with state := .running, dozeStart := none, lastWake := some ⟨c, length⟩ } }
  let q := { q with notices := { q.notices with attention := true } }
  q.startPages

/-- A notice posted: handed to the queue, and in DOZING a wake if the queue reports one (R166, R167, R174). -/
def Part.post (p : Part) (n : Notice) : Part :=
  let report := p.notices.wakeReport n
  let q := p.note n
  match report with
  | none => q
  | some k => if q.doze.state = .dozing then q.wake (.notice k) else q

end Sys2Proof.Machine
end

