-- ==== Sys2Proof/Machine/Line.lean ====
section
/-! DEFINITION. The transmit store and the transmitter: offers, withdrawals, the choice, the wait, the start of an
attempt (R151 to R157). -/

namespace Sys2Proof.Machine

/-- The beacon's contents at the start of an attempt (R145). -/
def Part.beaconNow (p : Part) : BeaconPayload :=
  { day := p.clock.reading.day, ms := p.clock.reading.ms, stratum := p.clock.stratum, roles := p.roles,
    sellerIndex := match p.port.record with | none => 0 | some r => r.sellerIndex,
    timetable := p.board.edition, fare := p.fares.edition, freeSlots := p.line.freeSlots }

/-- The payload an attempt sends for what a slot holds (R157). -/
def Part.payloadOf (p : Part) : FrameBody → Payload
  | .beacon => .beacon p.beaconNow
  | .train u => .train u
  | .ask a => .ask a
  | .grant g => .grant g
  | .taken t => .taken t

/-- An attempt starts (R157): the frame is in transmission, and the line is busy from its first edge
(R147; DEDUCED, log 19). -/
def Part.startAttempt (p : Part) (sl : Slot) : Part :=
  { p with line := { p.line with
      tx := .sending sl.id
      busy := true
      changedAt := if p.line.busy then p.line.changedAt else p.lineTime
      onLine := some ⟨p.ownNode, sl.seq, p.payloadOf sl.body⟩ } }

/-- The base wait of a class, in slots (R155). -/
def FrameClass.baseWait : FrameClass → Nat
  | .urgent => 0
  | .normal => 2
  | .bulk => 5

/-- A fresh wait (R155): the base and r, r within 0..2^m − 1. -/
def freshWait (c : FrameClass) (attempts draw : Nat) : Nat :=
  c.baseWait + Config.backoffDraw draw % 2 ^ min (attempts + 1) 5

/-- The head of the highest non-empty class (R154). -/
def LineInterface.head? (l : LineInterface) : Option Slot :=
  match l.slots.find? (fun s => s.cls = .urgent) with
  | some s => some s
  | none =>
    match l.slots.find? (fun s => s.cls = .normal) with
    | some s => some s
    | none => l.slots.find? (fun s => s.cls = .bulk)

/-- The chosen frame counts its wait down, or is sent at once when no wait is left (R154). -/
def Part.runWait (p : Part) (sl : Slot) (w : Nat) : Part :=
  let q := { p with line := { p.line.modify sl.id (fun s => { s with wait := some w }) with tx := .counting sl.id } }
  if w = 0 then q.startAttempt sl else q

/-- A choice (R154): the head of the highest class resumes the wait it holds, or draws a fresh one. -/
def Part.choose (p : Part) : Part :=
  match p.line.head? with
  | none => p
  | some sl =>
    match sl.wait with
    | some w => p.runWait sl w
    | none => { p with draws := p.draws + 1 }.runWait sl (freshWait sl.cls sl.attempts p.draws)

/-- The choice that follows at once on a quiet line while the transmitter is IDLE (R153, R154). -/
def Part.settleTransmitter (p : Part) : Part :=
  if !p.line.busy && decide (p.line.tx = .idle) && p.awake then p.choose else p

/-- The store has a slot for a frame of a class (R152). -/
def LineInterface.hasRoom (l : LineInterface) (c : FrameClass) : Bool :=
  decide (l.slots.length < 24) && (decide (c = .urgent) || decide (l.used .normal + l.used .bulk < 22))

/-- One more on the starvation count of a class (R152). -/
def LineCounts.starve (n : LineCounts) : FrameClass → LineCounts
  | .urgent => { n with urgentStarved := bump n.urgentStarved }
  | .normal => { n with normalStarved := bump n.normalStarved }
  | .bulk => { n with bulkStarved := bump n.bulkStarved }

/-- A frame taken into the store: the next sequence number, attempts 0, no wait, the tail of its queue (R152). -/
def LineInterface.push (l : LineInterface) (c : FrameClass) (b : FrameBody) : LineInterface :=
  { l with
    slots := l.slots ++ [{ id := l.nextFrame, cls := c, seq := l.nextSeq, body := b, attempts := 0, wait := none }]
    nextSeq := (l.nextSeq + 1) % 256
    nextFrame := l.nextFrame + 1 }

/-- An owner offers a frame (R152). -/
def Part.offer (p : Part) (c : FrameClass) (b : FrameBody) : Part :=
  if p.line.hasRoom c then { p with line := p.line.push c b }.settleTransmitter
  else { p with line := { p.line with counts := p.line.counts.starve c } }

/-- Slots freed; a transmitter that had chosen one of them becomes IDLE (R153). -/
def LineInterface.drop (l : LineInterface) (ids : List Nat) : LineInterface :=
  { l with
    slots := l.slots.filter (fun s => s.id ∉ ids)
    tx := match l.tx.chosen with | none => l.tx | some id => if id ∈ ids then .idle else l.tx }

/-- The chosen frame is one of these. -/
def LineInterface.chose (l : LineInterface) (ids : List Nat) : Bool :=
  match l.tx.chosen with
  | none => false
  | some id => decide (id ∈ ids)

/-- An owner withdraws frames of its own at one event (R153); one in transmission goes on. The choice follows once
they are all withdrawn. -/
def Part.withdraw (p : Part) (ids : List Nat) : Part :=
  let out := ids.filter (fun id => !p.line.inTransmission id)
  let q := { p with line := p.line.drop out }
  if p.line.chose out then q.settleTransmitter else q

/-- The quota unit changes the count that a GRANT frame of its own carries (R153); one in transmission goes on. -/
def Part.reduceGrant (p : Part) (id count : Nat) : Part :=
  if p.line.inTransmission id then p
  else
    { p with line := p.line.modify id (fun s =>
        match s.body with
        | .grant g => { s with body := .grant { g with count } }
        | _ => s) }

end Sys2Proof.Machine
end

