-- ==== Sys2Proof/Machine/Fares.lean ====
section
/-! DEFINITION. The fare calculator: staging a table record, and the seven stages of a computation (R61 to R82). -/

namespace Sys2Proof.Machine

/-! ### Tables -/

/-- No records. -/
def TableSet.empty : TableSet := ⟨[], [], [], []⟩

/-- The number of records in each table. -/
def TableSet.counts (t : TableSet) : TableCounts :=
  ⟨t.destinations.length, t.products.length, t.concessions.length, t.bands.length⟩

/-- The fields of an item are within their ranges (R61 to R64, R66). -/
def FareItem.inRange : FareItem → Bool
  | .destination r =>
    decide (r.code ≤ 47) && decide (r.standard ≤ 99999) && decide (r.first ≤ 99999) && decide (r.cap ≤ 99999)
  | .product r =>
    decide (r.code ≤ 7) && decide (1 ≤ r.factor) && decide (r.factor ≤ 4000) && decide (r.childFactor ≤ 1000)
  | .concession r =>
    decide (1 ≤ r.code) && decide (r.code ≤ 8) && decide (r.discount ≤ 100) && decide (1 ≤ r.products.length)
      && decide (r.products.length ≤ 8) && r.products.all (fun c => decide (c ≤ 7))
  | .band r => decide (r.start ≤ 1439) && decide (1 ≤ r.factor) && decide (r.factor ≤ 2000)

/-- A record of the same kind with the same code, or for a band the same start minute, is staged (R66). -/
def TableSet.holds (t : TableSet) : FareItem → Bool
  | .destination r => t.destinations.any (fun x => x.code = r.code)
  | .product r => t.products.any (fun x => x.code = r.code)
  | .concession r => t.concessions.any (fun x => x.code = r.code)
  | .band r => t.bands.any (fun x => x.start = r.start)

/-- A band put in its place by start minute (R64). -/
def insertBand (b : Band) : List Band → List Band
  | [] => [b]
  | x :: xs => if b.start < x.start then b :: x :: xs else x :: insertBand b xs

/-- The record added, or put in the place of the one with its code (R66). -/
def TableSet.put (t : TableSet) : FareItem → TableSet
  | .destination r => { t with destinations := t.destinations.filter (fun x => x.code ≠ r.code) ++ [r] }
  | .product r => { t with products := t.products.filter (fun x => x.code ≠ r.code) ++ [r] }
  | .concession r => { t with concessions := t.concessions.filter (fun x => x.code ≠ r.code) ++ [r] }
  | .band r => { t with bands := insertBand r (t.bands.filter (fun x => x.start ≠ r.start)) }

/-- The band table is full for a band that is not yet staged (R66). -/
def TableSet.bandsFull (t : TableSet) (i : FareItem) : Bool :=
  match i with
  | .band _ => !t.holds i && decide (4 ≤ t.bands.length)
  | _ => false

/-! ### Stage 1: passenger counts (R72) -/

/-- The counts are valid. -/
def countsValid (adults children : Nat) : Bool :=
  decide (adults ≤ 9) && decide (children ≤ 9) && decide (1 ≤ adults + children) && decide (adults + children ≤ 9)

/-- The correction of invalid counts, adults first. -/
def correctCounts (adults children : Nat) : Nat × Nat :=
  let a := min adults 9
  let c := min children (9 - a)
  if a + c = 0 then (1, c) else (a, c)

/-! ### Stage 3: the time band (R75, R76) -/

/-- The departure minute of an entry (R75). -/
def Entry.departureMinute (e : Entry) : Nat := e.sortMinute % 1440

/-- The band of a departure minute, as its index: the last band that starts at or before it, else the last band
(R76). Bands stand in ascending order of start minute. -/
def bandIndex (bands : List Band) (minute : Nat) : Nat :=
  match (bands.filter (fun b => b.start ≤ minute)).length with
  | 0 => bands.length - 1
  | n + 1 => n

/-- The band used, and its factor T (R76). -/
def bandUsed (bands : List Band) (minute : Option Nat) : Option Nat × Nat :=
  match bands with
  | [] => (none, 1000)
  | first :: rest =>
    match minute with
    | none => (some 0, first.factor)
    | some m =>
      let k := bandIndex (first :: rest) m
      (some k, ((first :: rest)[k]?.getD first).factor)

/-! ### Stages 4 to 7 (R77 to R80) -/

/-- The person weight W. -/
def personWeight (adults children childFactor : Nat) : Nat := adults * 1000 + children * childFactor

/-- The exact integer N = W × B × P × T × (100 − D). -/
def exactTotal (w b p t d : Nat) : Nat := w * b * p * t * (100 - d)

/-- U, the weight of one rounding step. -/
def stepUnit (step : Nat) : Nat := step * 100000000000

/-- Rounding goes up (R78). -/
def roundsUp (mode : RoundingMode) (r u : Nat) : Bool :=
  match mode with
  | .halfUp => decide (u ≤ 2 * r)
  | .down => false
  | .up => decide (0 < r)

/-- Stage 5: the rounded amount, and its two flags. -/
def roundFare (mode : RoundingMode) (step n : Nat) : Nat × Bool × Bool :=
  let u := stepUnit step
  let q := n / u
  let r := n % u
  let up := roundsUp mode r u
  ((if up then q + 1 else q) * step, decide (0 < r), up)

/-- Stage 7: floor, then cap (R80), with the two flags. -/
def floorThenCap (minimum cap amount : Nat) : Nat × Bool × Bool :=
  let floored := decide (0 < amount) && decide (amount < minimum)
  let a := if floored then minimum else amount
  let capped := decide (0 < cap) && decide (cap < a)
  (if capped then cap else a, floored, capped)

/-! ### The computation (R71) -/

/-- What a computation reads besides its inputs: the active tables and their edition, the settings, the clock's
minute-of-day while it is set, and the departure minute of the named train's entry. -/
structure FareContext where
  active : Option TableSet
  edition : Nat
  settings : FareSettings
  clockMinute : Option Nat
  trainMinute : Option Nat
  deriving DecidableEq, Repr

/-- A computation's outcome and the flags it raised, refused or not (R82). -/
structure FareOutcome where
  verdict : FareVerdict
  flags : FareFlags
  deriving DecidableEq, Repr

/-- The discount of a concession, or none for one that is unknown or does not fit (R74). -/
def TableSet.discount (t : TableSet) (concession : Option Nat) (product : Nat) : Option Nat :=
  match concession with
  | none => some 0
  | some c =>
    match t.concessions.find? (fun r => r.code = c) with
    | none => none
    | some r => if product ∈ r.products then some r.discount else none

/-- The base fare of a class (R73). -/
def DestinationRecord.base (r : DestinationRecord) : FareClass → Nat
  | .standard => r.standard
  | .first => r.first

/-- Stages 3 to 7, after the counts and the look-ups. -/
def priceFare (ctx : FareContext) (tables : TableSet) (dest : DestinationRecord) (base : Nat) (prod : ProductRecord)
    (discount adults children : Nat) (flags : FareFlags) : FareOutcome :=
  let minute := match ctx.trainMinute with | some m => some m | none => ctx.clockMinute
  let flags := { flags with untimed := minute.isNone }
  let band := bandUsed tables.bands minute
  let n := exactTotal (personWeight adults children prod.childFactor) base prod.factor band.2 discount
  let rounded := roundFare ctx.settings.mode ctx.settings.step n
  let flags := { flags with inexact := rounded.2.1, roundedUp := rounded.2.2 }
  let tooBig := decide (99999 < rounded.1)
  if tooBig && !ctx.settings.masks.overflow then ⟨.refused .fareOverflow, flags⟩
  else
    let flags := { flags with overflow := tooBig }
    let final := floorThenCap ctx.settings.minimum dest.cap (if tooBig then 99999 else rounded.1)
    let flags := { flags with floored := final.2.1, capped := final.2.2 }
    ⟨.fare
      { amount := final.1, flags, band := band.1, adults, children,
        placesNeeded := if prod.quota then adults + children else 0, edition := ctx.edition }, flags⟩

/-- Stage 2: the look-ups, in order (R73, R74). -/
def lookUpFare (ctx : FareContext) (tables : TableSet) (i : FareInputs) (adults children : Nat) (flags : FareFlags) :
    FareOutcome :=
  match tables.destinations.find? (fun r => r.code = i.destination) with
  | none => ⟨.refused .noFare, flags⟩
  | some dest =>
    if dest.base i.fareClass = 0 then ⟨.refused .noFare, flags⟩
    else
      match tables.products.find? (fun r => r.code = i.product) with
      | none => ⟨.refused .noProduct, flags⟩
      | some prod =>
        if prod.quota && i.train.isNone then ⟨.refused .trainRequired, flags⟩
        else
          match tables.discount i.concession i.product with
          | some d => priceFare ctx tables dest (dest.base i.fareClass) prod d adults children flags
          | none =>
            if ctx.settings.masks.concession then
              priceFare ctx tables dest (dest.base i.fareClass) prod 0 adults children { flags with concession := true }
            else ⟨.refused .badConcession, flags⟩

/-- A computation: NO_FARES before any stage (R69), then the seven stages. -/
def fareOf (ctx : FareContext) (i : FareInputs) : FareOutcome :=
  match ctx.active with
  | none => ⟨.refused .noFares, FareFlags.none⟩
  | some tables =>
    if countsValid i.adults i.children then lookUpFare ctx tables i i.adults i.children FareFlags.none
    else if ctx.settings.masks.count then
      let used := correctCounts i.adults i.children
      lookUpFare ctx tables i used.1 used.2 { FareFlags.none with count := true }
    else ⟨.refused .badCount, FareFlags.none⟩

/-! ### A computation made by the part -/

/-- The fare settings of a start record (R70). -/
def StartRecord.fareSettings (r : StartRecord) : FareSettings := ⟨r.roundingStep, r.roundingMode, r.minimumFare, r.masks⟩

/-- What a computation reads of the part at its event (R71). Before a start record is accepted no computation is
made; the settings are then those of no rounding. -/
def Part.fareContext (p : Part) (i : FareInputs) : FareContext :=
  { active := p.fares.active
    edition := p.fares.edition
    settings := match p.port.record with | none => ⟨1, .halfUp, 0, ⟨false, false, false⟩⟩ | some r => r.fareSettings
    clockMinute := if p.clock.isSet then some p.clock.reading.minuteOfDay else none
    trainMinute := i.train.bind fun t => (p.board.find t).map Entry.departureMinute }

/-- A computation's flags gather in the sticky fare flags, completed or refused (R82). -/
def Part.gatherFlags (p : Part) (f : FareFlags) : Part :=
  { p with fares := { p.fares with sticky := p.fares.sticky.union f } }

end Sys2Proof.Machine
end

