-- ==== Sys2Proof/Machine/Ledger.lean ====
section
/-! DEFINITION. The moves of places between the counters of one ledger record (R110, R111, R116, R117, R123 to R130,
R134). Each takes a number of places out of one counter and adds the same number to another. -/

namespace Sys2Proof.Machine

/-- The first member of a list that passes `pick`, changed. -/
def modifyFirst {α : Type} (pick : α → Bool) (f : α → α) : List α → List α
  | [] => []
  | x :: xs => if pick x then f x :: xs else x :: modifyFirst pick f xs

/-- The places of some grant records. -/
def placesOf (l : List GrantRecord) : Nat := (l.map GrantRecord.count).sum

/-- A grant record in LENDING. -/
def GrantRecord.isLending (g : GrantRecord) : Bool :=
  match g.state with
  | .lending _ => true
  | _ => false

/-- A grant record in AWAITING. -/
def GrantRecord.isAwaiting (g : GrantRecord) : Bool :=
  match g.state with
  | .awaiting _ => true
  | _ => false

/-- A grant record in DOUBTFUL. -/
def GrantRecord.isDoubtful (g : GrantRecord) : Bool :=
  match g.state with
  | .doubtful => true
  | _ => false

/-- The grant record lends by this frame. -/
def GrantRecord.lendsBy (g : GrantRecord) (frame : Nat) : Bool := decide (g.state = .lending frame)

/-- The grant record answers this ask. -/
def GrantRecord.answers (g : GrantRecord) (asker number : Nat) : Bool :=
  decide (g.asker = asker) && decide (g.number = number)

/-- Reserve: k places from held to reserved (R116). -/
def LedgerRecord.reserve (r : LedgerRecord) (k : Nat) : LedgerRecord :=
  { r with held := r.held - min k r.held, reserved := r.reserved + min k r.held }

/-- Return: every reserved place back to held (R116). -/
def LedgerRecord.returnReserved (r : LedgerRecord) : LedgerRecord :=
  { r with held := r.held + r.reserved, reserved := 0 }

/-- Lapse of reserved: every reserved place to lapsed (R117). -/
def LedgerRecord.lapseReserved (r : LedgerRecord) : LedgerRecord :=
  { r with lapsed := r.lapsed + r.reserved, reserved := 0 }

/-- Sell: every reserved place to sold (R117). -/
def LedgerRecord.sellReserved (r : LedgerRecord) : LedgerRecord :=
  { r with sold := r.sold + r.reserved, reserved := 0 }

/-- Unsell: k places from sold, to held or to lapsed (R117). -/
def LedgerRecord.unsell (r : LedgerRecord) (k : Nat) (toHeld : Bool) : LedgerRecord :=
  if toHeld then { r with sold := r.sold - min k r.sold, held := r.held + min k r.sold }
  else { r with sold := r.sold - min k r.sold, lapsed := r.lapsed + min k r.sold }

/-- A GRANT taken: its places added to received, and to held or lapsed (R120). -/
def LedgerRecord.receive (r : LedgerRecord) (count : Nat) (toHeld : Bool) : LedgerRecord :=
  if toHeld then { r with received := r.received + count, held := r.held + count }
  else { r with received := r.received + count, lapsed := r.lapsed + count }

/-- A grant made: g places from held to lending, with its grant record (R123). -/
def LedgerRecord.lend (r : LedgerRecord) (g : GrantRecord) : LedgerRecord :=
  { r with held := r.held - g.count, lending := r.lending + g.count, grants := r.grants ++ [g] }

/-- An own grant sent whole: lending → awaiting (R125). -/
def LedgerRecord.grantSent (r : LedgerRecord) (frame deadline : Nat) : LedgerRecord :=
  match r.grants.find? (fun g => g.lendsBy frame) with
  | none => r
  | some g =>
    { r with lending := r.lending - g.count, awaiting := r.awaiting + g.count,
             grants := modifyFirst (fun g => g.lendsBy frame) (fun g => { g with state := .awaiting deadline }) r.grants }

/-- An own grant given up: lending → doubtful (R126). -/
def LedgerRecord.grantGivenUp (r : LedgerRecord) (frame : Nat) : LedgerRecord :=
  match r.grants.find? (fun g => g.lendsBy frame) with
  | none => r
  | some g =>
    { r with lending := r.lending - g.count, doubtful := r.doubtful + g.count,
             grants := modifyFirst (fun g => g.lendsBy frame) (fun g => { g with state := .doubtful }) r.grants }

/-- An own grant whose attempt was cut by a collision is collided (R124). -/
def LedgerRecord.grantCollided (r : LedgerRecord) (frame : Nat) : LedgerRecord :=
  { r with grants := modifyFirst (fun g => g.lendsBy frame) (fun g => { g with collided := true }) r.grants }

/-- An own LENDING grant taken out of the list: lending → lapsed (R124, R130). -/
def LedgerRecord.grantLapsed (r : LedgerRecord) (frame : Nat) : LedgerRecord :=
  match r.grants.find? (fun g => g.lendsBy frame) with
  | none => r
  | some g =>
    { r with lending := r.lending - g.count, lapsed := r.lapsed + g.count,
             grants := r.grants.eraseP (fun g => g.lendsBy frame) }

/-- The count of an own LENDING grant cut to `left`, its record removed at 0; the places cut go to held or to lapsed
(R124). -/
def LedgerRecord.cutGrant (r : LedgerRecord) (frame left : Nat) (toHeld : Bool) : LedgerRecord :=
  match r.grants.find? (fun g => g.lendsBy frame) with
  | none => r
  | some g =>
    let cut := g.count - left
    { r with
      lending := r.lending - cut
      held := if toHeld then r.held + cut else r.held
      lapsed := if toHeld then r.lapsed else r.lapsed + cut
      grants := if left = 0 then r.grants.eraseP (fun g => g.lendsBy frame)
        else modifyFirst (fun g => g.lendsBy frame) (fun g => { g with count := min g.count left }) r.grants }

/-- A TAKEN's match: asker, ask number and count (R127). -/
def GrantRecord.matchesTaken (asker number count : Nat) (g : GrantRecord) : Bool :=
  g.answers asker number && decide (g.count = count)

/-- A TAKEN taken: the matching grant's places to lent, its record removed (R127). -/
def LedgerRecord.grantTaken (r : LedgerRecord) (asker number count : Nat) : LedgerRecord :=
  match r.grants.find? (GrantRecord.matchesTaken asker number count) with
  | none => r
  | some g =>
    let grants := r.grants.eraseP (GrantRecord.matchesTaken asker number count)
    match g.state with
    | .lending _ => { r with lending := r.lending - g.count, lent := r.lent + g.count, grants }
    | .awaiting _ => { r with awaiting := r.awaiting - g.count, lent := r.lent + g.count, grants }
    | .doubtful => { r with doubtful := r.doubtful - g.count, lent := r.lent + g.count, grants }

/-- An AWAITING grant to `asker` under `number` whose TAKEN deadline `now` has reached (R128). -/
def GrantRecord.overdue (asker number now : Nat) (g : GrantRecord) : Bool :=
  g.answers asker number && (match g.state with | .awaiting d => decide (d ≤ now) | _ => false)

/-- An overdue grant: awaiting → doubtful (R128). DESIGN CHOICE, log 26: of several the first in the list. -/
def LedgerRecord.grantOverdue (r : LedgerRecord) (asker number now : Nat) : LedgerRecord :=
  match r.grants.find? (GrantRecord.overdue asker number now) with
  | none => r
  | some g =>
    { r with awaiting := r.awaiting - g.count, doubtful := r.doubtful + g.count,
             grants := modifyFirst (GrantRecord.overdue asker number now) (fun g => { g with state := .doubtful }) r.grants }

/-- An AWAITING grant to this node (R129). -/
def GrantRecord.awaits (asker : Nat) (g : GrantRecord) : Bool := decide (g.asker = asker) && g.isAwaiting

/-- Every AWAITING grant to a node that has gone: awaiting → doubtful (R129). -/
def LedgerRecord.peerGone (r : LedgerRecord) (asker : Nat) : LedgerRecord :=
  let k := placesOf (r.grants.filter (GrantRecord.awaits asker))
  { r with awaiting := r.awaiting - k, doubtful := r.doubtful + k,
           grants := r.grants.map (fun g => if g.awaits asker then { g with state := .doubtful } else g) }

/-- A train's lapse: every held place, and every LENDING grant whose frame is among those withdrawn (R130). -/
def LedgerRecord.lapse (r : LedgerRecord) (withdrawn : GrantRecord → Bool) : LedgerRecord :=
  let k := placesOf (r.grants.filter (fun g => g.isLending && withdrawn g))
  { r with held := 0, lending := r.lending - k, lapsed := r.lapsed + r.held + k,
           grants := r.grants.filter (fun g => !(g.isLending && withdrawn g)) }

/-- `a` is dropped for room before `b` (R123): the earlier made time, none earliest; then the lower asker, then the
lower ask number. -/
def GrantRecord.dropsBefore (a b : GrantRecord) : Bool :=
  let ma := match a.made with | none => 0 | some m => m + 1
  let mb := match b.made with | none => 0 | some m => m + 1
  if ma ≠ mb then decide (ma < mb)
  else if a.asker ≠ b.asker then decide (a.asker < b.asker)
  else decide (a.number ≤ b.number)

/-- The DOUBTFUL grant record that is dropped for room, if there is one (R123). DESIGN CHOICE, log 39: of records equal in
made time, asker and ask number it is the first in the list. -/
def doubtfulToDrop : List GrantRecord → Option GrantRecord
  | [] => none
  | g :: gs =>
    match doubtfulToDrop gs with
    | none => if g.isDoubtful then some g else none
    | some h => if g.isDoubtful && g.dropsBefore h then some g else some h

/-- Room for one more grant record (R123): there is, or a DOUBTFUL record is dropped while its places stay doubtful;
none without either. -/
def LedgerRecord.makeRoom (r : LedgerRecord) : Option LedgerRecord :=
  if r.grants.length < 8 then some r
  else
    match doubtfulToDrop r.grants with
    | none => none
    | some g => some { r with grants := r.grants.erase g }

/-- A grant record after the repair of a warm start (R134): a collided LENDING one and an AWAITING one become
DOUBTFUL, and no made time is left. -/
def GrantRecord.repaired (g : GrantRecord) : GrantRecord := { g with state := .doubtful, made := none }

/-- The repair of a record at a warm start (R134). -/
def LedgerRecord.repair (r : LedgerRecord) : LedgerRecord :=
  let back := placesOf (r.grants.filter (fun g => g.isLending && !g.collided))
  let lost := placesOf (r.grants.filter (fun g => g.isLending && g.collided))
  let awaited := placesOf (r.grants.filter GrantRecord.isAwaiting)
  { r with
    held := r.held + r.reserved + back
    reserved := 0
    lending := r.lending - (back + lost)
    awaiting := r.awaiting - awaited
    doubtful := r.doubtful + lost + awaited
    grants := (r.grants.filter (fun g => !(g.isLending && !g.collided))).map GrantRecord.repaired }

end Sys2Proof.Machine
end

