-- ==== Sys2Proof/Machine/Sales.lean ====
section
/-! DEFINITION. The sales unit: the journal, commit, the issue in flight, day close (R88 to R108). -/

namespace Sys2Proof.Machine

/-- The answer to a request: a result code and a payload (R180). -/
structure Answer where
  result : ResultCode
  body : ReplyBody
  deriving DecidableEq, Repr

/-- An answer without a payload. -/
def Answer.bare (result : ResultCode) : Answer := ⟨result, .empty⟩

/-- A refusal that leaves the part as it is. -/
def Part.refuse (p : Part) (code : ResultCode) : Part × Answer := (p, .bare code)

/-- The fare calculator computes a fare for the part at this event (R71, R82). -/
def Part.computeFare (p : Part) (i : FareInputs) : Part × FareVerdict :=
  let o := fareOf (p.fareContext i) i
  (p.gatherFlags o.flags, o.verdict)

/-- A move on the ledger record of a train, if one is named and has a record. -/
def Part.moveOn (p : Part) (t : Option TrainKey) (f : LedgerRecord → LedgerRecord) : Part :=
  match t with
  | none => p
  | some t => { p with quota := p.quota.modify t f }

/-! ### The journal (R102 to R104) -/

/-- A record at the journal's newest end, with the number `n` and a clock stamp (R102). -/
def Part.record (p : Part) (n : Nat) (body : JournalBody) : JournalRecord :=
  { number := n, stamp := p.clock.reading, stampSet := p.clock.isSet, body }

/-- The record numbered `n` is written, and the next journal number rises or is spent (R102). -/
def Part.write (p : Part) (n : Nat) (body : JournalBody) : Part :=
  { p with sales := { p.sales with
      journal := p.sales.journal ++ [p.record n body]
      nextNumber := if n < 4294967295 then some (n + 1) else none } }

/-- The journal number a sale or a void would take: none with 252 unreleased records or more, or the number spent
(R88, R96, R100). -/
def SalesUnit.spaceFor (s : SalesUnit) : Option Nat := if 252 ≤ s.journal.length then none else s.nextNumber

/-- One more on the overrun count (R102, R104). -/
def Part.countOverrun (p : Part) : Part := { p with sales := { p.sales with overrun := bump p.sales.overrun } }

/-- The oldest unreleased record released to make room, with its notice (R104). -/
def Part.overrunOldest (p : Part) : Part :=
  match p.sales.journal with
  | [] => p
  | oldest :: rest =>
    let q := { p with sales := { p.sales with journal := rest } }.countOverrun
    q.post (mkNotice .sale .overrun none .none oldest.number q.sales.overrun)

/-- A DAY_CLOSE or START record is written whatever the count, unless the number is spent (R102, R104). -/
def Part.writeAlways (p : Part) (body : JournalBody) : Part :=
  match p.sales.nextNumber with
  | none => p.countOverrun
  | some n => (if 256 ≤ p.sales.journal.length then p.overrunOldest else p).write n body

/-! ### Commit (R96, R97) -/

/-- How a commit ends. -/
inductive Commit where
  | sold (fields : SaleFields) (record : JournalRecord)
  | refused (code : ResultCode)
  deriving DecidableEq, Repr

/-- The issue record is cleared. -/
def Part.clearIssue (p : Part) : Part := { p with sales := { p.sales with issue := none } }

/-- The train of a request, if it names one, is LISTED or DUE (R86, R88, R96). -/
def Part.trainOk (p : Part) (i : FareInputs) : Bool :=
  match i.train with
  | none => true
  | some t => p.trainSellable t

/-- The SALE fields of a commit (R97, R99, R103). -/
def Part.saleFields (p : Part) (req : IssueRequest) (r : FareResult) : SaleFields :=
  { ticket := ⟨p.clock.salesDay, p.ownNode, p.sales.nextSerial⟩, product := req.inputs.product,
    destination := req.inputs.destination, fareClass := req.inputs.fareClass, concession := req.inputs.concession,
    adults := r.adults, children := r.children, train := req.inputs.train, amount := r.amount, flags := r.flags,
    band := r.band, placesUsed := r.placesNeeded, payment := req.payment }

/-- A commit that passes its checks (R97): ticket number, SALE record, day totals, places sold, void window, issue
record. -/
def Part.completeSale (p : Part) (req : IssueRequest) (r : FareResult) (n : Nat) : Part :=
  let fields := p.saleFields req r
  let q := p.write n (.sale fields)
  let q := { q with sales := { q.sales with
      nextSerial := q.sales.nextSerial + 1
      totals := { q.sales.totals with
        tickets := bump q.sales.totals.tickets, sum := satAdd 4294967295 q.sales.totals.sum r.amount }
      voidWindow := some ⟨fields.ticket, p.lineTime⟩
      issue := none } }
  if 0 < r.placesNeeded then q.moveOn req.inputs.train LedgerRecord.sellReserved else q

/-- A commit, made whole at one event: the checks of R96 in order, then R97. -/
def Part.commit (p : Part) (req : IssueRequest) (needed : Nat) : Part × Commit :=
  if !p.trainOk req.inputs then
    ((p.moveOn req.inputs.train LedgerRecord.lapseReserved).clearIssue, .refused .trainNotSellable)
  else
    let q := (p.computeFare req.inputs).1
    let back := (q.moveOn req.inputs.train LedgerRecord.returnReserved).clearIssue
    match (p.computeFare req.inputs).2 with
    | .refused code => (back, .refused code)
    | .fare r =>
      if r.amount ≠ req.agreed ∨ r.placesNeeded ≠ needed then (back, .refused .fareChanged)
      else
        match q.sales.spaceFor with
        | none => (back, .refused .journalFull)
        | some n => (q.completeSale req r n, .sold (q.saleFields req r) (q.record n (.sale (q.saleFields req r))))

/-! ### The issue in flight (R90 to R98) -/

/-- The subject of a SALE REFUSED notice: the train (R98). -/
def trainSubject : Option TrainKey → Subject
  | none => .none
  | some t => .train t

/-- The SALE notice of an issue refused after it was answered ACCEPTED (R98). -/
def refusedNotice (req : IssueRequest) (code : ResultCode) : Notice :=
  mkNotice .sale .refused none (trainSubject req.inputs.train) code.code req.payment

/-- The SALE notice of an issue in flight that has ended in a commit (R98). -/
def commitNotice (req : IssueRequest) : Commit → Notice
  | .sold fields record => mkNotice .sale .done none (.ticket fields.ticket) fields.amount record.number
  | .refused code => refusedNotice req code

/-- The shortfall: places needed minus places reserved (R89). -/
def IssueRecord.shortfall (i : IssueRecord) : Nat := i.needed - i.reserved

/-- The issue in flight names this train. -/
def SalesUnit.issueFor (s : SalesUnit) (t : TrainKey) : Option IssueRecord :=
  match s.issue with
  | none => none
  | some i => if i.request.inputs.train = some t then some i else none

/-- Held has risen on a train's record (R90, R116): the issue in flight for it takes what it lacks, and commits when
nothing is lacking. -/
def Part.topUp (p : Part) (t : TrainKey) : Part :=
  match p.sales.issueFor t with
  | none => p
  | some i =>
    let k := min i.shortfall (p.quota.heldOf t)
    let q := p.moveOn (some t) (fun r => r.reserve k)
    let i' := { i with reserved := i.reserved + k }
    let q := { q with sales := { q.sales with issue := some i' } }
    if i'.shortfall = 0 then
      let c := q.commit i.request i.needed
      c.1.post (commitNotice i.request c.2)
    else q

/-- The issue in flight ends refused: its reserved places moved, its record cleared, SALE posted (R92 to R94). -/
def Part.endIssue (p : Part) (i : IssueRecord) (code : ResultCode) (move : LedgerRecord → LedgerRecord) : Part :=
  (p.moveOn i.request.inputs.train move).clearIssue.post (refusedNotice i.request code)

/-- The departure list reports that a train has entered GONE or CANCELLED (R25, R94). -/
def Part.salesTrainLeft (p : Part) (t : TrainKey) (code : ResultCode) : Part :=
  match p.sales.issueFor t with
  | none => p
  | some i => p.endIssue i code LedgerRecord.lapseReserved

/-! ### Day close (R108) -/

/-- The old sales day is closed. The sales unit works only with the SELLS role, so a part without it closes no day (R85,
log 38). -/
def Part.closeDay (p : Part) (old : Nat) : Part :=
  if !p.roles.sells then p
  else
    let q := p.writeAlways (.dayClose old p.sales.totals)
    { q with sales := { q.sales with totals := DayTotals.zero, nextSerial := 1, voidWindow := none } }

end Sys2Proof.Machine
end

