-- ==== Sys2Proof/Machine/Quota.lean ====
section
/-! DEFINITION. The quota unit: shares, the ASK, GRANT and TAKEN protocol on both sides, lapse, purge and repair
(R113 to R134). -/

namespace Sys2Proof.Machine

/-- A QUOTA notice about a train (R132). -/
def quotaNotice (cause : NoticeCause) (source : Option Nat) (t : TrainKey) (first second : Nat) : Notice :=
  mkNotice .quota cause source (.train t) first second

/-! ### Shares (R113 to R115) -/

/-- The share of seller index `i` among `n` sellers of `total` places (R114). -/
def shareOf (total n i : Nat) : Nat := total / n + (if i < total % n then 1 else 0)

/-- The share this node takes of a new record (R114). -/
def Part.newShare (p : Part) (total : Nat) : Nat :=
  match p.port.record with
  | none => 0
  | some r => if r.roles.sells && !p.quota.blind then shareOf total r.sellerCount r.sellerIndex else 0

/-- A new ledger record: held equals the share, every other counter is 0 (R113). -/
def LedgerRecord.fresh (t : TrainKey) (total share : Nat) : LedgerRecord :=
  { train := t, quotaTotal := total, share, received := 0, held := share, reserved := 0, lending := 0, awaiting := 0,
    lent := 0, doubtful := 0, sold := 0, lapsed := 0, grants := [] }

/-- The departure list asks for a ledger link for a new entry (R29, R113): the part, and whether there is a link. -/
def Part.linkLedger (p : Part) (t : TrainKey) (total : Nat) : Part × Bool :=
  if total = 0 then (p, false)
  else
    match p.quota.find t with
    | some _ => (p, true)
    | none =>
      if p.quota.ledger.length < 32 then
        let share := p.newShare total
        let q := { p with quota := { p.quota with ledger := p.quota.ledger ++ [LedgerRecord.fresh t total share] } }
        (q.post (quotaNotice .share none t share total), true)
      else
        let q := { p with quota := { p.quota with ledgerFull := bump p.quota.ledgerFull } }
        (q.post (quotaNotice .ledgerFull none t total q.quota.ledgerFull), false)

/-! ### The asker's side (R119 to R121) -/

/-- A record at the end of a list of at most 8, the oldest removed to make room (R119, R122). DESIGN CHOICE, log 39: of
records of one line time the one that was entered first is the oldest. -/
def pushEight {α : Type} (l : List α) (x : α) : List α := (if 8 ≤ l.length then l.drop 1 else l) ++ [x]

/-- The sales unit asks for an ASK (R119). Without a slot no ask record is made. -/
def Part.sendAsk (p : Part) (t : TrainKey) (wanted : Nat) : Part :=
  let q := p.offer .urgent (.ask ⟨t, wanted⟩)
  let a : AskRecord := { number := p.line.nextSeq, train := t, wanted, sent := p.lineTime, takings := [] }
  if p.line.hasRoom .urgent then { q with quota := { q.quota with asks := pushEight q.quota.asks a } } else q

/-- The asker confirms a grant (R121). -/
def Part.sendTaken (p : Part) (granter number : Nat) (t : TrainKey) (count : Nat) : Part :=
  p.offer .urgent (.taken ⟨granter, number, t, count⟩)

/-- A GRANT for this node that is not taken (R120). -/
def Part.ignoreGrant (p : Part) : Part :=
  { p with quota := { p.quota with ignoredGrants := bump p.quota.ignoredGrants } }

/-- The ask record a GRANT or its taking belongs to (R120). -/
def AskRecord.isFor (number : Nat) (t : TrainKey) (a : AskRecord) : Bool :=
  decide (a.number = number) && decide (a.train = t)

/-- The sender and count of a GRANT added to an ask record's takings (R120). -/
def AskRecord.addTaking (sender count : Nat) (a : AskRecord) : AskRecord :=
  { a with takings := a.takings ++ [{ granter := sender, count }] }

/-- A GRANT's places taken into the record, with the taking noted and GRANT_IN posted (R120, R132). -/
def Part.acceptGrant (p : Part) (sender : Nat) (g : GrantPayload) (toHeld : Bool) : Part :=
  let q := p.moveOn (some g.train) (fun r => r.receive g.count toHeld)
  let q := { q with quota := { q.quota with
      asks := modifyFirst (AskRecord.isFor g.number g.train)
        (AskRecord.addTaking sender g.count) q.quota.asks } }
  let after := match q.quota.find g.train with | none => 0 | some r => if toHeld then r.held else r.lapsed
  q.post (quotaNotice .grantIn (some sender) g.train g.count after)

/-- A GRANT whose asker node is this node (R120). -/
def Part.takeGrant (p : Part) (sender : Nat) (g : GrantPayload) : Part :=
  match p.quota.asks.find? (AskRecord.isFor g.number g.train) with
  | none => p.ignoreGrant
  | some a =>
    match a.takings.find? (fun t => t.granter = sender) with
    | some t => p.sendTaken sender g.number g.train t.count
    | none =>
      if !p.trainLinked g.train then p.ignoreGrant
      else
        match p.quota.find g.train with
        | none => p.ignoreGrant
        | some r =>
          if 99 < r.share + r.received + g.count then p.ignoreGrant
          else
            let toHeld := p.trainSellable g.train
            let q := p.acceptGrant sender g toHeld
            let q := if toHeld then q.topUp g.train else q
            q.sendTaken sender g.number g.train g.count

/-! ### The granter's side (R122 to R124) -/

/-- A GRANT offered, and with a slot its places lent (R123). -/
def Part.offerGrant (p : Part) (asker number : Nat) (t : TrainKey) (g : Nat) : Part :=
  let q := p.offer .urgent (.grant ⟨asker, number, t, g⟩)
  let made : GrantRecord :=
    { asker, number, count := g, state := .lending p.line.nextFrame, collided := false, made := some p.lineTime }
  if p.line.hasRoom .urgent then q.moveOn (some t) (fun r => r.lend made) else q

/-- The grant size (R123). -/
def grantSize (wanted heardGranted held : Nat) : Nat := min (wanted - heardGranted) (held / 2)

/-- The decision right after an ASK was entered in the watch (R123). -/
def Part.decideGrant (p : Part) (asker number : Nat) (a : AskPayload) : Part :=
  if !(p.trainLinked a.train && p.trainSellable a.train) then p
  else
    match p.quota.find a.train with
    | none => p
    | some r =>
      let g := grantSize a.wanted 0 r.held
      if g = 0 then p
      else
        match r.makeRoom with
        | none => { p with quota := { p.quota with forgoneGrants := bump p.quota.forgoneGrants } }
        | some roomy => (p.moveOn (some a.train) (fun _ => roomy)).offerGrant asker number a.train g

/-- The ask id of a watch record. -/
def WatchRecord.isFor (asker number : Nat) (w : WatchRecord) : Bool :=
  decide (w.asker = asker) && decide (w.number = number)

/-- An ASK from another node (R122): entered in the watch of a seller, and decided on. -/
def Part.hearAsk (p : Part) (sender number : Nat) (a : AskPayload) : Part :=
  if !p.roles.sells then p
  else if p.quota.watch.any (WatchRecord.isFor sender number) then p
  else
    let w : WatchRecord :=
      { asker := sender, number, train := a.train, wanted := a.wanted, heardGranted := 0, heard := p.lineTime }
    let q := { p with quota := { p.quota with watch := pushEight p.quota.watch w } }
    q.decideGrant sender number a

/-- An own grant that a third node's GRANT may cut (R124): for the ask, LENDING, not in transmission, not collided. -/
def Part.cuttable (p : Part) (asker number : Nat) (g : GrantRecord) : Option Nat :=
  match g.state with
  | .lending frame =>
    if g.answers asker number && !g.collided && !p.line.inTransmission frame then some frame else none
  | _ => none

/-- The GRANT frame in the store after a cut: carrying the new count, or withdrawn at 0 (R124). -/
def Part.cutFrame (p : Part) (frame left : Nat) : Part :=
  if left = 0 then p.withdraw [frame] else p.reduceGrant frame left

/-- An own grant cut to at most `left` places (R124). DESIGN CHOICE, log 26: of several own grants for the ask the first
in the list that may be cut is meant, and it alone. -/
def Part.cutOwnGrant (p : Part) (t : TrainKey) (asker number left : Nat) : Part :=
  match p.quota.find t with
  | none => p
  | some r =>
    match r.grants.findSome? (fun g => (p.cuttable asker number g).map (fun frame => (frame, g.count))) with
    | none => p
    | some (frame, count) =>
      if count ≤ left then p
      else
        let toHeld := p.trainSellable t
        let q := (p.moveOn (some t) (fun r => r.cutGrant frame left toHeld)).cutFrame frame left
        if toHeld then q.topUp t else q

/-- A GRANT between two other nodes (R124): it raises heard-granted, and cuts an own grant for the same ask. -/
def Part.overhearGrant (p : Part) (sender : Nat) (g : GrantPayload) : Part :=
  if sender = g.asker then p
  else
    match p.quota.watch.find? (WatchRecord.isFor g.asker g.number) with
    | none => p
    | some w =>
      let heard := satAdd 99 w.heardGranted g.count
      let q := { p with quota := { p.quota with
          watch := modifyFirst (WatchRecord.isFor g.asker g.number) (fun w => { w with heardGranted := heard })
            p.quota.watch } }
      q.cutOwnGrant w.train g.asker g.number (w.wanted - heard)

/-- A GRANT from a peer. -/
def Part.hearGrant (p : Part) (sender : Nat) (g : GrantPayload) : Part :=
  if g.asker = p.ownNode then p.takeGrant sender g else p.overhearGrant sender g

/-- A TAKEN that matches nothing (R127). -/
def Part.unmatchedTaken (p : Part) : Part :=
  { p with quota := { p.quota with unmatchedTaken := bump p.quota.unmatchedTaken } }

/-- The frames that a TAKEN's match leaves to withdraw (R127). -/
def GrantRecord.frames (g : GrantRecord) : List Nat :=
  match g.state with
  | .lending frame => [frame]
  | _ => []

/-- A TAKEN from a peer (R127). -/
def Part.hearTaken (p : Part) (sender : Nat) (t : TakenPayload) : Part :=
  if t.granter ≠ p.ownNode then p
  else
    match p.quota.find t.train with
    | none => p.unmatchedTaken
    | some r =>
      match r.grants.find? (GrantRecord.matchesTaken sender t.number t.count) with
      | none => p.unmatchedTaken
      | some g => (p.moveOn (some t.train) (fun r => r.grantTaken sender t.number t.count)).withdraw g.frames

/-! ### Settling a grant (R124 to R129) -/

/-- The ledger record that lends by a frame, with its grant record. -/
def QuotaUnit.lender (q : QuotaUnit) (frame : Nat) : Option (LedgerRecord × GrantRecord) :=
  q.ledger.findSome? (fun r => (r.grants.find? (fun g => g.lendsBy frame)).map (fun g => (r, g)))

/-- The line reports an own GRANT sent whole (R125). -/
def Part.grantSent (p : Part) (frame : Nat) : Part :=
  match p.quota.lender frame with
  | none => p
  | some (r, g) =>
    (p.moveOn (some r.train) (fun r => r.grantSent frame (p.lineTime + 2000))).post
      (quotaNotice .grantOut (some g.asker) r.train g.count (r.awaiting + g.count))

/-- The line reports an own GRANT given up: it becomes DOUBTFUL (R126), and after its train's lapse its places go to
lapsed (R130; DEDUCED, log 21). -/
def Part.grantGivenUp (p : Part) (frame : Nat) : Part :=
  match p.quota.lender frame with
  | none => p
  | some (r, g) =>
    if p.trainSellable r.train then
      (p.moveOn (some r.train) (fun r => r.grantGivenUp frame)).post
        (quotaNotice .doubtful (some g.asker) r.train g.count (r.doubtful + g.count))
    else p.moveOn (some r.train) (fun r => r.grantLapsed frame)

/-- The line reports an own GRANT's attempt cut by a collision (R124). -/
def Part.grantCut (p : Part) (frame : Nat) : Part :=
  match p.quota.lender frame with
  | none => p
  | some (r, _) =>
    if p.trainSellable r.train then p.moveOn (some r.train) (fun r => r.grantCollided frame)
    else (p.moveOn (some r.train) (fun r => r.grantLapsed frame)).withdraw [frame]

/-- A TAKEN deadline is reached (R128). -/
def Part.grantOverdue (p : Part) (t : TrainKey) (asker number : Nat) : Part :=
  match p.quota.find t with
  | none => p
  | some r =>
    match r.grants.find? (GrantRecord.overdue asker number p.lineTime) with
    | none => p
    | some g =>
      (p.moveOn (some t) (fun r => r.grantOverdue asker number p.lineTime)).post
        (quotaNotice .doubtful (some g.asker) t g.count (r.doubtful + g.count))

/-- The DOUBTFUL notice of one record after its asker has gone (R129). -/
def Part.notePeerGone (p : Part) (asker : Nat) (before : LedgerRecord) : Part :=
  let k := placesOf (before.grants.filter (GrantRecord.awaits asker))
  p.post (quotaNotice .doubtful (some asker) before.train k (before.doubtful + k))

/-- The peer table reports a peer GONE (R129): one notice for each ledger record affected (DEDUCED, log 25). -/
def Part.quotaPeerGone (p : Part) (asker : Nat) : Part :=
  let affected := p.quota.ledger.filter (fun r => r.grants.any (GrantRecord.awaits asker))
  let q := { p with quota := { p.quota with ledger := p.quota.ledger.map (fun r => r.peerGone asker) } }
  affected.foldl (fun q r => q.notePeerGone asker r) q

/-! ### Lapse, purge, repair (R130, R131, R134) -/

/-- The frame of a LENDING grant is not in transmission, so the grant can be withdrawn. -/
def LineInterface.mayWithdraw (l : LineInterface) (g : GrantRecord) : Bool :=
  match g.state with
  | .lending frame => !l.inTransmission frame
  | _ => false

/-- A linked train has entered GONE or CANCELLED (R130). DESIGN CHOICE, log 41: both values of the LAPSE notice (R132) leave
out the reserved places that the sales unit lapses at the same report. -/
def Part.lapseTrain (p : Part) (t : TrainKey) : Part :=
  match p.quota.find t with
  | none => p
  | some r =>
    let out := r.grants.filter p.line.mayWithdraw
    let moved := r.held + placesOf out
    let q := (p.moveOn (some t) (fun r => r.lapse p.line.mayWithdraw)).withdraw (out.flatMap GrantRecord.frames)
    if moved = 0 then q else q.post (quotaNotice .lapse none t moved (r.lapsed + moved))

/-- The quota unit at a rollover event (R115, R131). -/
def Part.purgeLedger (p : Part) (new : Nat) : Part :=
  { p with quota := { p.quota with
      blind := false
      ledger := p.quota.ledger.filter (fun r => !(decide (r.train.day < new) && !p.trainSellable r.train)) } }

/-- The quota unit's ledger at a warm start (R134). -/
def QuotaUnit.repair (q : QuotaUnit) : QuotaUnit := { q with ledger := q.ledger.map LedgerRecord.repair }

end Sys2Proof.Machine
end

