-- ==== Sys2Proof/Machine/Departures.lean ====
section
/-! DEFINITION. The departure list: evaluation and its reports, TRAIN frames, updates, displacement, purge, the
timetable load (R22 to R46). -/

namespace Sys2Proof.Machine

/-- A BOARD notice about a train (R46). -/
def boardNotice (cause : NoticeCause) (source : Option Nat) (t : TrainKey) (first second : Nat) : Notice :=
  mkNotice .board cause source (.train t) first second

/-- The entry of a train changed. -/
def Part.modifyEntry (p : Part) (t : TrainKey) (f : Entry → Entry) : Part :=
  { p with board := p.board.modify t f }

/-! ### Evaluation (R22 to R25) -/

/-- The reports of an entry that has entered GONE or CANCELLED: the quota unit, then the sales unit (R25). -/
def Part.reportLeft (p : Part) (e : Entry) (code : ResultCode) : Part :=
  (if e.linked then p.lapseTrain e.train else p).salesTrainLeft e.train code

/-- An entry enters GONE: its refresh deadline is cleared (R42), and the two reports are made (R25). -/
def Part.enterGone (p : Part) (e : Entry) : Part :=
  (p.modifyEntry e.train (fun e => { e with state := .gone, refreshDeadline := none })).reportLeft e .trainGone

/-- An entry enters CANCELLED (R24, R25). -/
def Part.enterCancelled (p : Part) (e : Entry) : Part :=
  (p.modifyEntry e.train (fun e => { e with state := .cancelled })).reportLeft e .trainCancelled

/-- An entry evaluated at `now`, with the BOARD GONE notice if `tell` (R22 to R25): the part, and whether the state
changed. -/
def Part.evaluateEntry (p : Part) (e : Entry) (now : Nat) (tell : Bool) : Part × Bool :=
  let st := e.judged now
  if st = e.state then (p, false)
  else if st = .gone then
    let q := p.enterGone e
    (if tell then q.post (boardNotice .gone none e.train now e.estimate.code) else q, true)
  else (p.modifyEntry e.train (fun e => { e with state := st }), true)

/-- The entry of a train evaluated at the clock's present minute, if the clock is set (R22). -/
def Part.evaluateNow (p : Part) (t : TrainKey) (tell : Bool) : Part :=
  match p.clock.now?, p.board.find t with
  | some now, some e => (p.evaluateEntry e now tell).1
  | _, _ => p

/-- Each train of a list evaluated in turn; whether any state changed. -/
def Part.evaluateAll (p : Part) (now : Nat) : List TrainKey → Part × Bool
  | [] => (p, false)
  | t :: ts =>
    match p.board.find t with
    | none => p.evaluateAll now ts
    | some e =>
      let q := p.evaluateEntry e now true
      let rest := q.1.evaluateAll now ts
      (rest.1, q.2 || rest.2)

/-- The departure list takes a minute event (R22); the page builder is told once (R44). -/
def Part.boardMinute (p : Part) (now : Nat) : Part :=
  let q := p.evaluateAll now (p.board.entries.map Entry.train)
  q.1.boardChangedIf q.2

/-! ### TRAIN frames (R40 to R43) -/

/-- The update that a TRAIN frame of an entry carries (R41). -/
def Entry.frameUpdate (e : Entry) (announce : Bool) : Update :=
  { train := e.train, serial := e.serial, estimate := e.estimate, expected := e.expected, platform := e.platform,
    isNew := true, announce,
    newTrain := some ⟨e.destination, e.scheduled, e.quotaTotal, e.calling⟩ }

/-- The TRAIN frames in the store for a train. DESIGN CHOICE, log 35: a frame that a removed entry left behind counts
as one for the entry created later for the same train. -/
def LineInterface.trainFrames (l : LineInterface) (t : TrainKey) : List Nat :=
  (l.slots.filter (fun s => match s.body with | .train u => decide (u.train = t) | _ => false)).map Slot.id

/-- The frame in store back to none, unless its frame is still in the store (R41, R43). -/
def Entry.dropMark (e : Entry) (l : LineInterface) : Entry :=
  match e.frame with
  | none => e
  | some m => if l.slots.any (fun s => s.id = m.frame) then e else { e with frame := none }

/-- The TRAIN frames of a train that are not in transmission are withdrawn (R35, R40, R43), whichever entry of the
train left them (log 35). -/
def Part.withdrawTrain (p : Part) (t : TrainKey) : Part :=
  let q := p.withdraw (p.line.trainFrames t)
  q.modifyEntry t (fun e => e.dropMark q.line)

/-- A TRAIN frame built from an entry is offered (R37, R40, R42): the part, and whether the store took it. -/
def Part.queueTrain (p : Part) (e : Entry) (kind : EntryFrame) (c : FrameClass) : Part × Bool :=
  let q := p.offer c (.train (e.frameUpdate (decide (kind = .announce))))
  if p.line.hasRoom c then
    (q.modifyEntry e.train (fun e => { e with frame := some ⟨kind, p.line.nextFrame⟩ }), true)
  else (q, false)

/-- The line reports a TRAIN frame sent whole or given up (R41). -/
def Part.trainReported (p : Part) (frame : Nat) : Part :=
  { p with board := { p.board with entries := p.board.entries.map (fun e =>
      match e.frame with
      | none => e
      | some m => if m.frame = frame then { e with frame := none } else e) } }

/-- The refresh deadline is restarted, unless the entry is GONE (R42). -/
def Part.restartRefresh (p : Part) (t : TrainKey) : Part :=
  p.modifyEntry t (fun e =>
    if e.state = .gone then e else { e with refreshDeadline := some (p.lineTime + p.refreshMs) })

/-! ### Updates (R33 to R40) -/

/-- An expected minute clamped to its train's scheduled minute, and whether it was (R34). -/
def clampExpected (scheduled minute : Nat) : Nat × Bool :=
  let low := scheduled - 10
  let high := min (scheduled + 720) 1799
  if minute < low then (low, true) else if high < minute then (high, true) else (minute, false)

/-- The expected minute and CLAMPED that an update gives a train scheduled at a minute (R34). -/
def Update.clamped (u : Update) (scheduled : Nat) : Option Nat × Bool :=
  match u.estimate with
  | .expected =>
    let c := clampExpected scheduled (u.expected.getD scheduled)
    (some c.1, c.2)
  | _ => (none, false)

/-- An update applied to an entry's fields (R34), its state apart. -/
def Entry.apply (e : Entry) (u : Update) : Entry :=
  { e with
    serial := u.serial
    estimate := u.estimate
    expected := (u.clamped e.scheduled).1
    clamped := (u.clamped e.scheduled).2
    platform := if u.platform = 0 then e.platform else u.platform
    platformChanged := e.platformChanged || (decide (u.platform ≠ 0) && decide (u.platform ≠ e.platform)) }

/-- The state an applied update moves an entry to before its evaluation (R24, R34). -/
def movedState (st : EntryState) (estimate : Estimate) : EntryState :=
  if estimate = .cancelled then .cancelled else if st = .cancelled then .listed else st

/-- What became of an update (R33). -/
inductive UpdateEnd where
  | applied (queued : Bool)
  | refused (code : ResultCode)
  deriving DecidableEq, Repr

/-- The frames of an applied update (R35, R40): withdrawn, and queued anew for an update of the unit processor. -/
def Part.updateFrames (p : Part) (source : Option Nat) (t : TrainKey) : Part × Bool :=
  let q := p.withdrawTrain t
  match source with
  | some _ => (q, false)
  | none =>
    match q.board.find t with
    | none => (q, false)
    | some e => q.queueTrain e .update .normal

/-- The second value of a BOARD UPDATE notice: the state, plus 256 when CLAMPED is set (R46, R207). -/
def Part.stateValue (p : Part) (t : TrainKey) : Nat :=
  match p.board.find t with
  | none => 0
  | some e => e.state.code + (if e.clamped then 256 else 0)

/-- An entry that the update has moved to CANCELLED from another state is reported (R25). -/
def Part.reportCancelled (p : Part) (t : TrainKey) (before : EntryState) : Part :=
  match p.board.find t with
  | none => p
  | some e => if e.state = .cancelled ∧ before ≠ .cancelled then p.enterCancelled e else p

/-- A newer update applied to its entry and finished (R34, R35). -/
def Part.applyUpdate (p : Part) (source : Option Nat) (u : Update) (e : Entry) : Part × Bool :=
  let q := p.modifyEntry u.train (fun e => { e.apply u with state := movedState e.state u.estimate })
  let framed := q.updateFrames source u.train
  let q := framed.1.restartRefresh u.train
  let q := (q.reportCancelled u.train e.state).evaluateNow u.train false
  let q := q.post (boardNotice .update source u.train u.serial (q.stateValue u.train))
  (q.boardChanged, framed.2)

/-- `a` is displaced before `b` (R38): the smaller absolute scheduled minute, then train id, then service day. -/
def Entry.displacedBefore (a b : Entry) : Bool :=
  if a.absScheduled ≠ b.absScheduled then decide (a.absScheduled < b.absScheduled)
  else if a.train.id ≠ b.train.id then decide (a.train.id < b.train.id)
  else decide (a.train.day ≤ b.train.day)

/-- The entry that makes room for a new one (R38): among those GONE or CANCELLED. -/
def entryToDisplace : List Entry → Option Entry
  | [] => none
  | e :: es =>
    match entryToDisplace es with
    | none => if e.sellable then none else some e
    | some d => if !e.sellable && e.displacedBefore d then some e else some d

/-- An entry removed, its TRAIN frame withdrawn if not in transmission (R38, R44). -/
def Part.removeEntry (p : Part) (e : Entry) : Part :=
  let q := p.withdraw (p.line.trainFrames e.train)
  { q with board := { q.board with entries := q.board.entries.filter (fun x => x.train ≠ e.train) } }

/-- The entry that an update creates (R38), its link apart. -/
def Update.entry (u : Update) (b : NewTrain) : Entry :=
  { train := u.train, destination := b.destination, scheduled := b.scheduled, estimate := u.estimate,
    expected := (u.clamped b.scheduled).1, platform := u.platform, platformChanged := false, calling := b.calling,
    serial := u.serial, clamped := (u.clamped b.scheduled).2, quotaTotal := b.quotaTotal, linked := false,
    refreshDeadline := none, frame := none, state := if u.estimate = .cancelled then .cancelled else .listed }

/-- An entry joins the list, with the ledger link asked for first (R28, R29, R38). -/
def Part.addEntry (p : Part) (e : Entry) : Part :=
  let l := p.linkLedger e.train e.quotaTotal
  { l.1 with board := { l.1.board with entries := l.1.board.entries ++ [{ e with linked := l.2 }] } }

/-- A NEW update's entry created and finished (R35, R38); `displaced` is the displaced train id, or 0. -/
def Part.createEntry (p : Part) (source : Option Nat) (u : Update) (b : NewTrain) (displaced : Nat) : Part × Bool :=
  let q := p.addEntry (u.entry b)
  let framed := q.updateFrames source u.train
  let q := (framed.1.restartRefresh u.train).evaluateNow u.train true
  let q := q.post (boardNotice .created source u.train u.serial displaced)
  (q.boardChanged, framed.2)

/-- An update dropped for want of an entry (R39). -/
def Part.dropUnknown (p : Part) (source : Option Nat) : Part × UpdateEnd :=
  match source with
  | none => (p, .refused .stale)
  | some _ => ({ p with board := { p.board with unknownCount := bump p.board.unknownCount } }, .refused .stale)

/-- A NEW update with no room for its train (R38). -/
def Part.dropFull (p : Part) (source : Option Nat) (u : Update) : Part × UpdateEnd :=
  let q := { p with board := { p.board with fullCount := bump p.board.fullCount } }
  (q.post (boardNotice .full source u.train u.serial q.board.fullCount), .refused .listFull)

/-- The update's service day is earlier than the known sales day (R38, R39). -/
def Part.dayPast (p : Part) (t : TrainKey) : Bool :=
  match p.clock.salesDay with
  | none => false
  | some d => decide (t.day < d)

/-- An update for a train without an entry (R38, R39). -/
def Part.newUpdate (p : Part) (source : Option Nat) (u : Update) : Part × UpdateEnd :=
  match u.newTrain with
  | none => p.dropUnknown source
  | some b =>
    if p.dayPast u.train then p.dropUnknown source
    else if p.board.entries.length < 32 then
      let q := p.createEntry source u b 0
      (q.1, .applied q.2)
    else
      match entryToDisplace p.board.entries with
      | none => p.dropFull source u
      | some d =>
        let q := (p.removeEntry d).createEntry source u b d.train.id
        (q.1, .applied q.2)

/-- An update that brings nothing new (R36): one from a peer withdraws the entry's frame (R43), one of the unit
processor does not (DEDUCED, log 36), and both restart the refresh deadline. -/
def Part.repeatUpdate (p : Part) (source : Option Nat) (u : Update) : Part × UpdateEnd :=
  let q := match source with | none => p | some _ => p.withdrawTrain u.train
  (q.restartRefresh u.train, .refused .stale)

/-- An update older than the entry (R37): a frame raises the stale count and may bring a correction. -/
def Part.olderUpdate (p : Part) (source : Option Nat) (e : Entry) : Part × UpdateEnd :=
  match source with
  | none => (p, .refused .stale)
  | some _ =>
    let q := { p with board := { p.board with staleCount := bump p.board.staleCount } }
    if e.state ≠ .gone ∧ e.frame = none then ((q.queueTrain e .correction .normal).1, .refused .stale)
    else (q, .refused .stale)

/-- The departure list takes an update from the unit processor (source none) or from a peer (R33). -/
def Part.takeUpdate (p : Part) (source : Option Nat) (u : Update) : Part × UpdateEnd :=
  match p.board.find u.train with
  | none => p.newUpdate source u
  | some e =>
    if e.serial < u.serial then
      let q := p.applyUpdate source u e
      (q.1, .applied q.2)
    else if e.serial = u.serial then p.repeatUpdate source u
    else p.olderUpdate source e

/-! ### Refresh (R42) and purge (R44) -/

/-- An entry's refresh deadline is reached (R42). -/
def Part.refreshEntry (p : Part) (e : Entry) : Part :=
  let q := p.modifyEntry e.train (fun e => { e with refreshDeadline := some (p.lineTime + p.refreshMs) })
  if e.frame = none then (q.queueTrain e .announce .bulk).1 else q

/-- An entry that the rollover purge removes (R44). -/
def Entry.purged (e : Entry) (new : Nat) : Bool := !e.sellable && decide (e.train.day < new)

/-- The departure list at a rollover event (R44). -/
def Part.purgeBoard (p : Part) (new : Nat) : Part :=
  let out := p.board.entries.filter (fun e => e.purged new)
  let q := p.withdraw (out.flatMap (fun e => p.line.trainFrames e.train))
  let q := { q with board := { q.board with entries := q.board.entries.filter (fun e => !e.purged new) } }
  q.boardChangedIf (!out.isEmpty)

/-! ### The timetable load (R28) -/

/-- The record's fields are within their ranges (R28). -/
def TrainRecord.inRange (r : TrainRecord) : Bool :=
  decide (r.train.id ≠ 0) && decide (r.destination ≤ 47) && decide (r.scheduled ≤ 1799) && decide (1 ≤ r.platform)
    && decide (r.platform ≤ 4) && decide (r.calling.length ≤ 8) && r.calling.all (fun c => decide (c ≤ 47))
    && decide (r.quotaTotal ≤ 99)

/-- The entry of a loaded train (R28), its link apart. -/
def TrainRecord.entry (r : TrainRecord) : Entry :=
  { train := r.train, destination := r.destination, scheduled := r.scheduled, estimate := .onTime, expected := none,
    platform := r.platform, platformChanged := false, calling := r.calling, serial := 0, clamped := false,
    quotaTotal := r.quotaTotal, linked := false, refreshDeadline := none, frame := none, state := .listed }

/-- A train record taken (R28): the entry created, linked and evaluated. -/
def Part.loadEntry (p : Part) (r : TrainRecord) : Part := ((p.addEntry r.entry).evaluateNow r.train true).boardChanged

end Sys2Proof.Machine
end

