-- ==== Sys2Proof/Machine/Clock.lean ====
section
/-! DEFINITION. The halt clock: minute and rollover events, following a peer, correction, SET TIME (R2 to R17). -/

namespace Sys2Proof.Machine

/-- The clock changed. -/
def Part.withClock (p : Part) (f : HaltClock → HaltClock) : Part := { p with clock := f p.clock }

/-! ### Minute and rollover events (R3, R4, R5) -/

/-- Three receivers take one event, in the order that `n` names. -/
def threeInOrder (n : Nat) (f g h : Part → Part) (p : Part) : Part :=
  match n % 6 with
  | 0 => h (g (f p))
  | 1 => g (h (f p))
  | 2 => h (f (g p))
  | 3 => f (h (g p))
  | 4 => g (f (h p))
  | _ => f (g (h p))

/-- One draw for a free order of receivers (log 11). -/
def Part.drawOrder (p : Part) : Part := { p with draws := p.draws + 1 }

/-- A rollover event at its three receivers: sales unit, departure list, quota unit (R44, R108, R131). -/
def Part.handRollover (p : Part) (order old new : Nat) : Part :=
  threeInOrder order (fun q => q.closeDay old) (fun q => q.purgeBoard new) (fun q => q.purgeLedger new) p

/-- The sales day rises, with one rollover event (R3, R5). -/
def Part.rollover (p : Part) (old new : Nat) : Part :=
  ((p.withClock (fun c => { c with salesDay := some new })).drawOrder).handRollover
    (Config.receiverOrder p.draws) old new

/-- The computed sales day of the present reading (R3). -/
def HaltClock.computedDay (c : HaltClock) : Nat := computedSalesDay c.rolloverMinute c.reading

/-- The comparison of the sales day with the computed one (R3), made in RUNNING and DOZING with the clock set. -/
def Part.salesDayCheck (p : Part) : Part :=
  if p.awake && p.clock.isSet then
    match p.clock.salesDay with
    | none => p
    | some old => if old < p.clock.computedDay then p.rollover old p.clock.computedDay else p
  else p

/-- Doze and keys at a minute event: a dozing part wakes when a departure is near (R202). -/
def Part.dozeMinute (p : Part) : Part :=
  if p.doze.state = .dozing then
    match p.departureNear with
    | none => p
    | some e => p.wake (.departure e.train e.absSort)
  else p

/-- A minute event at its three receivers: departure list, page builder, doze and keys (R4). -/
def Part.handMinute (p : Part) (order minute : Nat) : Part :=
  threeInOrder order (fun q => q.boardMinute minute) Part.boardChanged Part.dozeMinute p

/-- A minute event of the clock's present minute (R4). -/
def Part.minuteEvent (p : Part) : Part :=
  let m := p.clock.reading.absMinute
  ((p.withClock (fun c => { c with lastEventMinute := some m })).drawOrder).handMinute
    (Config.receiverOrder p.draws) m

/-- A minute event is due (R4): RUNNING or DOZING, the clock set, and the reading's minute not the last event's. -/
def Part.minuteDue (p : Part) : Bool :=
  p.awake && p.clock.isSet && decide (p.clock.lastEventMinute ≠ some p.clock.reading.absMinute)

/-- The minute event check of R4. -/
def Part.minuteCheck (p : Part) : Part := if p.minuteDue then p.minuteEvent else p

/-- What follows each change of the clock reading: the rollover event first, the minute event second (R5). -/
def Part.clockCheck (p : Part) : Part := p.salesDayCheck.minuteCheck

/-! ### Slewing (R13) -/

/-- A slew period has ended. -/
def Part.slewDue (p : Part) : Bool :=
  decide (p.clock.pending ≠ 0) && decide (p.clock.periodStart + 10 ≤ p.lineTime)

/-- The clock after one period of a slew: 11 ms or 9 ms gained, the pending correction one nearer 0. -/
def HaltClock.slewed (c : HaltClock) : HaltClock :=
  { c with
    reading := c.reading.advance (if 0 < c.pending then 11 else 9)
    pending := if 0 < c.pending then c.pending - 1 else c.pending + 1
    periodStart := c.periodStart + 10 }

/-- The end of a slew period. -/
def Part.slewPeriod (p : Part) : Part := (p.withClock HaltClock.slewed).clockCheck

/-! ### Losing the source (R9) and the lapse of reference time (R17) -/

/-- The clock after it lost its source: a slew goes on (R9). -/
def HaltClock.lost (c : HaltClock) : HaltClock :=
  { c with source := none, stratum := 8, sourceDeadline := none, disagree := false }

/-- The clock loses its source. -/
def Part.loseSource (p : Part) : Part := p.withClock HaltClock.lost

/-- The peer table reports that a node is no longer heard (R140). -/
def Part.clockPeerLost (p : Part) (node : Nat) : Part :=
  if p.clock.source = some node then p.loseSource else p

/-- The reference deadline is reached. -/
def Part.referenceLapse (p : Part) : Part :=
  p.withClock (fun c => { c with stratum := 8, referenceDeadline := none })

/-! ### Correction (R8, R10, R11, R12) -/

/-- A value kept within the range of a signed notice value (R164). -/
def clampOffset (n : Int) : Int := max (-2147483648) (min n 2147483647)

/-- A CLOCK notice (R11, R12, R14). -/
def clockNotice (cause : NoticeCause) (source : Nat) (offset : Int) (stratum : Nat) : Notice :=
  mkNotice .clock cause (some source) .none (clampOffset offset) stratum

/-- The source reading of a beacon, in ms (R10). -/
def BeaconPayload.sourceMs (b : BeaconPayload) : Nat := Reading.toMs ⟨b.day, b.ms⟩ + 2

/-- The offset of a beacon at a clock (R10). -/
def HaltClock.offset (c : HaltClock) (b : BeaconPayload) : Int := (b.sourceMs : Int) - (c.reading.toMs : Int)

/-- The bands of R11. -/
inductive Band11 where
  | agreed
  | slew
  | step
  | disagree
  deriving DecidableEq, Repr

/-- The band an offset falls in (R11). -/
def bandOf (offset : Int) : Band11 :=
  if 1000 < offset then .step
  else if offset < -60000 then .disagree
  else if 2 < offset ∨ offset < -2 then .slew
  else .agreed

/-- The clock corrected by an offset against a source reading in ms (R11). -/
def Part.correctBy (p : Part) (sender source : Nat) (offset : Int) : Part :=
  match bandOf offset with
  | .agreed => p.withClock (fun c => { c with pending := 0, disagree := false })
  | .slew => p.withClock (fun c => { c with pending := offset, periodStart := p.lineTime, disagree := false })
  | .step =>
    ((p.withClock (fun c => { c with reading := Reading.ofMs source, pending := 0, disagree := false })).post
      (clockNotice .step sender offset p.clock.stratum)).clockCheck
  | .disagree =>
    let q := p.withClock (fun c => { c with pending := 0, disagree := true })
    if p.clock.disagree then q else q.post (clockNotice .disagree sender offset p.clock.stratum)

/-- The clock corrected against its source (R10, R11). -/
def Part.correct (p : Part) (sender : Nat) (b : BeaconPayload) : Part :=
  p.correctBy sender b.sourceMs (p.clock.offset b)

/-- The stratum of a follower of stratum s (R8). -/
def followStratum (s : Nat) : Nat := min (s + 1) 7

/-- The clock after R8's first two actions. -/
def HaltClock.followed (c : HaltClock) (b : BeaconPayload) (lineTime : Nat) : HaltClock :=
  { c with stratum := followStratum b.stratum, sourceDeadline := some (lineTime + 60000) }

/-- A beacon from the followed source (R8). -/
def Part.sourceBeacon (p : Part) (sender : Nat) (b : BeaconPayload) : Part :=
  (p.withClock (fun c => c.followed b p.lineTime)).correct sender b

/-! ### Following a peer (R7, R14) -/

/-- An unset clock is set by a beacon of its new source (R14). -/
def Part.setFromBeacon (p : Part) (sender : Nat) (b : BeaconPayload) : Part :=
  let offset := p.clock.offset b
  let q := p.withClock (fun c =>
    let c := { c.followed b p.lineTime with reading := Reading.ofMs b.sourceMs, pending := 0 }
    { c with salesDay := some c.computedDay })
  q.minuteCheck.post (clockNotice .set sender offset q.clock.stratum)

/-- The sender becomes the source (R7). -/
def Part.follow (p : Part) (sender : Nat) (b : BeaconPayload) : Part :=
  let q := p.withClock (fun c => { c with source := some sender, disagree := false })
  if p.clock.isSet then q.sourceBeacon sender b else q.setFromBeacon sender b

/-- The number an equally near sender is compared with: the source's, or the part's own (R7). -/
def Part.sourceNumber (p : Part) : Nat := p.clock.source.getD p.ownNode

/-- The sender's peer record is PRESENT (R7). -/
def Part.peerPresent (p : Part) (node : Nat) : Bool :=
  match p.peers.find node with
  | none => false
  | some r => r.state = .present

/-- A beacon is eligible (R7). -/
def Part.eligible (p : Part) (sender : Nat) (b : BeaconPayload) : Bool :=
  p.peerPresent sender && decide (b.stratum ≤ 7)

/-- A sender that is not the source becomes it (R7): strictly nearer, or equally near with a lower number. -/
def Part.prefers (p : Part) (sender : Nat) (b : BeaconPayload) : Bool :=
  decide (b.stratum + 1 < p.clock.stratum)
    || (decide (b.stratum + 1 = p.clock.stratum) && decide (sender < p.sourceNumber))

/-- The halt clock takes a beacon (R7, R9). -/
def Part.hearClock (p : Part) (sender : Nat) (b : BeaconPayload) : Part :=
  if p.clock.source = some sender then
    if p.eligible sender b then p.sourceBeacon sender b else p.loseSource
  else if p.eligible sender b && p.prefers sender b then p.follow sender b
  else p

/-! ### SET TIME (R15, R16) -/

/-- The first check of R15 that fails. -/
def Part.setTimeRefusal (p : Part) (r : SetTimeRequest) : Option ResultCode :=
  if 86399999 < r.ms then some .badRequest
  else if r.reference && !p.roles.uplink then some .notRole
  else
    match p.clock.salesDay with
    | none => none
    | some held => if computedSalesDay p.clock.rolloverMinute ⟨r.day, r.ms⟩ < held then some .backwardDay else none

/-- The clock after an accepted SET TIME (R16). -/
def HaltClock.setTo (c : HaltClock) (r : SetTimeRequest) (lineTime : Nat) : HaltClock :=
  { c with
    reading := ⟨r.day, r.ms⟩
    pending := 0
    disagree := false
    source := none
    sourceDeadline := none
    stratum := if r.reference then 0 else 8
    referenceDeadline := if r.reference then some (lineTime + 900000) else none
    salesDay := if c.isSet then c.salesDay else some (computedSalesDay c.rolloverMinute ⟨r.day, r.ms⟩) }

/-- An accepted SET TIME, with the checks that follow it (R16). -/
def Part.acceptTime (p : Part) (r : SetTimeRequest) : Part :=
  (p.withClock (fun c => c.setTo r p.lineTime)).clockCheck

/-- SET TIME at the halt clock. -/
def Part.answerSetTime (p : Part) (r : SetTimeRequest) : Part × Answer :=
  match p.setTimeRefusal r with
  | some code => p.refuse code
  | none =>
    let q := p.acceptTime r
    (q, ⟨.done, .time q.clock.stratum q.clock.salesDay⟩)

end Sys2Proof.Machine
end

