-- ==== Sys2Proof/Machine/Peers.lean ====
section
/-! DEFINITION. The peer table: the receive path, peer states, what beacons bring, beacons sent (R135 to R145). -/

namespace Sys2Proof.Machine

/-- The peer table changed. -/
def Part.withPeers (p : Part) (f : PeerTable → PeerTable) : Part := { p with peers := f p.peers }

/-- A PEER notice (R139, R140). -/
def peerNotice (node : Nat) (new old : PeerState) : Notice :=
  mkNotice .peer .none (some node) .none new.code old.code

/-! ### The receive path (R136 to R139) -/

/-- A good frame that is counted and not interpreted (R136). -/
def Part.countUnheeded (p : Part) : Part := p.withPeers (fun t => { t with unheeded := bump t.unheeded })

/-- DUPLICATE_NODE may be posted again (R137). -/
def Part.duplicateNodeDue (p : Part) : Bool :=
  match p.peers.duplicateNodeTime with
  | none => true
  | some t => decide (t + 60000 ≤ p.lineTime)

/-- A frame under the part's own number that is no echo (R137). -/
def Part.hearOwnNumber (p : Part) (kind : FrameKind) : Part :=
  let q := p.withPeers (fun t => { t with duplicateNode := bump t.duplicateNode })
  if p.duplicateNodeDue then
    (q.withPeers (fun t => { t with duplicateNodeTime := some p.lineTime })).post
      (mkNotice .duplicateNode .none none .none kind.code q.peers.duplicateNode)
  else q

/-- A frame repeats the last accepted one of its sender within 1,000 ms (R138). -/
def PeerRecord.repeats (r : PeerRecord) (seq now : Nat) : Bool :=
  match r.lastSeq, r.lastHeard with
  | some last, some heard => decide (last = seq) && decide (now - heard ≤ 1000)
  | _, _ => false

/-- The duplicate filter drops a frame (R138). -/
def Part.isDuplicate (p : Part) (sender seq : Nat) : Bool :=
  match p.peers.find sender with
  | none => false
  | some r => r.repeats seq p.lineTime

/-- A frame dropped as a duplicate (R138). -/
def Part.countDuplicate (p : Part) : Part :=
  { p with line := { p.line with counts := { p.line.counts with duplicate := bump p.line.counts.duplicate } } }

/-- The record of a sender after a frame of it was accepted (R139). -/
def PeerRecord.heardAt (r : PeerRecord) (seq now beaconMs : Nat) : PeerRecord :=
  { r with
    state := .present
    lastHeard := some now
    lastSeq := some seq
    silentDeadline := some (now + 3 * beaconMs)
    goneDeadline := some (now + 10 * beaconMs) }

/-- A frame accepted (R139): its sender's record, and PEER if the sender was not PRESENT. -/
def Part.acceptFrame (p : Part) (sender seq : Nat) : Part :=
  match p.peers.find sender with
  | none => p
  | some r =>
    let q := p.withPeers (fun t => t.modify sender (fun r => r.heardAt seq p.lineTime p.beaconMs))
    if r.state = .present then q else q.post (peerNotice sender .present r.state)

/-! ### Beacons heard (R141 to R143) -/

/-- What a beacon advertises (R141). -/
def BeaconPayload.advert (b : BeaconPayload) : Advert :=
  { roles := b.roles, sellerIndex := b.sellerIndex, stratum := b.stratum, timetable := b.timetable, fare := b.fare,
    freeSlots := b.freeSlots }

/-- An EDITION notice (R142). -/
def editionNotice (cause : NoticeCause) (source advertised own : Nat) : Notice :=
  mkNotice .edition cause (some source) .none advertised own

/-- The timetable edition of a beacon (R142). -/
def Part.checkTimetable (p : Part) (sender edition : Nat) : Part :=
  if p.board.edition < edition ∧ p.peers.noticedTimetable < edition then
    (p.withPeers (fun t => { t with noticedTimetable := edition })).post
      (editionNotice .timetable sender edition p.board.edition)
  else p

/-- The fare edition of a beacon (R142). -/
def Part.checkFareEdition (p : Part) (sender edition : Nat) : Part :=
  if p.fares.edition < edition ∧ p.peers.noticedFare < edition then
    (p.withPeers (fun t => { t with noticedFare := edition })).post (editionNotice .fare sender edition p.fares.edition)
  else p

/-- A beacon of another seller carries the part's own seller index (R143). -/
def StartRecord.clashes (r : StartRecord) (b : BeaconPayload) : Bool :=
  r.roles.sells && b.roles.sells && decide (b.sellerIndex = r.sellerIndex)

/-- The sender's clash mark is set. -/
def PeerTable.marked (t : PeerTable) (node : Nat) : Bool :=
  match t.find node with
  | none => false
  | some r => r.clash

/-- The check for a seller index clash (R143). -/
def Part.checkClash (p : Part) (sender : Nat) (b : BeaconPayload) : Part :=
  match p.port.record with
  | none => p
  | some r =>
    if r.clashes b && !p.peers.marked sender then
      (p.withPeers (fun t => t.modify sender (fun r => { r with clash := true }))).post
        (mkNotice .sellerClash .none (some sender) .none b.sellerIndex r.sellerCount)
    else p

/-- An accepted BEACON (R141): recorded, checked, and handed to the halt clock. -/
def Part.hearBeacon (p : Part) (sender : Nat) (b : BeaconPayload) : Part :=
  let q := p.withPeers (fun t => t.modify sender (fun r => { r with advert := some b.advert }))
  let q := (q.checkTimetable sender b.timetable).checkFareEdition sender b.fare
  (q.checkClash sender b).hearClock sender b

/-- An accepted frame at its owner (R139). -/
def Part.deliver (p : Part) (f : LineFrame) : Part :=
  match f.payload with
  | .beacon b => p.hearBeacon f.sender b
  | .train u => (p.takeUpdate (some f.sender) u).1
  | .ask a => p.hearAsk f.sender f.seq a
  | .grant g => p.hearGrant f.sender g
  | .taken t => p.hearTaken f.sender t

/-- The peer table takes a good frame that is no echo (R136). -/
def Part.receiveGood (p : Part) (f : LineFrame) : Part :=
  if !p.awake then p.countUnheeded
  else if f.sender = p.ownNode then p.hearOwnNumber f.payload.kind
  else if p.isDuplicate f.sender f.seq then p.countDuplicate
  else (p.acceptFrame f.sender f.seq).deliver f

/-! ### The receiver (R148, R149) -/

/-- A bad frame counted. -/
def Part.countBad (p : Part) : Part :=
  { p with line := { p.line with counts := { p.line.counts with bad := bump p.line.counts.bad } } }

/-- A malformed frame counted. -/
def Part.countMalformed (p : Part) : Part :=
  { p with line := { p.line with counts := { p.line.counts with malformed := bump p.line.counts.malformed } } }

/-- A complete frame whose check agrees is judged for form (R149). -/
def Part.receiveFrame (p : Part) (f : LineFrame) : Part := if f.ok then p.receiveGood f else p.countMalformed

/-- A busy spell that is not the part's own attempt, judged by its characters (R148). -/
def Part.receiveChars (p : Part) (chars : List LineChar) : Part :=
  match judgeSpell chars with
  | .bad => p.countBad
  | .malformed => p.countMalformed
  | .good f => p.receiveGood f

/-- A frame of a peer reaches the receiver, which works whenever the part is powered and not held in reset (R149). -/
def Part.hear {α : Type} (p : Part) (x : Heard α) (payload : α → Payload) : Part :=
  if p.up then
    match x with
    | .clean sender seq a => p.receiveFrame ⟨sender, seq, payload a⟩
    | .raw chars => p.receiveChars chars
  else p

/-! ### Silence (R140) -/

/-- A PRESENT record has reached its silent deadline. -/
def PeerRecord.silentDue (r : PeerRecord) (now : Nat) : Bool :=
  decide (r.state = .present) && reached now r.silentDeadline

/-- A SILENT record has reached its gone deadline. -/
def PeerRecord.goneDue (r : PeerRecord) (now : Nat) : Bool :=
  decide (r.state = .silent) && reached now r.goneDeadline

/-- A PRESENT peer becomes SILENT. -/
def Part.peerSilent (p : Part) (node : Nat) : Part :=
  ((p.withPeers (fun t => t.modify node (fun r => { r with state := .silent, silentDeadline := none }))).post
    (peerNotice node .silent .present)).clockPeerLost node

/-- A SILENT peer becomes GONE. -/
def Part.peerGone (p : Part) (node : Nat) : Part :=
  let q := p.withPeers (fun t =>
    let t := t.modify node (fun r => { r with state := .gone, goneDeadline := none })
    { t with peerGone := bump t.peerGone })
  ((q.post (peerNotice node .gone .silent)).clockPeerLost node).quotaPeerGone node

/-! ### Beacons sent (R144) -/

/-- A beacon skipped for want of a slot. -/
def Part.skipBeacon (p : Part) : Part := p.withPeers (fun t => { t with skipped := bump t.skipped })

/-- A beacon offered, unless one of this part is still in the store. -/
def Part.offerBeacon (p : Part) : Part :=
  if p.line.beaconInStore then p
  else if p.line.hasRoom .normal then p.offer .normal .beacon
  else (p.offer .normal .beacon).skipBeacon

/-- The beacon deadline restarted, then a beacon offered. -/
def Part.beaconDue (p : Part) : Part :=
  (p.withPeers (fun t => { t with beaconDeadline := some (p.lineTime + p.beaconMs) })).offerBeacon

end Sys2Proof.Machine
end

