-- ==== Sys2Proof/Machine/Starting.lean ====
section
/-! DEFINITION. Resets, self-test, warm and cold starts, and the acceptance of a start record (R1, R18, R186, R187,
R193 to R198). -/

namespace Sys2Proof.Machine

/-! ### Resets (R194) -/

/-- The clock at a reset: what the retained store keeps, and R18's values for the rest. -/
def HaltClock.restarted (c : HaltClock) : HaltClock :=
  { HaltClock.cold with
    reading := c.reading
    salesDay := c.salesDay
    rolloverMinute := c.rolloverMinute
    stratum := if c.salesDay.isSome then 8 else 15 }

/-- The sales unit at a reset (R85). -/
def SalesUnit.restarted (s : SalesUnit) : SalesUnit :=
  { SalesUnit.cold with
    journal := s.journal
    nextNumber := s.nextNumber
    totals := s.totals
    nextSerial := s.nextSerial }

/-- The quota unit at a reset (R134), its repair apart. -/
def QuotaUnit.restarted (q : QuotaUnit) : QuotaUnit := { QuotaUnit.cold with ledger := q.ledger, blind := q.blind }

/-- A reset of a kind (R194): the part enters SELF_TEST and every block takes its reset values; the retained store,
the supplies, the levels of the inputs and the draw counter stand. DESIGN CHOICE, log 40: until self-test ends its result
and the mark of a warm or cold start are absent. -/
def Part.resetWith (p : Part) (kind : ResetKind) : Part :=
  { lineTime := 0
    supply := p.supply
    retained := p.retained
    start := { kind, result := none, store := none }
    clock := p.clock.restarted
    board := DepartureList.reset
    page := PageBuilder.reset
    fares := FareCalculator.reset
    sales := p.sales.restarted
    quota := p.quota.restarted
    peers := PeerTable.reset
    line := LineInterface.reset
    notices := NoticeQueue.reset
    port := UnitPort.reset
    doze := DozeKeys.reset p.doze.keyA.inputLow p.doze.keyB.inputLow
    draws := p.draws }

/-- The main supply comes up (R194). It resets the part also where it was up already (log 8). -/
def Part.powerOn (p : Part) : Part :=
  { p with supply := { p.supply with mainOn := true } }.resetWith .powerOn

/-- The reset pin is asserted (R194); with the main supply off only its level is taken (log 7). -/
def Part.assertReset (p : Part) : Part :=
  let q := { p with supply := { p.supply with resetHeld := true } }
  if p.supply.mainOn then q.resetWith .resetPin else q

/-- The reset pin is released (R194): line time starts at 0. -/
def Part.releaseReset (p : Part) : Part :=
  if p.supply.resetHeld then { p with supply := { p.supply with resetHeld := false }, lineTime := 0 } else p

/-- The retained store and the loss mark under these supplies: lost while neither holds them (R193). -/
def RetainedMarks.under (m : RetainedMarks) (s : Supply) : RetainedMarks :=
  if !s.mainOn && s.backupLow then .lost else m

/-- The supplies change, and the retained store with them (R193). -/
def Part.withSupply (p : Part) (s : Supply) : Part := { p with supply := s, retained := p.retained.under s }

/-- The main supply goes off (R193): nothing but the retained store and the clock runs (log 7), and they only if the
backup supply holds them. -/
def Part.loseMain (p : Part) : Part := p.withSupply { p.supply with mainOn := false }

/-- The backup supply falls too low (R193): no harm while the main supply is on, else the retained store is lost. -/
def Part.loseBackup (p : Part) : Part := p.withSupply { p.supply with backupLow := true }

/-- Line time has reached its end (R1). -/
def Part.lineTimeEnded (p : Part) : Bool := p.up && decide (4294967295 ≤ p.lineTime)

/-! ### Self-test (R193 to R197) -/

/-- The retained store is judged good (R193). -/
def RetainedMarks.good (r : RetainedMarks) : Bool := !r.lossMark && r.checkAgrees

/-- A warm start (R196): the retained store is kept and the ledger repaired. -/
def Part.warmStart (p : Part) : Part := { p with quota := p.quota.repair }

/-- A cold start (R195): the retained store is cleared. -/
def Part.coldStart (p : Part) : Part :=
  { p with
    clock := HaltClock.cold
    sales := { p.sales with journal := [], nextNumber := some 1, totals := DayTotals.zero, nextSerial := 1 }
    quota := { p.quota with ledger := [], blind := true } }

/-- The result of a self-test (R194). -/
def selfTestResult (good memoryPasses : Bool) : SelfTestResult :=
  if memoryPasses then (if good then .pass else .retainedLost) else .memoryFault

/-- What the start leaves of the retained store (R194). -/
def storeState (good : Bool) : StoreState := if good then .kept else .cleared

/-- The START notice (R175, R207). -/
def startNotice (kind : ResetKind) (result : SelfTestResult) (store : StoreState) : Notice :=
  mkNotice .start .none none .none kind.code (result.code + 256 * store.code)

/-- Self-test ends (R194): the start is made warm or cold, the loss mark is cleared with a check that agrees, START
is stored, and the part enters WAITING_START or FAULT. -/
def Part.endSelfTest (p : Part) (memoryPasses : Bool) : Part :=
  let good := p.retained.good
  let q := if good then p.warmStart else p.coldStart
  let result := selfTestResult good memoryPasses
  let store := storeState good
  let q := { q with
    retained := { lossMark := false, checkAgrees := true }
    start := { q.start with result := some result, store := some store } }
  let q := q.note (startNotice q.start.kind result store)
  { q with doze := { q.doze with state := if memoryPasses then .waitingStart else .fault } }

/-- The part is in self-test. -/
def Part.selfTesting (p : Part) : Bool := p.up && decide (p.doze.state = .selfTest)

/-! ### Clamping (R186) -/

/-- A number within its range: the nearer end outside it. -/
def clampTo (low high n : Nat) : Nat := max low (min n high)

/-- The permitted rounding step for a step as sent. -/
def clampStep (n : Nat) : Nat :=
  if n < 5 then 1 else if n < 10 then 5 else if n < 20 then 10 else if n < 50 then 20 else if n < 100 then 50 else 100

/-- The rounding mode of a mode code; a code that names none becomes HALF_UP. -/
def modeOf : Nat → RoundingMode
  | 1 => .down
  | 2 => .up
  | _ => .halfUp

/-- The clamped record, with defaults for the fields marked absent. -/
def StartRequest.clamped (r : StartRequest) : StartRecord :=
  { node := clampTo 1 15 r.node
    roles := r.roles
    sellerCount := clampTo 1 15 r.sellerCount
    sellerIndex := clampTo 0 14 r.sellerIndex
    beaconPeriod := match r.beaconPeriod with | none => 2 | some n => clampTo 1 8 n
    refreshPeriod := match r.refreshPeriod with | none => 60 | some n => clampTo 30 240 n
    rolloverMinute := match r.rolloverMinute with | none => 150 | some n => clampTo 0 1439 n
    holdOff := clampTo 0 255 r.holdOff
    roundingStep := clampStep r.roundingStep
    roundingMode := modeOf r.roundingMode
    minimumFare := clampTo 0 99999 r.minimumFare
    masks := r.masks
    rows := clampTo 1 8 r.rows
    platformFilter := clampTo 0 4 r.platformFilter
    pageInterval := clampTo 5 30 r.pageInterval
    horizon := clampTo 10 720 r.horizon
    wakeLead := clampTo 5 60 r.wakeLead
    keyA := r.keyA
    keyB := r.keyB }

/-- A field that may be marked absent was changed: an absent one was not. -/
def optionChanged (sent : Option Nat) (kept : Nat) : Bool :=
  match sent with
  | none => false
  | some n => decide (kept ≠ n)

/-- The fields that clamping changed, in the order of R185's table. -/
def StartRequest.clampSet (r : StartRequest) : List StartField :=
  let c := r.clamped
  ([(StartField.node, decide (c.node ≠ r.node)),
    (.sellerCount, decide (c.sellerCount ≠ r.sellerCount)),
    (.sellerIndex, decide (c.sellerIndex ≠ r.sellerIndex)),
    (.beaconPeriod, optionChanged r.beaconPeriod c.beaconPeriod),
    (.refreshPeriod, optionChanged r.refreshPeriod c.refreshPeriod),
    (.rolloverMinute, optionChanged r.rolloverMinute c.rolloverMinute),
    (.holdOff, decide (c.holdOff ≠ r.holdOff)),
    (.roundingStep, decide (c.roundingStep ≠ r.roundingStep)),
    (.roundingMode, decide (c.roundingMode.code ≠ r.roundingMode)),
    (.minimumFare, decide (c.minimumFare ≠ r.minimumFare)),
    (.rows, decide (c.rows ≠ r.rows)),
    (.platformFilter, decide (c.platformFilter ≠ r.platformFilter)),
    (.pageInterval, decide (c.pageInterval ≠ r.pageInterval)),
    (.horizon, decide (c.horizon ≠ r.horizon)),
    (.wakeLead, decide (c.wakeLead ≠ r.wakeLead))].filter Prod.snd).map Prod.fst

/-- A roles field names a role. -/
def Roles.named (r : Roles) : Bool := r.sells || r.shows || r.uplink

/-- The field at fault of a START, by the first check of R186 that fails. -/
def StartRequest.fault (r : StartRequest) : Option StartField :=
  if r.node = 0 then some .node
  else if !r.roles.named then some .roles
  else if r.clamped.sellerCount ≤ r.clamped.sellerIndex then some .sellerIndex
  else none

/-! ### Acceptance (R187, R198) -/

/-- The record in force in every block, before any block acts (R187). -/
def Part.adopt (p : Part) (r : StartRequest) : Part :=
  { p with
    port := { p.port with record := some r.clamped, clampSet := r.clampSet }
    doze := { p.doze with state := .running }
    clock := { p.clock with rolloverMinute := r.clamped.rolloverMinute } }

/-- The clock at the acceptance (R4, R18): the comparison of R3, then one minute event whatever the last one. -/
def Part.acceptClock (p : Part) : Part := if p.clock.isSet then p.salesDayCheck.minuteEvent else p

/-- A KEY notice (R198, R204). -/
def keyNotice (k : Key) (value presses : Nat) : Notice :=
  mkNotice .key (match k with | .a => .keyA | .b => .keyB) none .none value presses

/-- KEY HELD for an enabled key whose settled level is LOW (R198). -/
def Part.reportHeld (p : Part) (k : Key) : Part :=
  if p.keyEnabled k && (p.doze.key k).settledLow then p.post (keyNotice k 2 (p.doze.key k).presses) else p

/-- The acceptance of a start record at every block (R187): the START journal record before any rollover event, the
page builder's start, the clock, the first beacon, KEY A's notice before KEY B's. -/
def Part.acceptStart (p : Part) (r : StartRequest) : Part :=
  let q := p.adopt r
  let q := q.writeAlways (.start q.start.kind (q.start.store.getD .cleared))
  let q := q.startPages.acceptClock.beaconDue
  (q.reportHeld .a).reportHeld .b

/-- START at the unit port (R186, R187). -/
def Part.answerStart (p : Part) (r : StartRequest) : Part × Answer :=
  match r.fault with
  | some f => (p, ⟨.badRequest, .startField f⟩)
  | none => (p.acceptStart r, ⟨.done, .startDone r.clampSet r.clamped⟩)

end Sys2Proof.Machine
end

