-- ==== Sys2Proof/Machine/Status.lean ====
section
/-! DEFINITION. READ STATUS: the report of each section (R19, R46, R59, R84, R109, R133, R146, R163, R176, R190, R191,
R199). -/

namespace Sys2Proof.Machine

/-- Up to 8 records, from a first index (R190). -/
def eightFrom {α : Type} (first : Nat) (l : List α) : List α := (l.drop first).take 8

/-- R191. -/
def Part.portReport (p : Part) : PortReport :=
  { state := p.doze.state, record := p.port.record, clampSet := p.port.clampSet, start := p.start,
    taken := p.port.taken, badFrame := p.port.badFrame, portBusy := p.port.portBusy }

/-- The reference time left in whole minutes, rounded up (R17). -/
def Part.referenceMinutes (p : Part) : Nat :=
  match p.clock.referenceDeadline with
  | none => 0
  | some d => (d - p.lineTime + 59999) / 60000

/-- R19. -/
def Part.clockReport (p : Part) : ClockReport :=
  { lineTime := p.lineTime, reading := p.clock.reading, set := p.clock.isSet, stratum := p.clock.stratum,
    source := p.clock.source, pending := p.clock.pending, referenceMinutes := p.referenceMinutes,
    salesDay := p.clock.salesDay, disagree := p.clock.disagree, rolloverMinute := p.clock.rolloverMinute }

/-- The number of entries in a state. -/
def DepartureList.countIn (b : DepartureList) (s : EntryState) : Nat :=
  (b.entries.filter (fun e => e.state = s)).length

/-- R46. -/
def Part.boardReport (p : Part) : BoardReport :=
  { full := p.board.fullCount, unknown := p.board.unknownCount, stale := p.board.staleCount, edition := p.board.edition,
    entries := p.board.entries.length, listed := p.board.countIn .listed, due := p.board.countIn .due,
    gone := p.board.countIn .gone, cancelled := p.board.countIn .cancelled, load := p.board.load }

/-- The page builder's settings, in a part with the SHOWS role. -/
def Part.pageSettings (p : Part) : Option PageSettings :=
  match p.port.record with
  | none => none
  | some r => if r.roles.shows then some ⟨r.rows, r.platformFilter, r.pageInterval, r.horizon⟩ else none

/-- R59. -/
def Part.pageReport (p : Part) : PageReport :=
  { running := p.pageRunning, index := p.page.index, count := p.page.held.count, shown := p.page.shown,
    intervalLeft := timeLeft p.lineTime p.page.deadline, settings := p.pageSettings }

/-- R84. -/
def Part.faresReport (p : Part) : FaresReport :=
  { edition := p.fares.edition, active := p.fares.active.map TableSet.counts,
    transfer := p.fares.transfer.map (fun t => (t.edition, t.staged.counts)),
    settings := p.port.record.map StartRecord.fareSettings, sticky := p.fares.sticky }

/-- The issue in flight as R109 reports it. -/
def IssueRecord.report (i : IssueRecord) (now : Nat) : IssueReport :=
  { needed := i.needed, reserved := i.reserved, asks := i.asks, deadlineLeft := i.deadline - now,
    payment := i.request.payment }

/-- The sales the journal can still take before JOURNAL_FULL (R109). -/
def SalesUnit.salesLeft (s : SalesUnit) : Nat :=
  match s.nextNumber with
  | none => 0
  | some n => min (252 - s.journal.length) (4294967296 - n)

/-- The line time left of a void window: up to the last millisecond at which a VOID is in time, and 0 from there on while
the window stands. DESIGN CHOICE, log 37. -/
def VoidWindow.left (w : VoidWindow) (now : Nat) : Nat := w.committed + 120000 - now

/-- R109. -/
def Part.salesReport (p : Part) : SalesReport :=
  { issue := p.sales.issue.map (fun i => i.report p.lineTime), unreleased := p.sales.journal.length,
    oldest := p.sales.journal.head?.map JournalRecord.number,
    newest := p.sales.journal.getLast?.map JournalRecord.number, next := p.sales.nextNumber,
    salesLeft := p.sales.salesLeft, totals := p.sales.totals, nextSerial := p.sales.nextSerial,
    voidTicket := p.sales.voidWindow.map VoidWindow.ticket,
    voidLeft := p.sales.voidWindow.map (fun w => w.left p.lineTime), overrun := p.sales.overrun }

/-- A ledger record as R133 reports it. -/
def LedgerRecord.report (r : LedgerRecord) : LedgerReport :=
  { train := r.train, quotaTotal := r.quotaTotal, share := r.share, received := r.received, held := r.held,
    reserved := r.reserved, lending := r.lending, awaiting := r.awaiting, lent := r.lent, doubtful := r.doubtful,
    sold := r.sold, lapsed := r.lapsed, grants := r.grants.length }

/-- Ascending order of service day, then train id (R190). -/
def LedgerRecord.before (a b : LedgerRecord) : Bool :=
  if a.train.day ≠ b.train.day then decide (a.train.day < b.train.day) else decide (a.train.id ≤ b.train.id)

/-- A record put into a list that stands in that order. -/
def insertLedger (r : LedgerRecord) : List LedgerRecord → List LedgerRecord
  | [] => [r]
  | x :: xs => if r.before x then r :: x :: xs else x :: insertLedger r xs

/-- The ledger in that order. -/
def ledgerOrder : List LedgerRecord → List LedgerRecord
  | [] => []
  | r :: rs => insertLedger r (ledgerOrder rs)

/-- R133. -/
def Part.quotaReport (p : Part) (first : Nat) : QuotaReport :=
  { records := p.quota.ledger.length, shown := (eightFrom first (ledgerOrder p.quota.ledger)).map LedgerRecord.report,
    watch := p.quota.watch.length, asks := p.quota.asks.length, blind := p.quota.blind,
    ignoredGrants := p.quota.ignoredGrants, unmatchedTaken := p.quota.unmatchedTaken,
    ledgerFull := p.quota.ledgerFull, forgoneGrants := p.quota.forgoneGrants }

/-- A peer record as R146 reports it. -/
def PeerRecord.report (r : PeerRecord) (now : Nat) : PeerReport :=
  { node := r.node, state := r.state, sinceHeard := r.lastHeard.map (now - ·), advert := r.advert, clash := r.clash }

/-- The records of the node numbers other than the part's own (R146, R190). -/
def Part.otherPeers (p : Part) : List PeerRecord := p.peers.records.filter (fun r => r.node ≠ p.ownNode)

/-- R146. -/
def Part.peersReport (p : Part) (first : Nat) : PeersReport :=
  { records := p.otherPeers.length, shown := (eightFrom first p.otherPeers).map (fun r => r.report p.lineTime),
    beaconLeft := timeLeft p.lineTime p.peers.beaconDeadline, beaconInStore := p.line.beaconInStore,
    noticedTimetable := p.peers.noticedTimetable, noticedFare := p.peers.noticedFare, skipped := p.peers.skipped,
    duplicateNode := p.peers.duplicateNode, unheeded := p.peers.unheeded, peerGone := p.peers.peerGone }

/-- The transmitter's state without its frame. -/
def Transmitter.state : Transmitter → TransmitterState
  | .idle => .idle
  | .counting _ => .counting
  | .paused _ => .paused
  | .sending _ => .sending
  | .breaking _ => .breaking

/-- The chosen frame as R163 reports it. -/
def Slot.report (s : Slot) : ChosenReport :=
  { kind := s.body.kind, cls := s.cls, seq := s.seq, attempts := s.attempts, wait := s.wait }

/-- R163. -/
def Part.lineReport (p : Part) : LineReport :=
  { busy := p.line.busy, sinceChange := p.lineTime - p.line.changedAt, transmitter := p.line.tx.state,
    chosen := (p.line.tx.chosen.bind p.line.find).map Slot.report, urgent := p.line.used .urgent,
    normal := p.line.used .normal, bulk := p.line.used .bulk, free := p.line.freeSlots, nextSeq := p.line.nextSeq,
    counts := p.line.counts }

/-- R176. -/
def Part.noticesReport (p : Part) : NoticesReport :=
  { waiting := p.notices.entries.length, wakeWaiting := p.notices.wakeWaiting, lostCount := p.notices.lostCount,
    firstLost := p.notices.firstLost, lostTotal := p.notices.lostTotal, holdOff := p.holdOff,
    attention := p.notices.attention, holdOffLeft := timeLeft p.lineTime p.notices.deadline }

/-- R199. -/
def Part.dozeReport (p : Part) : DozeReport :=
  { state := p.doze.state, wakeLead := p.port.record.map StartRecord.wakeLead,
    keyAEnabled := p.port.record.map StartRecord.keyA, keyBEnabled := p.port.record.map StartRecord.keyB,
    keyALow := p.doze.keyA.settledLow, keyAPresses := p.doze.keyA.presses, keyBLow := p.doze.keyB.settledLow,
    keyBPresses := p.doze.keyB.presses, sinceDoze := p.doze.dozeStart.map (p.lineTime - ·),
    dozeCount := p.doze.dozeCount, lastWake := p.doze.lastWake }

/-- The report of a section, numbered PORT 1 to DOZE 11 (R190; 12, The unit port envelope). -/
def Part.statusReport (p : Part) (sect first : Nat) : Option StatusReport :=
  match sect with
  | 1 => some (.port p.portReport)
  | 2 => some (.clock p.clockReport)
  | 3 => some (.board p.boardReport)
  | 4 => some (.page p.pageReport)
  | 5 => some (.fares p.faresReport)
  | 6 => some (.sales p.salesReport)
  | 7 => some (.quota (p.quotaReport first))
  | 8 => some (.peers (p.peersReport first))
  | 9 => some (.line p.lineReport)
  | 10 => some (.notices p.noticesReport)
  | 11 => some (.doze p.dozeReport)
  | _ => none

/-- READ STATUS at the unit port (R190). -/
def Part.answerReadStatus (p : Part) (r : StatusRequest) : Part × Answer :=
  match p.statusReport r.sect r.first with
  | none => p.refuse .badRequest
  | some report => (p, ⟨.done, .status report⟩)

end Sys2Proof.Machine
end

