-- ==== Sys2Proof/Machine/Requests.lean ====
section
/-! DEFINITION. What each request does at its owner, one definition a request; START, SET TIME and READ STATUS stand
with the acceptance, the clock and the reports. -/

namespace Sys2Proof.Machine

/-! ### The timetable load (R27 to R31) -/

/-- The records a load transfer has judged. -/
def LoadTransfer.judged (t : LoadTransfer) : Nat := t.taken + t.kept + t.refused

/-- The load transfer changed. -/
def Part.setLoad (p : Part) (t : Option LoadTransfer) : Part := { p with board := { p.board with load := t } }

/-- LOAD BEGIN (R27). -/
def Part.answerLoadBegin (p : Part) (r : LoadBeginRequest) : Part × Answer :=
  if r.count = 0 ∨ 32 < r.count then p.refuse .badRequest
  else if p.board.load.isSome then p.refuse .busy
  else
    (p.setLoad (some { edition := r.edition, declared := r.count, taken := 0, kept := 0, refused := 0 }), .bare .done)

/-- LOAD TRAIN (R28). -/
def Part.answerLoadTrain (p : Part) (r : TrainRecord) : Part × Answer :=
  match p.board.load with
  | none => p.refuse .noTransfer
  | some t =>
    if t.judged = t.declared then p.refuse .badRequest
    else if !r.inRange then (p.setLoad (some { t with refused := t.refused + 1 }), .bare .badRequest)
    else if (p.board.find r.train).isSome then
      (p.setLoad (some { t with kept := t.kept + 1 }), ⟨.done, .loadMark .kept⟩)
    else if 32 ≤ p.board.entries.length then
      (p.setLoad (some { t with refused := t.refused + 1 }), .bare .listFull)
    else ((p.setLoad (some { t with taken := t.taken + 1 })).loadEntry r, ⟨.done, .loadMark .taken⟩)

/-- LOAD END (R30). -/
def Part.answerLoadEnd (p : Part) : Part × Answer :=
  match p.board.load with
  | none => p.refuse .noTransfer
  | some t =>
    if t.judged < t.declared then (p, ⟨.shortLoad, .loadCounts t.taken t.kept t.refused⟩)
    else
      ({ p with board := { p.board with load := none, edition := t.edition } },
        ⟨.done, .loadEnd t.edition t.taken t.kept t.refused⟩)

/-- LOAD ABORT (R31). -/
def Part.answerLoadAbort (p : Part) : Part × Answer :=
  match p.board.load with
  | none => p.refuse .noTransfer
  | some t => (p.setLoad none, ⟨.done, .loadCounts t.taken t.kept t.refused⟩)

/-! ### TRAIN UPDATE (R32, R33, R40) -/

/-- The reply to an applied TRAIN UPDATE: the entry's state, CLAMPED, and whether the frame was queued (R40). -/
def Part.updateReply (p : Part) (t : TrainKey) (queued : Bool) : ReplyBody :=
  match p.board.find t with
  | none => .empty
  | some e => .update e.state e.clamped queued

/-- TRAIN UPDATE; an update that its bytes could not lay out is ill-formed (R32). -/
def Part.answerTrainUpdate (p : Part) (x : Option Update) : Part × Answer :=
  if !p.roles.uplink then p.refuse .notRole
  else
    match x with
    | none => p.refuse .badRequest
    | some u =>
      if !u.ok then p.refuse .badRequest
      else
        let r := p.takeUpdate none u
        match r.2 with
        | .refused code => (r.1, .bare code)
        | .applied queued => (r.1, ⟨.done, r.1.updateReply u.train queued⟩)

/-! ### The fare load (R65 to R68) and CLEAR FLAGS (R83) -/

/-- The fare transfer changed. -/
def Part.setTransfer (p : Part) (t : Option FareTransfer) : Part := { p with fares := { p.fares with transfer := t } }

/-- FARES BEGIN (R65). -/
def Part.answerFaresBegin (p : Part) (edition : Nat) : Part × Answer :=
  if p.fares.transfer.isSome then p.refuse .busy
  else if p.sales.issue.isSome then p.refuse .busy
  else (p.setTransfer (some { edition, staged := TableSet.empty }), .bare .done)

/-- FARES ITEM; an item that its bytes could not lay out has a field outside its range (R66). -/
def Part.answerFaresItem (p : Part) (x : Option FareItem) : Part × Answer :=
  match p.fares.transfer with
  | none => p.refuse .noTransfer
  | some t =>
    match x with
    | none => p.refuse .badRequest
    | some i =>
      if !i.inRange then p.refuse .badRequest
      else if t.staged.bandsFull i then p.refuse .tableFull
      else
        let staged := t.staged.put i
        (p.setTransfer (some { t with staged }),
          ⟨.done, .staged (if t.staged.holds i then .replaced else .added) staged.counts⟩)

/-- FARES END (R67). -/
def Part.answerFaresEnd (p : Part) : Part × Answer :=
  match p.fares.transfer with
  | none => p.refuse .noTransfer
  | some t =>
    ({ p with fares := { p.fares with active := some t.staged, edition := t.edition, transfer := none } },
      ⟨.done, .faresEnd t.edition t.staged.counts⟩)

/-- FARES ABORT (R68). -/
def Part.answerFaresAbort (p : Part) : Part × Answer :=
  match p.fares.transfer with
  | none => p.refuse .noTransfer
  | some t => (p.setTransfer none, ⟨.done, .stagedCounts t.staged.counts⟩)

/-- CLEAR FLAGS (R83). -/
def Part.answerClearFlags (p : Part) : Part × Answer :=
  ({ p with fares := { p.fares with sticky := FareFlags.none } }, ⟨.done, .flags p.fares.sticky⟩)

/-! ### Sales (R86 to R101) -/

/-- A computed fare needs places, and the request's train has no ledger link (R86, R88). -/
def Part.lacksLink (p : Part) (i : FareInputs) (r : FareResult) : Bool :=
  decide (0 < r.placesNeeded) && (match i.train with | none => true | some t => !p.trainLinked t)

/-- The places on hand of a quota product: held of the train's record (R86). -/
def Part.onHand (p : Part) (i : FareInputs) (r : FareResult) : Option Nat :=
  if 0 < r.placesNeeded then i.train.map p.quota.heldOf else none

/-- The state of the train a request names. -/
def Part.stateOf (p : Part) (i : FareInputs) : Option EntryState :=
  i.train.bind fun t => (p.board.find t).map Entry.state

/-- QUOTE (R86). -/
def Part.answerQuote (p : Part) (i : FareInputs) : Part × Answer :=
  if !p.roles.sells then p.refuse .notRole
  else if !p.trainOk i then p.refuse .trainNotSellable
  else
    let c := p.computeFare i
    match c.2 with
    | .refused code => (c.1, .bare code)
    | .fare r =>
      if p.lacksLink i r then (c.1, .bare .noQuota)
      else (c.1, ⟨.done, .quote r (p.stateOf i) (p.onHand i r)⟩)

/-- The reply to an ISSUE that commits, or is refused, at its own event (R98). -/
def Commit.answer : Commit → Answer
  | .sold _ record => ⟨.done, .ticket record⟩
  | .refused code => .bare code

/-- An ISSUE that goes in flight (R89): every held place reserved, an ASK for the shortfall, the issue record. -/
def Part.startIssue (p : Part) (req : IssueRequest) (needed : Nat) (t : TrainKey) : Part :=
  let held := p.quota.heldOf t
  let q := (p.moveOn (some t) (fun r => r.reserve held)).sendAsk t (needed - held)
  let i : IssueRecord :=
    { request := req, needed, reserved := held, asks := 1, askTime := some (p.lineTime + 500),
      deadline := p.lineTime + 1500 }
  { q with sales := { q.sales with issue := some i } }

/-- An ISSUE that passed the acceptance checks (R89). -/
def Part.takeIssue (p : Part) (req : IssueRequest) (needed : Nat) : Part × Answer :=
  if needed = 0 then
    let c := p.commit req needed
    (c.1, c.2.answer)
  else
    match req.inputs.train with
    | none => p.refuse .trainRequired
    | some t =>
      if needed ≤ p.quota.heldOf t then
        let c := (p.moveOn (some t) (fun r => r.reserve needed)).commit req needed
        (c.1, c.2.answer)
      else (p.startIssue req needed t, .bare .accepted)

/-- The acceptance checks of R88. -/
def Part.checkIssue (p : Part) (req : IssueRequest) : Part × Answer :=
  if p.sales.spaceFor.isNone then p.refuse .journalFull
  else if 10000 ≤ p.sales.nextSerial then p.refuse .serialExhausted
  else if !p.trainOk req.inputs then p.refuse .trainNotSellable
  else
    let c := p.computeFare req.inputs
    match c.2 with
    | .refused code => (c.1, .bare code)
    | .fare r => if p.lacksLink req.inputs r then (c.1, .bare .noQuota) else c.1.takeIssue req r.placesNeeded

/-- ISSUE (R87). -/
def Part.answerIssue (p : Part) (req : IssueRequest) : Part × Answer :=
  if !p.roles.sells then p.refuse .notRole
  else if 99999 < req.agreed then p.refuse .badRequest
  else if p.sales.issue.isSome then p.refuse .busy
  else p.checkIssue req

/-- ABORT ISSUE (R93). -/
def Part.answerAbortIssue (p : Part) : Part × Answer :=
  if !p.roles.sells then p.refuse .notRole
  else
    match p.sales.issue with
    | none => p.refuse .noIssue
    | some i => (p.endIssue i .aborted LedgerRecord.returnReserved, .bare .done)

/-- A SALE record of this ticket number (R100; the bytes of the two numbers agree, log 29). -/
def JournalRecord.sells (ref : TicketRef) (r : JournalRecord) : Option SaleFields :=
  match r.body with
  | .sale f => if f.ticket.ref = ref then some f else none
  | _ => none

/-- A VOID record of this ticket number. -/
def JournalRecord.voids (ref : TicketRef) (r : JournalRecord) : Bool :=
  match r.body with
  | .void t _ => decide (t.ref = ref)
  | _ => false

/-- The fields of a SALE record. -/
def JournalRecord.sale? (r : JournalRecord) : Option SaleFields :=
  match r.body with
  | .sale f => some f
  | _ => none

/-- The newest SALE record of the journal. -/
def SalesUnit.newestSale (s : SalesUnit) : Option SaleFields := (s.journal.filterMap JournalRecord.sale?).getLast?

/-- The void window holds this ticket number, within 120,000 ms of its commit (R100). -/
def Part.inVoidWindow (p : Part) (ref : TicketRef) : Bool :=
  match p.sales.voidWindow with
  | none => false
  | some w => decide (w.ticket.ref = ref) && decide (p.lineTime - w.committed ≤ 120000)

/-- The sale that a VOID would void, or the reason of its refusal (R100). -/
def Part.voidable (p : Part) (ref : TicketRef) : SaleFields ⊕ VoidReason :=
  match p.sales.journal.findSome? (JournalRecord.sells ref) with
  | none => .inr .notFound
  | some f =>
    if (p.sales.newestSale.map (fun g => g.ticket.ref)) ≠ some ref then .inr .notNewest
    else if p.sales.journal.any (JournalRecord.voids ref) then .inr .alreadyVoid
    else if !p.inVoidWindow ref then .inr .tooLate
    else .inl f

/-- The places of a voided sale come back (R101, R117). -/
def Part.unsellPlaces (p : Part) (f : SaleFields) : Part :=
  match f.train with
  | none => p
  | some t =>
    if f.placesUsed = 0 then p else p.moveOn (some t) (fun r => r.unsell f.placesUsed (p.trainSellable t))

/-- The issue in flight for the train of a voided sale is topped up, once held rose (R90, R101, R116). -/
def Part.topUpAfterVoid (p : Part) (f : SaleFields) : Part :=
  match f.train with
  | none => p
  | some t => if decide (0 < f.placesUsed) && p.trainSellable t && (p.quota.find t).isSome then p.topUp t else p

/-- The void window is cleared. -/
def Part.clearWindow (p : Part) : Part := { p with sales := { p.sales with voidWindow := none } }

/-- An accepted VOID, its record numbered `n`: the four steps of R101 in their order. The top-up that the third brings
about falls within it (DEDUCED, log 22). -/
def Part.voidSale (p : Part) (f : SaleFields) (n : Nat) : Part :=
  let q := p.write n (.void f.ticket f.amount)
  let q := { q with sales := { q.sales with totals := { q.sales.totals with
      voids := bump q.sales.totals.voids, voidSum := satAdd 4294967295 q.sales.totals.voidSum f.amount } } }
  ((q.unsellPlaces f).topUpAfterVoid f).clearWindow

/-- VOID (R100, R101). -/
def Part.answerVoid (p : Part) (ref : TicketRef) : Part × Answer :=
  if !p.roles.sells then p.refuse .notRole
  else
    match p.voidable ref with
    | .inr reason => (p, ⟨.voidRefused, .voidReason reason⟩)
    | .inl f =>
      match p.sales.spaceFor with
      | none => p.refuse .journalFull
      | some n => (p.voidSale f n, ⟨.done, .voidDone n⟩)

/-! ### The journal (R105, R106) -/

/-- READ JOURNAL (R105). -/
def Part.answerReadJournal (p : Part) (first : Nat) : Part × Answer :=
  (p, ⟨.done, .journal p.sales.journal.length ((p.sales.journal.filter (fun r => first ≤ r.number)).take 4)⟩)

/-- RELEASE JOURNAL (R106). -/
def Part.answerReleaseJournal (p : Part) (number : Nat) : Part × Answer :=
  if p.sales.journal.any (fun r => r.number = number) then
    let left := p.sales.journal.filter (fun r => number < r.number)
    ({ p with sales := { p.sales with journal := left } },
      ⟨.done, .released (p.sales.journal.length - left.length) left.length⟩)
  else p.refuse .badRelease

/-! ### Notices (R168, R169, R172) -/

/-- The LOST notice of a gap (R168). -/
def lostNotice (q : NoticeQueue) : Notice :=
  mkNotice .lost .none none .none q.lostCount ((q.firstLost.map NoticeKind.code).getD 0)

/-- LOST stored after a removal, if a gap is to be reported (R168). -/
def Part.storeLost (p : Part) : Part :=
  if p.notices.lostCount = 0 then p
  else
    ({ p with notices := { p.notices with lostCount := 0, firstLost := none } }).post (lostNotice p.notices)

/-- The attention line after a removal (R172): an empty queue deasserts it and clears the deadline. -/
def NoticeQueue.settle (q : NoticeQueue) : NoticeQueue :=
  if q.entries.isEmpty then { q with attention := false, deadline := none } else q

/-- The notices removed from the queue, with what follows (R168, R172). -/
def Part.removeNotices (p : Part) : Part :=
  let q := ({ p with notices := { p.notices with entries := p.notices.entries.drop 8 } }).storeLost
  { q with notices := q.notices.settle }

/-- TAKE NOTICES (R169). -/
def Part.answerTakeNotices (p : Part) : Part × Answer :=
  if p.notices.entries.isEmpty then (p, ⟨.done, .notices [] 0 p.notices.lostCount⟩)
  else
    let q := p.removeNotices
    (q, ⟨.done, .notices (p.notices.entries.take 8) q.notices.entries.length q.notices.lostCount⟩)

/-! ### READ PAGE (R56) and DOZE (R200) -/

/-- READ PAGE (R56). -/
def Part.answerReadPage (p : Part) : Part × Answer :=
  if p.roles.shows then (p, ⟨.done, .page p.page.held⟩) else p.refuse .notRole

/-- The first check of R200 that fails: the refusal, its reason, and the train of a near departure. -/
def Part.dozeRefusal (p : Part) : Option (ResultCode × DozeReason × Option TrainKey) :=
  if p.sales.issue.isSome then some (.busy, .issue, none)
  else if p.board.load.isSome then some (.busy, .load, none)
  else if p.fares.transfer.isSome then some (.busy, .fares, none)
  else if p.notices.wakeWaiting then some (.wakePending, .notice, none)
  else p.departureNear.map (fun e => (.wakePending, .departure, some e.train))

/-- The part enters DOZING (R57, R174, R200). -/
def Part.enterDoze (p : Part) : Part :=
  { p with
    doze := { p.doze with state := .dozing, dozeStart := some p.lineTime, dozeCount := bump p.doze.dozeCount }
    notices := { p.notices with attention := false, deadline := none }
    page := { p.page with deadline := none } }

/-- DOZE (R200). -/
def Part.answerDoze (p : Part) : Part × Answer :=
  match p.dozeRefusal with
  | some (code, reason, t) => (p, ⟨code, .dozeReason reason t⟩)
  | none => (p.enterDoze, .bare .done)

end Sys2Proof.Machine
end

