-- ==== Sys2Proof/Machine/Port.lean ====
section
/-! DEFINITION. The unit port: requests and their kinds, the judgement of a SEND, the order of a request's checks, the
reply store, and the meaning of each request command and of FETCH (R177 to R184). -/

namespace Sys2Proof.Machine

/-- A request taken at the port: its kind and what its payload lays out. A FARES ITEM or TRAIN UPDATE of the right
length whose bytes lay out no item or update carries none: its owner judges it. -/
inductive Request where
  | start (r : StartRequest)
  | restart
  | setTime (r : SetTimeRequest)
  | loadBegin (r : LoadBeginRequest)
  | loadTrain (r : TrainRecord)
  | loadEnd
  | loadAbort
  | trainUpdate (u : Option Update)
  | faresBegin (edition : Nat)
  | faresItem (i : Option FareItem)
  | faresEnd
  | faresAbort
  | quote (i : FareInputs)
  | issue (r : IssueRequest)
  | abortIssue
  | void (t : TicketRef)
  | readJournal (first : Nat)
  | releaseJournal (number : Nat)
  | takeNotices
  | readPage
  | readStatus (r : StatusRequest)
  | clearFlags
  | doze
  deriving DecidableEq, Repr

/-- The kind of a request. -/
def Request.kind : Request → RequestKind
  | .start _ => .start | .restart => .restart | .setTime _ => .setTime | .loadBegin _ => .loadBegin
  | .loadTrain _ => .loadTrain | .loadEnd => .loadEnd | .loadAbort => .loadAbort | .trainUpdate _ => .trainUpdate
  | .faresBegin _ => .faresBegin | .faresItem _ => .faresItem | .faresEnd => .faresEnd | .faresAbort => .faresAbort
  | .quote _ => .quote | .issue _ => .issue | .abortIssue => .abortIssue | .void _ => .void
  | .readJournal _ => .readJournal | .releaseJournal _ => .releaseJournal | .takeNotices => .takeNotices
  | .readPage => .readPage | .readStatus _ => .readStatus | .clearFlags => .clearFlags | .doze => .doze

/-- Every field of a request fits its bytes. -/
def Request.fits : Request → Bool
  | .start r => r.fits
  | .setTime r => r.fits
  | .loadBegin r => r.fits
  | .loadTrain r => r.fits
  | .trainUpdate (some u) => u.fits
  | .faresBegin edition => isShort edition
  | .faresItem (some i) => i.fits
  | .quote i => i.fits
  | .issue r => r.fits
  | .void t => t.fits
  | .readJournal first => isLong first
  | .releaseJournal number => isLong number
  | .readStatus r => r.fits
  | .trainUpdate none | .faresItem none | .restart | .loadEnd | .loadAbort | .faresEnd | .faresAbort | .abortIssue
  | .takeNotices | .readPage | .clearFlags | .doze => true

/-- The request a payload lays out, its length being one of the kind's (R181, step 3). -/
def Request.ofPayload (k : RequestKind) (l : List Byte) : Request :=
  match k with
  | .start => .start (StartRequest.parse l)
  | .restart => .restart
  | .setTime => .setTime (SetTimeRequest.parse l)
  | .loadBegin => .loadBegin (LoadBeginRequest.parse l)
  | .loadTrain => .loadTrain (TrainRecord.parse l)
  | .loadEnd => .loadEnd
  | .loadAbort => .loadAbort
  | .trainUpdate => .trainUpdate (Update.parse l)
  | .faresBegin => .faresBegin (fieldAt 0 2 l)
  | .faresItem => .faresItem (FareItem.parse l)
  | .faresEnd => .faresEnd
  | .faresAbort => .faresAbort
  | .quote => .quote (FareInputs.parse l)
  | .issue => .issue (IssueRequest.parse l)
  | .abortIssue => .abortIssue
  | .void => .void (TicketRef.parse l)
  | .readJournal => .readJournal (fieldAt 0 4 l)
  | .releaseJournal => .releaseJournal (fieldAt 0 4 l)
  | .takeNotices => .takeNotices
  | .readPage => .readPage
  | .readStatus => .readStatus (StatusRequest.parse l)
  | .clearFlags => .clearFlags
  | .doze => .doze

/-- The request of a kind byte and a payload; none for an unknown kind or a length that is not the kind's (R181,
steps 2 and 3). -/
def Request.parse (kind : Nat) (l : List Byte) : Option Request :=
  match RequestKind.ofCode kind with
  | none => none
  | some k => if l.length ∈ k.lengths then some (Request.ofPayload k l) else none

/-! ### Judging a taken request (R181 to R184) -/

/-- A part state refuses a request kind (R183). -/
def PartState.refusal (s : PartState) (k : RequestKind) : Option ResultCode :=
  match s with
  | .selfTest => some .busy
  | .waitingStart =>
    match k with
    | .start | .restart | .setTime | .readStatus | .takeNotices => none
    | _ => some .notStarted
  | .running | .dozing => if k = .start then some .locked else none
  | .fault =>
    match k with
    | .restart | .readStatus | .takeNotices => none
    | _ => some .fault

/-- A request kind is taken in DOZING without waking the part (R184). -/
def RequestKind.quiet (k : RequestKind) : Bool := k = .readStatus || k = .takeNotices

/-- A request wakes a dozing part before its state check (R184). -/
def Part.wakeFor (p : Part) (k : RequestKind) : Part :=
  if p.doze.state = .dozing ∧ k.quiet = false then p.wake (.request k) else p

/-- A request at its owner (R181, step 5), with the answer it gives; RESTART gives none (R189). -/
def Part.answer (p : Part) (r : Request) : Part × Option Answer :=
  let reply := fun (a : Part × Answer) => (a.1, some a.2)
  match r with
  | .start r => reply (p.answerStart r)
  | .restart => (p.resetWith .restart, none)
  | .setTime r => reply (p.answerSetTime r)
  | .loadBegin r => reply (p.answerLoadBegin r)
  | .loadTrain r => reply (p.answerLoadTrain r)
  | .loadEnd => reply p.answerLoadEnd
  | .loadAbort => reply p.answerLoadAbort
  | .trainUpdate u => reply (p.answerTrainUpdate u)
  | .faresBegin edition => reply (p.answerFaresBegin edition)
  | .faresItem i => reply (p.answerFaresItem i)
  | .faresEnd => reply p.answerFaresEnd
  | .faresAbort => reply p.answerFaresAbort
  | .quote i => reply (p.answerQuote i)
  | .issue r => reply (p.answerIssue r)
  | .abortIssue => reply p.answerAbortIssue
  | .void t => reply (p.answerVoid t)
  | .readJournal first => reply (p.answerReadJournal first)
  | .releaseJournal number => reply (p.answerReleaseJournal number)
  | .takeNotices => reply p.answerTakeNotices
  | .readPage => reply p.answerReadPage
  | .readStatus r => reply (p.answerReadStatus r)
  | .clearFlags => reply p.answerClearFlags
  | .doze => reply p.answerDoze

/-- A reply put into the reply store. -/
def Part.putReply (p : Part) (kind : Nat) (a : Answer) : Part :=
  { p with port := { p.port with reply := some ⟨kind, a.result, a.body⟩ } }

/-- A request handled, and its answer put into the reply store. -/
def Part.handle (p : Part) (r : Request) : Part :=
  let o := p.answer r
  match o.2 with
  | none => o.1
  | some a => o.1.putReply r.kind.code a

/-- Steps 4 and 5 of R181. -/
def Part.judgeState (p : Part) (r : Request) : Part :=
  match p.doze.state.refusal r.kind with
  | some code => p.putReply r.kind.code (.bare code)
  | none => p.handle r

/-- A taken request judged in the order of R181. A request whose fields do not fit its payload fails at step 3
(log 14). -/
def Part.takeRequest (p : Part) (kind : Nat) (r : Option Request) : Part :=
  if p.doze.state = .selfTest then p.putReply kind (.bare .busy)
  else
    match r with
    | none => p.putReply kind (.bare .badRequest)
    | some r =>
      if r.fits then (p.wakeFor r.kind).judgeState r else p.putReply kind (.bare .badRequest)

/-! ### Transfers (R177 to R180) -/

/-- The port status at the start of a transfer (R178). -/
def Part.portStatus (p : Part) : PortStatus :=
  { state := p.doze.state, replyHeld := p.port.reply.isSome, outcome := p.port.outcome }

/-- The port changed. -/
def Part.withPort (p : Part) (f : UnitPort → UnitPort) : Part := { p with port := f p.port }

/-- The port after a SEND with this finding (R179), its reply apart. -/
def UnitPort.found (u : UnitPort) (o : SendOutcome) : UnitPort :=
  match o with
  | .none => u
  | .taken => { u with outcome := .taken, taken := bump u.taken }
  | .badFrame => { u with outcome := .badFrame, badFrame := bump u.badFrame }
  | .portBusy => { u with outcome := .portBusy, portBusy := bump u.portBusy }

/-- A SEND or a STATUS transfer begins: the port status is shifted out, and filler after it (R177). Nothing else
follows from a STATUS transfer (R178). -/
def Part.shiftStatus (p : Part) : Part := p.withPort (fun u => { u with lastTransfer := some ⟨p.portStatus, none⟩ })

/-- A SEND transfer ends (R179): PORT_BUSY while a reply is held, else `judge` has the frame. -/
def Part.endSend (p : Part) (judge : Part → Part) : Part :=
  if p.up then
    let q := p.shiftStatus
    if p.port.reply.isSome then q.withPort (fun u => u.found .portBusy) else judge q
  else p

/-- A complete frame is taken (R179). -/
def Part.takeFrame (p : Part) (kind : Nat) (r : Option Request) : Part :=
  (p.withPort (fun u => u.found .taken)).takeRequest kind r

/-- A SEND whose frame is complete and lays out a request. -/
def Part.sendRequest (p : Part) (r : Request) : Part := p.endSend (fun q => q.takeFrame r.kind.code (some r))

/-- A SEND of bytes that the port judges (R179, R206). -/
def Part.sendBytes (p : Part) (bytes : List Byte) : Part :=
  p.endSend fun q =>
    match judgeSend bytes with
    | .badFrame kind => (q.withPort (fun u => u.found .badFrame)).putReply kind (.bare .badFrame)
    | .complete kind payload => q.takeFrame kind (Request.parse kind payload)

/-- A FETCH transfer of so many bytes after the port status (R180, R206): the held reply, or the absent marker, is
shifted out and filler after it, and the reply is collected if its last check byte was among the bytes. -/
def Part.fetch (p : Part) (bytes : Nat) : Part :=
  let out : TransferOut := ⟨p.portStatus, some (shiftOut (fetchAnswer p.port.reply) bytes)⟩
  p.withPort fun u =>
    { u with
      lastTransfer := some out
      reply := match u.reply with | none => none | some r => if r.bytes.length ≤ bytes then none else some r }

/-- A transfer of bytes as they came, its type named by the first of them (R177). One without a byte is no transfer
(log 27). -/
def Part.transfer (p : Part) (bytes : List Byte) : Part :=
  match bytes with
  | [] => p
  | first :: rest =>
    match transferType first with
    | .send => p.sendBytes rest
    | .fetch => if p.up then p.fetch rest.length else p
    | .status => if p.up then p.shiftStatus else p

/-- The transfer of a request row: a SEND of its request, or bytes as they came. -/
def Part.send {α : Type} (p : Part) (x : Sent α) (request : α → Request) : Part :=
  match x with
  | .clean r => p.sendRequest (request r)
  | .raw bytes => p.transfer bytes

/-! ### The meanings of the request commands -/

/-- The outcome of a command that changes the part. -/
def State.became (s : State) (p : Part) : Host.Outcome State Fault Refusal := .next { s with part := p }

/-- START (R185 to R188). -/
def execStart (x : Sent StartRequest) (s : State) : Host.Outcome State Fault Refusal :=
  s.became (s.part.send x .start)

/-- RESTART (R189). -/
def execRestart (x : Sent Unit) (s : State) : Host.Outcome State Fault Refusal :=
  s.became (s.part.send x (fun _ => .restart))

/-- SET TIME (R15, R16). -/
def execSetTime (x : Sent SetTimeRequest) (s : State) : Host.Outcome State Fault Refusal :=
  s.became (s.part.send x .setTime)

/-- LOAD BEGIN (R27). -/
def execLoadBegin (x : Sent LoadBeginRequest) (s : State) : Host.Outcome State Fault Refusal :=
  s.became (s.part.send x .loadBegin)

/-- LOAD TRAIN (R28). -/
def execLoadTrain (x : Sent TrainRecord) (s : State) : Host.Outcome State Fault Refusal :=
  s.became (s.part.send x .loadTrain)

/-- LOAD END (R30). -/
def execLoadEnd (x : Sent Unit) (s : State) : Host.Outcome State Fault Refusal :=
  s.became (s.part.send x (fun _ => .loadEnd))

/-- LOAD ABORT (R31). -/
def execLoadAbort (x : Sent Unit) (s : State) : Host.Outcome State Fault Refusal :=
  s.became (s.part.send x (fun _ => .loadAbort))

/-- TRAIN UPDATE (R33, R40). -/
def execTrainUpdate (x : Sent Update) (s : State) : Host.Outcome State Fault Refusal :=
  s.became (s.part.send x (fun u => .trainUpdate (some u)))

/-- FARES BEGIN (R65). -/
def execFaresBegin (x : Sent Nat) (s : State) : Host.Outcome State Fault Refusal :=
  s.became (s.part.send x .faresBegin)

/-- FARES ITEM (R66). -/
def execFaresItem (x : Sent FareItem) (s : State) : Host.Outcome State Fault Refusal :=
  s.became (s.part.send x (fun i => .faresItem (some i)))

/-- FARES END (R67). -/
def execFaresEnd (x : Sent Unit) (s : State) : Host.Outcome State Fault Refusal :=
  s.became (s.part.send x (fun _ => .faresEnd))

/-- FARES ABORT (R68). -/
def execFaresAbort (x : Sent Unit) (s : State) : Host.Outcome State Fault Refusal :=
  s.became (s.part.send x (fun _ => .faresAbort))

/-- QUOTE (R86). -/
def execQuote (x : Sent FareInputs) (s : State) : Host.Outcome State Fault Refusal :=
  s.became (s.part.send x .quote)

/-- ISSUE (R87 to R89). -/
def execIssue (x : Sent IssueRequest) (s : State) : Host.Outcome State Fault Refusal :=
  s.became (s.part.send x .issue)

/-- ABORT ISSUE (R93). -/
def execAbortIssue (x : Sent Unit) (s : State) : Host.Outcome State Fault Refusal :=
  s.became (s.part.send x (fun _ => .abortIssue))

/-- VOID (R100, R101). -/
def execVoid (x : Sent TicketRef) (s : State) : Host.Outcome State Fault Refusal :=
  s.became (s.part.send x .void)

/-- READ JOURNAL (R105). -/
def execReadJournal (x : Sent Nat) (s : State) : Host.Outcome State Fault Refusal :=
  s.became (s.part.send x .readJournal)

/-- RELEASE JOURNAL (R106). -/
def execReleaseJournal (x : Sent Nat) (s : State) : Host.Outcome State Fault Refusal :=
  s.became (s.part.send x .releaseJournal)

/-- TAKE NOTICES (R169). -/
def execTakeNotices (x : Sent Unit) (s : State) : Host.Outcome State Fault Refusal :=
  s.became (s.part.send x (fun _ => .takeNotices))

/-- READ PAGE (R56). -/
def execReadPage (x : Sent Unit) (s : State) : Host.Outcome State Fault Refusal :=
  s.became (s.part.send x (fun _ => .readPage))

/-- READ STATUS (R190). -/
def execReadStatus (x : Sent StatusRequest) (s : State) : Host.Outcome State Fault Refusal :=
  s.became (s.part.send x .readStatus)

/-- CLEAR FLAGS (R83). -/
def execClearFlags (x : Sent Unit) (s : State) : Host.Outcome State Fault Refusal :=
  s.became (s.part.send x (fun _ => .clearFlags))

/-- DOZE (R200). -/
def execDoze (x : Sent Unit) (s : State) : Host.Outcome State Fault Refusal :=
  s.became (s.part.send x (fun _ => .doze))

/-- FETCH (R180). -/
def execFetch (bytes : Nat) (s : State) : Host.Outcome State Fault Refusal :=
  s.became (if s.part.up then s.part.fetch bytes else s.part)

end Sys2Proof.Machine
end

