-- ==== Sys2Proof/Machine/Keys.lean ====
section
/-! DEFINITION. The key inputs and their debouncers (R204), and the meanings of their commands. -/

namespace Sys2Proof.Machine

/-- A key's debouncer changed. -/
def Part.withKey (p : Part) (k : Key) (f : KeyState → KeyState) : Part :=
  { p with doze := p.doze.setKey k (f (p.doze.key k)) }

/-- A press counted and reported (R204). -/
def Part.countPress (p : Part) (k : Key) : Part :=
  let q := p.withKey k (fun d => { d with presses := bump d.presses })
  q.post (keyNotice k 1 (q.doze.key k).presses)

/-- A key is pressed: what follows by part state and enable (R204). -/
def Part.pressed (p : Part) (k : Key) : Part :=
  if p.keyEnabled k then
    match p.doze.state with
    | .running => p.countPress k
    | .dozing => (p.wake (.key k)).countPress k
    | _ => p
  else p

/-- A key's settle deadline is reached: the settled level takes the input's present level, and a fall is a press. -/
def Part.settleKey (p : Part) (k : Key) : Part :=
  let d := p.doze.key k
  let q := p.withKey k (fun d => { d with settleDeadline := none, settledLow := d.inputLow })
  if d.inputLow && !d.settledLow then q.pressed k else q

/-- A key's settle deadline has come. -/
def Part.settleDue (p : Part) (k : Key) : Bool := p.up && reached p.lineTime (p.doze.key k).settleDeadline

/-- A key input takes a level (R204). A change restarts the settle deadline while the part runs; with the supply off
or the reset held only the level is taken (log 7). -/
def Part.keyInput (p : Part) (k : Key) (low : Bool) : Part :=
  if (p.doze.key k).inputLow = low then p
  else if p.up then p.withKey k (fun d => { d with inputLow := low, settleDeadline := some (p.lineTime + 20) })
  else p.withKey k (fun d => { d with inputLow := low })

/-- KEY INPUT CHANGE (R204). -/
def execKeyInputChange (k : Key) (low : Bool) (s : State) : Host.Outcome State Fault Refusal :=
  s.became (s.part.keyInput k low)

/-- SETTLE DEADLINE (R204). -/
def execSettleDeadline (k : Key) (s : State) : Host.Outcome State Fault Refusal :=
  s.became (if s.part.settleDue k then s.part.settleKey k else s.part)

end Sys2Proof.Machine
end

