-- ==== Sys2Proof/Machine/Deadlines.lean ====
section
/-! DEFINITION. The events of the clock and of the blocks' deadlines: when each is due, and the meaning of its
command. An event that is not due has no effect (log 3). -/

namespace Sys2Proof.Machine

/-- The part acts on the halt: powered, not in reset, RUNNING or DOZING. -/
def Part.acting (p : Part) : Bool := p.up && p.awake

/-! ### The clock -/

/-- A minute event has come (R4). -/
def Part.minuteCame (p : Part) : Bool := p.up && p.minuteDue

/-- MINUTE EVENT (R3, R4, R5): the comparison of the sales day, then the minute event. -/
def execMinuteEvent (s : State) : Host.Outcome State Fault Refusal :=
  s.became (if s.part.minuteCame then s.part.clockCheck else s.part)

/-- A slew period has come to its end (R13). -/
def Part.slewCame (p : Part) : Bool := p.up && p.slewDue

/-- SLEW PERIOD (R13). -/
def execSlewPeriod (s : State) : Host.Outcome State Fault Refusal :=
  s.became (if s.part.slewCame then s.part.slewPeriod else s.part)

/-- The source deadline has come (R9). -/
def Part.sourceCame (p : Part) : Bool := p.up && reached p.lineTime p.clock.sourceDeadline

/-- SOURCE DEADLINE (R9). -/
def execSourceDeadline (s : State) : Host.Outcome State Fault Refusal :=
  s.became (if s.part.sourceCame then s.part.loseSource else s.part)

/-- The reference deadline has come (R17). -/
def Part.referenceCame (p : Part) : Bool := p.up && reached p.lineTime p.clock.referenceDeadline

/-- REFERENCE LAPSE (R17). -/
def execReferenceLapse (s : State) : Host.Outcome State Fault Refusal :=
  s.became (if s.part.referenceCame then s.part.referenceLapse else s.part)

/-! ### The departure list and the page builder -/

/-- The entry of a train whose refresh deadline has come (R42). -/
def Part.refreshCame (p : Part) (t : TrainKey) : Option Entry :=
  if p.acting then
    match p.board.find t with
    | none => none
    | some e => if reached p.lineTime e.refreshDeadline then some e else none
  else none

/-- REFRESH DEADLINE (R42). -/
def execRefreshDeadline (t : TrainKey) (s : State) : Host.Outcome State Fault Refusal :=
  s.became (match s.part.refreshCame t with | none => s.part | some e => s.part.refreshEntry e)

/-- The interval deadline has come (R52). -/
def Part.intervalCame (p : Part) : Bool := p.up && p.pageRunning && reached p.lineTime p.page.deadline

/-- The page is rebuilt and turned over (R52). -/
def Part.turnPage (p : Part) : Part :=
  ({ p with page := { p.page with deadline := some (p.lineTime + p.intervalMs) } }).rebuild turnIndex

/-- INTERVAL DEADLINE (R52). -/
def execIntervalDeadline (s : State) : Host.Outcome State Fault Refusal :=
  s.became (if s.part.intervalCame then s.part.turnPage else s.part)

/-! ### The issue in flight -/

/-- The issue whose ask time has come (R91). -/
def Part.askCame (p : Part) : Option IssueRecord :=
  if p.acting then
    match p.sales.issue with
    | none => none
    | some i => if reached p.lineTime i.askTime then some i else none
  else none

/-- A second ASK for the shortfall of an issue (R91). -/
def Part.askAgain (p : Part) (i : IssueRecord) : Part :=
  let asked := decide (0 < i.shortfall)
  let i' := { i with askTime := none, asks := if asked then 2 else i.asks }
  let q := { p with sales := { p.sales with issue := some i' } }
  match i.request.inputs.train with
  | none => q
  | some t => if asked then q.sendAsk t i.shortfall else q

/-- ASK TIME (R91). -/
def execAskTime (s : State) : Host.Outcome State Fault Refusal :=
  s.became (match s.part.askCame with | none => s.part | some i => s.part.askAgain i)

/-- The issue whose deadline has come (R92). -/
def Part.issueCame (p : Part) : Option IssueRecord :=
  if p.acting then
    match p.sales.issue with
    | none => none
    | some i => if i.deadline ≤ p.lineTime then some i else none
  else none

/-- ISSUE DEADLINE (R92). -/
def execIssueDeadline (s : State) : Host.Outcome State Fault Refusal :=
  s.became (match s.part.issueCame with
    | none => s.part
    | some i => s.part.endIssue i .quotaExhausted LedgerRecord.returnReserved)

/-! ### The quota unit -/

/-- A watch record of this ask whose 2,000 ms have passed (R122). -/
def WatchRecord.expired (asker number now : Nat) (w : WatchRecord) : Bool :=
  w.isFor asker number && decide (w.heard + 2000 ≤ now)

/-- Watch records whose time has come removed (R122). -/
def Part.expireWatch (p : Part) (asker number : Nat) : Part :=
  { p with quota := { p.quota with watch := p.quota.watch.filter (fun w => !w.expired asker number p.lineTime) } }

/-- WATCH EXPIRY (R122). -/
def execWatchExpiry (asker number : Nat) (s : State) : Host.Outcome State Fault Refusal :=
  s.became (if s.part.acting then s.part.expireWatch asker number else s.part)

/-- TAKEN DEADLINE (R128). -/
def execTakenDeadline (t : TrainKey) (asker number : Nat) (s : State) : Host.Outcome State Fault Refusal :=
  s.became (if s.part.acting then s.part.grantOverdue t asker number else s.part)

/-! ### The peer table -/

/-- A peer's silent deadline has come (R140). -/
def Part.silentCame (p : Part) (node : Nat) : Bool :=
  p.acting && (match p.peers.find node with | none => false | some r => r.silentDue p.lineTime)

/-- SILENT DEADLINE (R140). -/
def execSilentDeadline (node : Nat) (s : State) : Host.Outcome State Fault Refusal :=
  s.became (if s.part.silentCame node then s.part.peerSilent node else s.part)

/-- A peer's gone deadline has come (R140). -/
def Part.goneCame (p : Part) (node : Nat) : Bool :=
  p.acting && (match p.peers.find node with | none => false | some r => r.goneDue p.lineTime)

/-- GONE DEADLINE (R140). -/
def execGoneDeadline (node : Nat) (s : State) : Host.Outcome State Fault Refusal :=
  s.became (if s.part.goneCame node then s.part.peerGone node else s.part)

/-- The beacon deadline has come (R144). -/
def Part.beaconCame (p : Part) : Bool := p.acting && reached p.lineTime p.peers.beaconDeadline

/-- BEACON DEADLINE (R144). -/
def execBeaconDeadline (s : State) : Host.Outcome State Fault Refusal :=
  s.became (if s.part.beaconCame then s.part.beaconDue else s.part)

/-! ### The notice queue -/

/-- The hold-off deadline has come (R170). -/
def Part.holdOffCame (p : Part) : Bool := p.up && reached p.lineTime p.notices.deadline

/-- The hold-off deadline is reached: cleared, and the line asserted if a notice waits (R170). -/
def NoticeQueue.holdOffEnds (q : NoticeQueue) : NoticeQueue :=
  { q with deadline := none, attention := q.attention || !q.entries.isEmpty }

/-- HOLD OFF DEADLINE (R170). -/
def execHoldOffDeadline (s : State) : Host.Outcome State Fault Refusal :=
  s.became (if s.part.holdOffCame then { s.part with notices := s.part.notices.holdOffEnds } else s.part)

end Sys2Proof.Machine
end

