-- ==== Sys2Proof/Machine/HaltLine.lean ====
section
/-! DEFINITION. The meanings of the halt line's commands: busy and quiet, slots, attempts and their ends, and the
frames heard (R147 to R160, R136 to R143). -/

namespace Sys2Proof.Machine

/-- The line interface changed. -/
def Part.withLine (p : Part) (f : LineInterface → LineInterface) : Part := { p with line := f p.line }

/-! ### Busy and quiet (R147, R154, R156) -/

/-- A counting wait is paused (R156). -/
def Transmitter.pause : Transmitter → Transmitter
  | .counting f => .paused f
  | t => t

/-- The line becomes busy. -/
def Part.lineBusy (p : Part) : Part :=
  if p.line.busy then p
  else p.withLine (fun l => { l with busy := true, changedAt := p.lineTime, tx := l.tx.pause })

/-- LINE BUSY (R147, R156). -/
def execLineBusy (s : State) : Host.Outcome State Fault Refusal :=
  s.became (if s.part.up then s.part.lineBusy else s.part)

/-- The transmitter makes a choice when the line has just become quiet (R154). -/
def Transmitter.chooses : Transmitter → Bool
  | .idle | .paused _ => true
  | .counting _ | .sending _ | .breaking _ => false

/-- The part drives the line: an attempt or a break is under way. -/
def Transmitter.driving : Transmitter → Bool
  | .sending _ | .breaking _ => true
  | .idle | .counting _ | .paused _ => false

/-- The line becomes quiet, which it cannot while the part drives it. -/
def Part.lineQuiet (p : Part) : Part :=
  if !p.line.busy || p.line.tx.driving then p
  else
    let q := p.withLine (fun l => { l with busy := false, changedAt := p.lineTime })
    if p.awake && p.line.tx.chooses then q.choose else q

/-- LINE QUIET (R147, R154). -/
def execLineQuiet (s : State) : Host.Outcome State Fault Refusal :=
  s.became (if s.part.up then s.part.lineQuiet else s.part)

/-- A whole slot of quiet line ends (R156). -/
def Part.slotEnd (p : Part) : Part :=
  match p.line.tx with
  | .counting f =>
    if p.line.busy then p
    else
      match p.line.find f with
      | none => p
      | some sl => p.runWait sl (sl.wait.getD 0 - 1)
  | _ => p

/-- SLOT END (R156, R157). -/
def execSlotEnd (s : State) : Host.Outcome State Fault Refusal :=
  s.became (if s.part.up then s.part.slotEnd else s.part)

/-! ### The end of an attempt (R158, R159, R160) -/

/-- The owner of a frame is told that it was sent whole (R158). -/
def Part.tellSent (p : Part) (sl : Slot) : Part :=
  match sl.body with
  | .train _ => p.trainReported sl.id
  | .grant _ => p.grantSent sl.id
  | .beacon | .ask _ | .taken _ => p

/-- A frame is sent whole (R158). -/
def Part.sentWhole (p : Part) : Part :=
  match p.line.tx with
  | .sending f =>
    let q := p.withLine (fun l => { l.drop [f] with tx := .idle, onLine := none })
    match p.line.find f with
    | none => q
    | some sl => q.tellSent sl
  | _ => p

/-- SENT WHOLE (R158). -/
def execSentWhole (s : State) : Host.Outcome State Fault Refusal :=
  s.became (if s.part.up then s.part.sentWhole else s.part)

/-- A slot after its attempt met a collision (R159). -/
def Slot.collided (sl : Slot) : Slot := { sl with attempts := sl.attempts + 1, wait := none }

/-- A mismatch during an attempt (R159): the break starts, and the collision is counted (log 20). -/
def Part.collide (p : Part) : Part :=
  match p.line.tx with
  | .sending f =>
    p.withLine (fun l =>
      { l.modify f Slot.collided with
        tx := .breaking f
        onLine := none
        counts := { l.counts with collision := bump l.counts.collision } })
  | _ => p

/-- COLLISION (R159). -/
def execCollision (s : State) : Host.Outcome State Fault Refusal :=
  s.became (if s.part.up then s.part.collide else s.part)

/-- The subject of a LINE notice (R160). -/
def Part.frameSubject (p : Part) (sl : Slot) : Subject :=
  match sl.body with
  | .beacon => .none
  | .train u => .train u.train
  | .ask _ => .ask p.ownNode sl.seq
  | .grant g => .ask g.asker g.number
  | .taken t => .ask p.ownNode t.number

/-- The owner of a frame is told that it was given up (R160). -/
def Part.tellGivenUp (p : Part) (sl : Slot) : Part :=
  match sl.body with
  | .train _ => p.trainReported sl.id
  | .grant _ => p.grantGivenUp sl.id
  | .beacon | .ask _ | .taken _ => p

/-- A frame is given up after its eighth attempt (R160). -/
def Part.giveUp (p : Part) (sl : Slot) : Part :=
  let q := p.withLine (fun l =>
    { l.drop [sl.id] with tx := .idle, counts := { l.counts with giveUp := bump l.counts.giveUp } })
  (q.post (mkNotice .line .none none (p.frameSubject sl) sl.body.kind.code q.line.counts.giveUp)).tellGivenUp sl

/-- A frame stays for another attempt; a GRANT's attempt was cut (R124, R159). -/
def Part.keepFrame (p : Part) (sl : Slot) : Part :=
  let q := p.withLine (fun l => { l with tx := .idle })
  match sl.body with
  | .grant _ => q.grantCut sl.id
  | _ => q

/-- The break ends (R159, R160). -/
def Part.endBreak (p : Part) : Part :=
  match p.line.tx with
  | .breaking f =>
    match p.line.find f with
    | none => p.withLine (fun l => { l with tx := .idle })
    | some sl => if 8 ≤ sl.attempts then p.giveUp sl else p.keepFrame sl
  | _ => p

/-- BREAK END (R159, R160). -/
def execBreakEnd (s : State) : Host.Outcome State Fault Refusal :=
  s.became (if s.part.up then s.part.endBreak else s.part)

/-! ### Frames heard (R148, R149, R136) -/

/-- BAD FRAME (R148). -/
def execBadFrame (s : State) : Host.Outcome State Fault Refusal :=
  s.became (if s.part.up then s.part.countBad else s.part)

/-- MALFORMED FRAME (R149). -/
def execMalformedFrame (s : State) : Host.Outcome State Fault Refusal :=
  s.became (if s.part.up then s.part.countMalformed else s.part)

/-- BEACON (R141). -/
def execBeacon (x : Heard BeaconPayload) (s : State) : Host.Outcome State Fault Refusal :=
  s.became (s.part.hear x .beacon)

/-- TRAIN (R33). -/
def execTrain (x : Heard Update) (s : State) : Host.Outcome State Fault Refusal :=
  s.became (s.part.hear x .train)

/-- ASK (R122). -/
def execAsk (x : Heard AskPayload) (s : State) : Host.Outcome State Fault Refusal :=
  s.became (s.part.hear x .ask)

/-- GRANT (R120, R124). -/
def execGrant (x : Heard GrantPayload) (s : State) : Host.Outcome State Fault Refusal :=
  s.became (s.part.hear x .grant)

/-- TAKEN (R127). -/
def execTaken (x : Heard TakenPayload) (s : State) : Host.Outcome State Fault Refusal :=
  s.became (s.part.hear x .taken)

end Sys2Proof.Machine
end

