-- ==== Sys2Proof/Machine/Supply.lean ====
section
/-! DEFINITION. The meanings of the commands of supply and reset (R1, R193, R194). -/

namespace Sys2Proof.Machine

/-- POWER ON (R194). -/
def execPowerOn (s : State) : Host.Outcome State Fault Refusal := s.became s.part.powerOn

/-- RESET PIN (R194). -/
def execResetPin (s : State) : Host.Outcome State Fault Refusal := s.became s.part.assertReset

/-- RESET PIN RELEASE (R194). -/
def execResetPinRelease (s : State) : Host.Outcome State Fault Refusal := s.became s.part.releaseReset

/-- MAIN SUPPLY LOSS (R193). -/
def execMainSupplyLoss (s : State) : Host.Outcome State Fault Refusal := s.became s.part.loseMain

/-- BACKUP LOSS (R193). -/
def execBackupLoss (s : State) : Host.Outcome State Fault Refusal := s.became s.part.loseBackup

/-- SELF TEST END (R194). -/
def execSelfTestEnd (memoryPasses : Bool) (s : State) : Host.Outcome State Fault Refusal :=
  s.became (if s.part.selfTesting then s.part.endSelfTest memoryPasses else s.part)

/-- LINE TIME END (R1): the part restarts as on a RESTART request. -/
def execLineTimeEnd (s : State) : Host.Outcome State Fault Refusal :=
  s.became (if s.part.lineTimeEnded then s.part.resetWith .restart else s.part)

end Sys2Proof.Machine
end

