-- ==== Sys2Proof/Machine/Dispatch.lean ====
section
/-! DEFINITION. The meaning of every command, by its constructor. -/

namespace Sys2Proof.Machine

def exec (i : Instr) (s : State) : Host.Outcome State Fault Refusal :=
  match i with
  | .start x => Sys2Proof.Machine.execStart x s
  | .restart x => Sys2Proof.Machine.execRestart x s
  | .setTime x => Sys2Proof.Machine.execSetTime x s
  | .loadBegin x => Sys2Proof.Machine.execLoadBegin x s
  | .loadTrain x => Sys2Proof.Machine.execLoadTrain x s
  | .loadEnd x => Sys2Proof.Machine.execLoadEnd x s
  | .loadAbort x => Sys2Proof.Machine.execLoadAbort x s
  | .trainUpdate x => Sys2Proof.Machine.execTrainUpdate x s
  | .faresBegin x => Sys2Proof.Machine.execFaresBegin x s
  | .faresItem x => Sys2Proof.Machine.execFaresItem x s
  | .faresEnd x => Sys2Proof.Machine.execFaresEnd x s
  | .faresAbort x => Sys2Proof.Machine.execFaresAbort x s
  | .quote x => Sys2Proof.Machine.execQuote x s
  | .issue x => Sys2Proof.Machine.execIssue x s
  | .abortIssue x => Sys2Proof.Machine.execAbortIssue x s
  | .void x => Sys2Proof.Machine.execVoid x s
  | .readJournal x => Sys2Proof.Machine.execReadJournal x s
  | .releaseJournal x => Sys2Proof.Machine.execReleaseJournal x s
  | .takeNotices x => Sys2Proof.Machine.execTakeNotices x s
  | .readPage x => Sys2Proof.Machine.execReadPage x s
  | .readStatus x => Sys2Proof.Machine.execReadStatus x s
  | .clearFlags x => Sys2Proof.Machine.execClearFlags x s
  | .doze x => Sys2Proof.Machine.execDoze x s
  | .fetch bytes => Sys2Proof.Machine.execFetch bytes s
  | .powerOn => Sys2Proof.Machine.execPowerOn s
  | .resetPin => Sys2Proof.Machine.execResetPin s
  | .mainSupplyLoss => Sys2Proof.Machine.execMainSupplyLoss s
  | .backupLoss => Sys2Proof.Machine.execBackupLoss s
  | .selfTestEnd memoryPasses => Sys2Proof.Machine.execSelfTestEnd memoryPasses s
  | .lineTimeEnd => Sys2Proof.Machine.execLineTimeEnd s
  | .minuteEvent => Sys2Proof.Machine.execMinuteEvent s
  | .slewPeriod => Sys2Proof.Machine.execSlewPeriod s
  | .sourceDeadline => Sys2Proof.Machine.execSourceDeadline s
  | .referenceLapse => Sys2Proof.Machine.execReferenceLapse s
  | .refreshDeadline train => Sys2Proof.Machine.execRefreshDeadline train s
  | .intervalDeadline => Sys2Proof.Machine.execIntervalDeadline s
  | .askTime => Sys2Proof.Machine.execAskTime s
  | .issueDeadline => Sys2Proof.Machine.execIssueDeadline s
  | .watchExpiry asker number => Sys2Proof.Machine.execWatchExpiry asker number s
  | .takenDeadline train asker number => Sys2Proof.Machine.execTakenDeadline train asker number s
  | .silentDeadline node => Sys2Proof.Machine.execSilentDeadline node s
  | .goneDeadline node => Sys2Proof.Machine.execGoneDeadline node s
  | .beaconDeadline => Sys2Proof.Machine.execBeaconDeadline s
  | .holdOffDeadline => Sys2Proof.Machine.execHoldOffDeadline s
  | .keyInputChange key low => Sys2Proof.Machine.execKeyInputChange key low s
  | .settleDeadline key => Sys2Proof.Machine.execSettleDeadline key s
  | .lineBusy => Sys2Proof.Machine.execLineBusy s
  | .lineQuiet => Sys2Proof.Machine.execLineQuiet s
  | .slotEnd => Sys2Proof.Machine.execSlotEnd s
  | .sentWhole => Sys2Proof.Machine.execSentWhole s
  | .collision => Sys2Proof.Machine.execCollision s
  | .breakEnd => Sys2Proof.Machine.execBreakEnd s
  | .badFrame => Sys2Proof.Machine.execBadFrame s
  | .malformedFrame => Sys2Proof.Machine.execMalformedFrame s
  | .beacon x => Sys2Proof.Machine.execBeacon x s
  | .train x => Sys2Proof.Machine.execTrain x s
  | .ask x => Sys2Proof.Machine.execAsk x s
  | .grant x => Sys2Proof.Machine.execGrant x s
  | .taken x => Sys2Proof.Machine.execTaken x s
  | .resetPinRelease => Sys2Proof.Machine.execResetPinRelease s

end Sys2Proof.Machine
end

