-- ==== Sys2Proof/Machine/Tick.lean ====
section
/-! DEFINITION. The passing of a millisecond: what a step does on an empty queue (log 1), and the events that came due
at it (log 2). -/

namespace Sys2Proof.Machine

/-- A command if a test holds. -/
def commandIf (c : Bool) (i : Instr) : List Instr := if c then [i] else []

/-- The refresh deadlines that have come (R42). -/
def Part.refreshEvents (p : Part) : List Instr :=
  p.board.entries.flatMap (fun e => commandIf (p.refreshCame e.train).isSome (.refreshDeadline e.train))

/-- The watch records whose time has come (R122). -/
def Part.watchEvents (p : Part) : List Instr :=
  p.quota.watch.flatMap (fun w => commandIf (w.expired w.asker w.number p.lineTime) (.watchExpiry w.asker w.number))

/-- The TAKEN deadlines that have come (R128). -/
def Part.takenEvents (p : Part) : List Instr :=
  p.quota.ledger.flatMap fun r =>
    r.grants.flatMap fun g =>
      commandIf (g.overdue g.asker g.number p.lineTime) (.takenDeadline r.train g.asker g.number)

/-- The silence deadlines that have come (R140). -/
def Part.peerEvents (p : Part) : List Instr :=
  p.peers.records.flatMap fun r =>
    commandIf (p.silentCame r.node) (.silentDeadline r.node) ++ commandIf (p.goneCame r.node) (.goneDeadline r.node)

/-- Self-test ends no later than 50 ms of line time after the reset, with a free result of its memory test
(R194; log 6). -/
def Part.selfTestEvents (p : Part) : List Instr :=
  commandIf (p.selfTesting && decide (50 ≤ p.lineTime)) (.selfTestEnd (Config.workingMemoryPasses p.draws))

/-- The events that have come while the part acts on the halt. -/
def Part.actingEvents (p : Part) : List Instr :=
  if p.acting then
    p.refreshEvents ++ commandIf p.intervalCame .intervalDeadline ++ commandIf p.askCame.isSome .askTime
      ++ commandIf p.issueCame.isSome .issueDeadline ++ p.watchEvents ++ p.takenEvents ++ p.peerEvents
      ++ commandIf p.beaconCame .beaconDeadline
  else []

/-- The events that have come; at the end of line time that end alone (R1). -/
def Part.events (p : Part) : List Instr :=
  if p.lineTimeEnded then [.lineTimeEnd]
  else
    commandIf p.minuteCame .minuteEvent ++ commandIf p.slewCame .slewPeriod ++ commandIf p.sourceCame .sourceDeadline
      ++ commandIf p.referenceCame .referenceLapse ++ p.actingEvents ++ commandIf p.holdOffCame .holdOffDeadline
      ++ commandIf (p.settleDue .a) (.settleDeadline .a) ++ commandIf (p.settleDue .b) (.settleDeadline .b)
      ++ p.selfTestEvents

/-- A list in the order that a draw for each place names. -/
def shuffleFrom : Nat → Nat → List Instr → List Instr
  | 0, _, l => l
  | n + 1, draw, l =>
    let k := Config.eventOrder draw % l.length
    match l[k]? with
    | none => l
    | some i => i :: shuffleFrom n (draw + 1) (l.eraseIdx k)

/-- The events of one millisecond in a free order; one event has one order. -/
def inFreeOrder (draw : Nat) (l : List Instr) : List Instr :=
  match l with
  | [] => []
  | [i] => [i]
  | i :: j :: rest => shuffleFrom (rest.length + 2) draw (i :: j :: rest)

/-- The clock gains the millisecond, unless a slew gives it time by the period (R2, R13; log 5). -/
def HaltClock.tick (c : HaltClock) : HaltClock :=
  if c.pending = 0 then { c with reading := c.reading.advance 1 } else c

/-- A millisecond of line time (R1). -/
def Part.tickUp (p : Part) : Part :=
  if p.lineTime < 4294967295 then { p with lineTime := p.lineTime + 1, clock := p.clock.tick } else p

/-- A millisecond without line time: the clock alone gains it (R2). -/
def Part.tickDown (p : Part) : Part := { p with clock := { p.clock with reading := p.clock.reading.advance 1 } }

/-- A millisecond passes at the part. -/
def Part.tick (p : Part) : Part := if p.up then p.tickUp else p.tickDown

/-- A millisecond passes, and the events that came due wait in a free order (log 2). -/
def State.tick (s : State) : State :=
  let p := s.part.tick
  let due := p.events
  { part := { p with draws := p.draws + due.length }
    pending := s.pending ++ inFreeOrder p.draws due }

end Sys2Proof.Machine
end

