-- ==== Sys2Proof/Safety.lean ====
section
/-! DEFINITION. What every state of the part keeps: the laws that the manual states of its stores, as predicates that
Lean can decide. -/

namespace Sys2Proof.Machine

/-! ### The quota ledger (R110, R111) -/

/-- The counters on the right-hand side of the ledger's law. -/
def LedgerRecord.counters (r : LedgerRecord) : Nat :=
  r.held + r.reserved + r.lending + r.awaiting + r.lent + r.doubtful + r.sold + r.lapsed

/-- The law of a ledger record (R110), and how its counters follow its open grants (R111). -/
abbrev LedgerRecord.Balanced (r : LedgerRecord) : Prop :=
  r.share + r.received = r.counters ∧ r.share + r.received ≤ 99
    ∧ r.lending = placesOf (r.grants.filter GrantRecord.isLending)
    ∧ r.awaiting = placesOf (r.grants.filter GrantRecord.isAwaiting)
    ∧ placesOf (r.grants.filter GrantRecord.isDoubtful) ≤ r.doubtful
    ∧ r.grants.length ≤ 8

/-- The quota ledger: at most 32 records, at most one for a train, each balanced (R110). -/
abbrev QuotaUnit.Balanced (q : QuotaUnit) : Prop :=
  q.ledger.length ≤ 32 ∧ (q.ledger.map LedgerRecord.train).Nodup ∧ ∀ r ∈ q.ledger, r.Balanced

/-- The places reserved that the issue in flight holds for a train: none for any train but its own (R89, R116). -/
def Part.reservedFor (p : Part) (t : TrainKey) : Nat :=
  match p.sales.issueFor t with
  | none => 0
  | some i => i.reserved

/-- The issue in flight, its ledger record and the list's links agree: in self-test there is neither issue nor entry;
outside it each record's reserved places are those of the issue for its train (R116), the issue's train is sellable and
has a record, and so has the train of every linked entry (R29). -/
abbrev Part.ReservedAgrees (p : Part) : Prop :=
  (p.doze.state = .selfTest → p.sales.issue = none ∧ p.board.entries = [])
    ∧ (p.doze.state ≠ .selfTest →
      (∀ l ∈ p.quota.ledger, l.reserved = p.reservedFor l.train)
        ∧ (∀ i ∈ p.sales.issue, i.reserved ≤ i.needed
            ∧ ∃ k ∈ i.request.inputs.train, p.trainSellable k = true ∧ (p.quota.find k).isSome = true)
        ∧ ∀ e ∈ p.board.entries, e.linked = true → (p.quota.find e.train).isSome = true)

/-! ### The journal (R102, R104) -/

/-- The journal: at most 256 records, their numbers strictly increasing and below the next one (R102, R104). -/
abbrev SalesUnit.Ordered (s : SalesUnit) : Prop :=
  s.journal.length ≤ 256 ∧ (s.journal.map JournalRecord.number).Pairwise (· < ·)
    ∧ ∀ n ∈ s.nextNumber, n ≤ 4294967295 ∧ ∀ r ∈ s.journal, r.number < n

/-- The ticket numbers of the journal's SALE records. -/
def SalesUnit.tickets (s : SalesUnit) : List TicketNumber :=
  (s.journal.filterMap JournalRecord.sale?).map SaleFields.ticket

/-- A ticket was sold on the sales day in progress with a serial already used, or on an earlier one (R99). -/
abbrev TicketNumber.Used (t : TicketNumber) (salesDay : Option Nat) (nextSerial : Nat) : Prop :=
  (t.day = salesDay → t.serial < nextSerial) ∧ ∀ d ∈ t.day, ∃ now ∈ salesDay, d ≤ now

/-- No two SALE records carry one ticket number (R102), and none a number still to be given (R99). -/
abbrev Part.TicketsUnique (p : Part) : Prop :=
  p.sales.tickets.Nodup ∧ ∀ t ∈ p.sales.tickets, t.Used p.clock.salesDay p.sales.nextSerial

/-! ### The notice queue (R166 to R174) -/

/-- The notice queue: at most 64 notices, full while a gap is to be reported, the line low and no deadline while it
is empty. -/
abbrev NoticeQueue.Kept (q : NoticeQueue) : Prop :=
  q.entries.length ≤ 64 ∧ (0 < q.lostCount → q.entries.length = 64)
    ∧ (q.lostCount = 0 ↔ q.firstLost = none)
    ∧ (q.entries = [] → q.attention = false ∧ q.deadline = none)

/-- The attention line while the part dozes (R174). -/
abbrev Part.LowInDoze (p : Part) : Prop :=
  p.doze.state = .dozing → p.notices.attention = false ∧ p.notices.deadline = none

/-! ### The transmit store (R151, R152, R154) -/

/-- The transmit store: at most 24 used slots, at most 22 of them NORMAL or BULK, each told from the others, and the
chosen frame among them. -/
abbrev LineInterface.Kept (l : LineInterface) : Prop :=
  l.slots.length ≤ 24 ∧ l.used .normal + l.used .bulk ≤ 22 ∧ l.nextSeq < 256
    ∧ (l.slots.map Slot.id).Nodup ∧ (∀ s ∈ l.slots, s.id < l.nextFrame)
    ∧ ∀ f ∈ l.tx.chosen, f ∈ l.slots.map Slot.id

/-! ### The departure list and the page (R20, R47) -/

/-- The departure list: at most 32 entries, no two for one train (R20). -/
abbrev DepartureList.Kept (b : DepartureList) : Prop :=
  b.entries.length ≤ 32 ∧ (b.entries.map Entry.train).Nodup

/-! ### The halt clock (R2, R6, R11) -/

/-- A reading within its ranges (R2). -/
abbrev Reading.Valid (r : Reading) : Prop := r.day ≤ 65535 ∧ r.ms ≤ 86399999

/-- Stratum, source, deadlines and sales day agree (R3, R6, R8, R17), and the pending correction is in range (R11). -/
abbrev HaltClock.Agrees (c : HaltClock) : Prop :=
  c.reading.Valid ∧ (c.stratum ≤ 8 ∨ c.stratum = 15)
    ∧ (c.source.isSome = true ↔ 1 ≤ c.stratum ∧ c.stratum ≤ 7)
    ∧ c.sourceDeadline.isSome = c.source.isSome
    ∧ (c.referenceDeadline.isSome = true ↔ c.stratum = 0)
    ∧ (c.salesDay = none ↔ c.stratum = 15)
    ∧ -60000 ≤ c.pending ∧ c.pending ≤ 1000

/-! ### The peer table (R135) -/

/-- The peer table: a record for each node number, and the part's own ABSENT; before a start record every one is. -/
abbrev Part.PeersKept (p : Part) : Prop :=
  p.peers.records.map PeerRecord.node = [1, 2, 3, 4, 5, 6, 7, 8, 9, 10, 11, 12, 13, 14, 15]
    ∧ (p.port.record.isSome = p.awake)
    ∧ ∀ r ∈ p.peers.records, p.awake = false ∨ r.node = p.ownNode → r.state = .absent

/-- Everything above. -/
abbrev Part.Lawful (p : Part) : Prop :=
  p.quota.Balanced ∧ p.ReservedAgrees ∧ p.sales.Ordered ∧ p.TicketsUnique ∧ p.notices.Kept ∧ p.LowInDoze ∧ p.line.Kept
    ∧ p.board.Kept ∧ p.clock.Agrees ∧ p.PeersKept

end Sys2Proof.Machine
end

