-- ==== Sys2Proof/Certificates/Slice0/Obligations.lean ====
section
/-! DEFINITION. The statements for the provers, and the words they are written in. -/

namespace Sys2Proof.Machine

/-! ### Words of the statements -/

/-- The part is powered and not held in reset, in RUNNING, and holds no reply: a request reaches its owner. -/
abbrev Part.Attentive (p : Part) : Prop := p.up = true ∧ p.doze.state = .running ∧ p.port.reply = none

/-- The port after a taken request of a kind byte was answered so (R178, R179, R180). What the transfer shifted out
stands in a field of the model's own (log 27), and the taken count rises before the request is handled (log 32). -/
def Part.answered (p : Part) (kind : Nat) (result : ResultCode) (body : ReplyBody) : UnitPort :=
  { p.port with
    outcome := .taken
    taken := min (p.port.taken + 1) 65535
    reply := some ⟨kind, result, body⟩
    lastTransfer := some ⟨⟨p.doze.state, false, p.port.outcome⟩, none⟩ }

/-- The request that a request command carries in a complete frame. -/
def requestOf : Instr → Option Request
  | .start (.clean r) => some (.start r)
  | .restart (.clean _) => some .restart
  | .setTime (.clean r) => some (.setTime r)
  | .loadBegin (.clean r) => some (.loadBegin r)
  | .loadTrain (.clean r) => some (.loadTrain r)
  | .loadEnd (.clean _) => some .loadEnd
  | .loadAbort (.clean _) => some .loadAbort
  | .trainUpdate (.clean u) => some (.trainUpdate (some u))
  | .faresBegin (.clean n) => some (.faresBegin n)
  | .faresItem (.clean i) => some (.faresItem (some i))
  | .faresEnd (.clean _) => some .faresEnd
  | .faresAbort (.clean _) => some .faresAbort
  | .quote (.clean i) => some (.quote i)
  | .issue (.clean r) => some (.issue r)
  | .abortIssue (.clean _) => some .abortIssue
  | .void (.clean t) => some (.void t)
  | .readJournal (.clean n) => some (.readJournal n)
  | .releaseJournal (.clean n) => some (.releaseJournal n)
  | .takeNotices (.clean _) => some .takeNotices
  | .readPage (.clean _) => some .readPage
  | .readStatus (.clean r) => some (.readStatus r)
  | .clearFlags (.clean _) => some .clearFlags
  | .doze (.clean _) => some .doze
  | _ => none

/-- The bytes of a transfer that a request command carries as they came. -/
def transferOf : Instr → Option (List Byte)
  | .start (.raw b) | .restart (.raw b) | .setTime (.raw b) | .loadBegin (.raw b) | .loadTrain (.raw b)
  | .loadEnd (.raw b) | .loadAbort (.raw b) | .trainUpdate (.raw b) | .faresBegin (.raw b) | .faresItem (.raw b)
  | .faresEnd (.raw b) | .faresAbort (.raw b) | .quote (.raw b) | .issue (.raw b) | .abortIssue (.raw b)
  | .void (.raw b) | .readJournal (.raw b) | .releaseJournal (.raw b) | .takeNotices (.raw b) | .readPage (.raw b)
  | .readStatus (.raw b) | .clearFlags (.raw b) | .doze (.raw b) => some b
  | _ => none

/-- The bytes that a request command carries after the SEND marker 81, for the port to judge (R177). -/
def sentBytesOf (c : Instr) : Option (List Byte) :=
  match transferOf c with
  | some (first :: frame) => if first = 81#8 then some frame else none
  | _ => none

/-- The characters of a busy spell that a frame command carries, for the receiver to judge. -/
def heardCharsOf : Instr → Option (List LineChar)
  | .beacon (.raw c) | .train (.raw c) | .ask (.raw c) | .grant (.raw c) | .taken (.raw c) => some c
  | _ => none

/-- The complete frame that a frame command carries. -/
def frameOf : Instr → Option LineFrame
  | .beacon (.clean n q b) => some ⟨n, q, .beacon b⟩
  | .train (.clean n q u) => some ⟨n, q, .train u⟩
  | .ask (.clean n q a) => some ⟨n, q, .ask a⟩
  | .grant (.clean n q g) => some ⟨n, q, .grant g⟩
  | .taken (.clean n q k) => some ⟨n, q, .taken k⟩
  | _ => none

/-- The payload bytes of a request (12, Request payloads). -/
def Request.payload : Request → List Byte
  | .start r => r.bytes
  | .setTime r => r.bytes
  | .loadBegin r => r.bytes
  | .loadTrain r => r.bytes
  | .trainUpdate (some u) => u.bytes
  | .faresBegin edition => beBytes 2 edition
  | .faresItem (some i) => i.bytes
  | .quote i => i.bytes
  | .issue r => r.bytes
  | .void t => t.bytes
  | .readJournal first => beBytes 4 first
  | .releaseJournal number => beBytes 4 number
  | .readStatus r => r.bytes
  | .trainUpdate none | .faresItem none | .restart | .loadEnd | .loadAbort | .faresEnd | .faresAbort | .abortIssue
  | .takeNotices | .readPage | .clearFlags | .doze => []

/-- A code list has a place for each of its codes (12, Encodings). -/
abbrev listFits (l : List Nat) : Prop := l.length ≤ 8

/-- A request that its payload bytes can spell: every field fits its bytes, and a code list its 8 places. -/
def Request.Spellable (r : Request) : Prop :=
  r.fits = true ∧ r ≠ .trainUpdate none ∧ r ≠ .faresItem none
    ∧ (∀ t, r = .loadTrain t → listFits t.calling)
    ∧ (∀ u b, r = .trainUpdate (some u) → u.newTrain = some b → listFits b.calling)
    ∧ (∀ u, r = .trainUpdate (some u) → u.isNew = u.newTrain.isSome)
    ∧ (∀ c, r = .faresItem (some (.concession c)) → listFits c.products)

/-- The bytes of a SEND are no complete frame (R179): too few, a length byte above 120, or a check that disagrees. -/
def SpoiledBytes (bytes : List Byte) : Prop :=
  bytes.length < 2 ∨
    ∃ n ∈ bytes[1]?, 120 < n.toNat ∨ bytes.length < n.toNat + 4
      ∨ (bytes.drop (n.toNat + 2)).take 2 ≠ crcBytes (bytes.take (n.toNat + 2))

/-- A complete frame of any kind byte (R206). -/
def envelope (kind : Byte) (payload : List Byte) : List Byte :=
  let body := kind :: BitVec.ofNat 8 payload.length :: payload
  body ++ crcBytes body

/-- The retained store of `q` is that of `p` (R192). -/
def Part.KeepsStore (p q : Part) : Prop :=
  q.retained = p.retained ∧ q.clock.reading = p.clock.reading ∧ q.clock.salesDay = p.clock.salesDay
    ∧ q.clock.rolloverMinute = p.clock.rolloverMinute ∧ q.sales.journal = p.sales.journal
    ∧ q.sales.nextNumber = p.sales.nextNumber ∧ q.sales.totals = p.sales.totals
    ∧ q.sales.nextSerial = p.sales.nextSerial ∧ q.quota.ledger = p.quota.ledger ∧ q.quota.blind = p.quota.blind

/-- What a reset of a kind leaves of the rest (R1, R18, R45, R51, R58, R60, R85, R112, R134, R135, R161, R175, R178,
R199). The start of a slew period means nothing while no correction is pending. That the self-test result and the mark of a
warm or cold start are absent until self-test ends is the model's choice (log 40). -/
def Part.AfterReset (p q : Part) (kind : ResetKind) : Prop :=
  q.lineTime = 0 ∧ q.start = ⟨kind, none, none⟩ ∧ q.doze.state = .selfTest
    ∧ q.clock = { p.clock with
        stratum := if p.clock.salesDay.isSome then 8 else 15
        source := none
        sourceDeadline := none
        pending := 0
        periodStart := q.clock.periodStart
        referenceDeadline := none
        disagree := false
        lastEventMinute := none }
    ∧ q.board = DepartureList.reset ∧ q.page = PageBuilder.reset ∧ q.fares = FareCalculator.reset
    ∧ q.sales = { p.sales with issue := none, voidWindow := none, overrun := 0 }
    ∧ q.quota = { p.quota with
        watch := [], asks := [], ignoredGrants := 0, unmatchedTaken := 0, ledgerFull := 0, forgoneGrants := 0 }
    ∧ q.peers = PeerTable.reset ∧ q.line = LineInterface.reset
    ∧ q.notices = NoticeQueue.reset ∧ q.port = UnitPort.reset
    ∧ q.doze.keyA = KeyState.reset p.doze.keyA.inputLow ∧ q.doze.keyB = KeyState.reset p.doze.keyB.inputLow
    ∧ q.doze.dozeStart = none ∧ q.doze.dozeCount = 0 ∧ q.doze.lastWake = none

/-- The part once a complete frame has been taken and before its request is judged (R178, R179). What the transfer
shifted out stands in a field of the model's own (log 27), and the taken count rises first (log 32). -/
def Part.afterTaking (p : Part) : Part :=
  { p with port := { p.port with
      outcome := .taken
      taken := min (p.port.taken + 1) 65535
      lastTransfer := some ⟨⟨p.doze.state, false, p.port.outcome⟩, none⟩ } }

/-- The part after a wake (R57, R203): the WAKE notice stored while it still dozes, RUNNING, the last wake, the attention
line asserted, and with SHOWS the page rebuilt and its interval restarted. -/
def Part.awoken (p : Part) (c : WakeCause) : Part :=
  let length := (p.lineTime - p.doze.dozeStart.getD p.lineTime) / 1000
  let stored := p.notices.store p.doze.state p.holdOff p.lineTime
    (mkNotice .wake c.noticeCause none c.subject c.value length)
  let lit : NoticeQueue := { stored with attention := true }
  let up : Part := { p with
    doze := { p.doze with state := .running, dozeStart := none, lastWake := some ⟨c, length⟩ }
    notices := lit }
  match p.port.record with
  | none => up
  | some r =>
    if r.roles.shows = true then
      let shown := p.shownEntries r
      let count := pageCount r.rows shown.length
      let index := if p.page.index < count then p.page.index else 0
      let held : PageRecord :=
        ⟨index, count, decide (p.clock.stratum ≠ 15), (pageEntries r.rows index shown).map Entry.row⟩
      { up with
        page := { held, index, deadline := some (p.lineTime + r.pageInterval * 1000), shown := shown.length }
        notices := if held = p.page.held then lit
          else lit.store .running r.holdOff p.lineTime
            (mkNotice .page .none none (trainSubject (shown.head?.map Entry.train)) index count) }
    else up

/-- A DOZE is refused by the first of R200's checks that fails, with its reason. -/
def Part.DozeRefusedBy (p : Part) (code : ResultCode) (reason : DozeReason) (train : Option TrainKey) : Prop :=
  p.sales.issue.isSome ∧ code = .busy ∧ reason = .issue ∧ train = none
    ∨ p.sales.issue = none ∧ p.board.load.isSome ∧ code = .busy ∧ reason = .load ∧ train = none
    ∨ p.sales.issue = none ∧ p.board.load = none ∧ p.fares.transfer.isSome ∧ code = .busy ∧ reason = .fares
        ∧ train = none
    ∨ p.sales.issue = none ∧ p.board.load = none ∧ p.fares.transfer = none ∧ p.notices.wakeWaiting = true
        ∧ code = .wakePending ∧ reason = .notice ∧ train = none
    ∨ p.sales.issue = none ∧ p.board.load = none ∧ p.fares.transfer = none ∧ p.notices.wakeWaiting = false
        ∧ (∃ e, p.departureNear = some e ∧ train = some e.train) ∧ code = .wakePending ∧ reason = .departure

/-- A field of a start record differs from the one sent (R186); one marked absent does not. -/
def StartChanged (r : StartRequest) : StartField → Prop
  | .node => r.clamped.node ≠ r.node
  | .roles => r.clamped.roles ≠ r.roles
  | .sellerCount => r.clamped.sellerCount ≠ r.sellerCount
  | .sellerIndex => r.clamped.sellerIndex ≠ r.sellerIndex
  | .beaconPeriod => ∃ n ∈ r.beaconPeriod, r.clamped.beaconPeriod ≠ n
  | .refreshPeriod => ∃ n ∈ r.refreshPeriod, r.clamped.refreshPeriod ≠ n
  | .rolloverMinute => ∃ n ∈ r.rolloverMinute, r.clamped.rolloverMinute ≠ n
  | .holdOff => r.clamped.holdOff ≠ r.holdOff
  | .roundingStep => r.clamped.roundingStep ≠ r.roundingStep
  | .roundingMode => r.clamped.roundingMode.code ≠ r.roundingMode
  | .minimumFare => r.clamped.minimumFare ≠ r.minimumFare
  | .masks => r.clamped.masks ≠ r.masks
  | .rows => r.clamped.rows ≠ r.rows
  | .platformFilter => r.clamped.platformFilter ≠ r.platformFilter
  | .pageInterval => r.clamped.pageInterval ≠ r.pageInterval
  | .horizon => r.clamped.horizon ≠ r.horizon
  | .wakeLead => r.clamped.wakeLead ≠ r.wakeLead
  | .keyEnables => r.clamped.keyA ≠ r.keyA ∨ r.clamped.keyB ≠ r.keyB

/-- The frame that a reply is shifted out as: kind, result code, length, payload, check, the payload laid out where
12_frame_and_record_formats.md gives its layout (R180, R206). -/
def ReplyFrame (r : Reply) (bytes : List Byte) : Prop :=
  ∃ payload, (∀ l, r.body.bytes? = some l → payload = l) ∧ payload.length = r.payloadLength
    ∧ bytes = [BitVec.ofNat 8 r.kind, BitVec.ofNat 8 r.result.code, BitVec.ofNat 8 payload.length] ++ payload
        ++ crcBytes ([BitVec.ofNat 8 r.kind, BitVec.ofNat 8 r.result.code, BitVec.ofNat 8 payload.length] ++ payload)

/-- A value clamped to a range (R186): kept inside it, the nearer end outside it. -/
def ClampedTo (low high sent kept : Nat) : Prop :=
  low ≤ kept ∧ kept ≤ high ∧ (low ≤ sent → sent ≤ high → kept = sent) ∧ (sent < low → kept = low)
    ∧ (high < sent → kept = high)

/-- The order in which every byte of a list is no framing error. -/
def cleanChars (l : List Byte) : List LineChar := l.map (fun b => ⟨b, false⟩)

/-- The peer table passes a frame of a peer on to its owner (R136 to R139): the part acts on the halt, the sender is
another node, and the frame is no duplicate. -/
abbrev Part.Hears (p : Part) (sender seq : Nat) : Prop :=
  p.up = true ∧ p.awake = true ∧ 1 ≤ sender ∧ sender ≤ 15 ∧ seq ≤ 255 ∧ sender ≠ p.ownNode
    ∧ p.isDuplicate sender seq = false

/-- The commands of the halt line, the clock and the deadlines, and the keys: nothing from the unit processor, and no
change of supply or reset. -/
def ofTheHalt : Instr → Bool
  | .minuteEvent | .slewPeriod | .sourceDeadline | .referenceLapse | .refreshDeadline _ | .intervalDeadline | .askTime
  | .issueDeadline | .watchExpiry _ _ | .takenDeadline _ _ _ | .silentDeadline _ | .goneDeadline _ | .beaconDeadline
  | .holdOffDeadline | .keyInputChange _ _ | .settleDeadline _ | .lineBusy | .lineQuiet | .slotEnd | .sentWhole
  | .collision | .breakEnd | .badFrame | .malformedFrame | .beacon _ | .train _ | .ask _ | .grant _ | .taken _ => true
  | _ => false

end Sys2Proof.Machine

open Sys2Proof Sys2Proof.Machine

/-! ### The step -/

/-- The front command is taken with the queue's rest, and every command completes: exec answers a next state and
leaves the queue alone. -/
def Obligations.StepTakesTheFrontCommand : Prop :=
  ∀ (c : Instr) (s : State),
    step { s with pending := c :: s.pending } = exec c s ∧ ∃ p, exec c s = .next { s with part := p }

/-- With no command waiting a millisecond passes (R1, R2): line time and the clock gain it, except that a slew gives
the clock its time by the period (R13), and the events that came due wait in some order. Logs 1, 2 and 5. -/
def Obligations.MillisecondPasses : Prop :=
  ∀ s : State, s.pending = [] → s.part.clock.reading.Valid →
    ∃ t, step s = .next t
      ∧ t.part = { s.part with
          lineTime := t.part.lineTime, clock := { s.part.clock with reading := t.part.clock.reading },
          draws := t.part.draws }
      ∧ t.part.lineTime
          = (if s.part.up = true ∧ s.part.lineTime < 4294967295 then s.part.lineTime + 1 else s.part.lineTime)
      ∧ t.part.clock.reading.Valid
      ∧ t.part.clock.reading.toMs
          = (if s.part.up = true ∧ (s.part.clock.pending ≠ 0 ∨ 4294967295 ≤ s.part.lineTime)
              then s.part.clock.reading.toMs
              else min (s.part.clock.reading.toMs + 1) (65536 * 86400000 - 1))
      ∧ t.pending.Perm s.part.tick.events

/-! ### Encodings -/

/-- The receiver reads every good frame back from its characters, whatever characters follow it before the line is
quiet, and hands it on as one that came as a complete frame (R148, R149, R205; log 30). -/
def Obligations.FrameBytesAreHeard : Prop :=
  ∀ (f : LineFrame) (rest : List LineChar), f.ok = true →
    judgeSpell (cleanChars f.bytes ++ rest) = .good f
      ∧ ∀ p : Part, p.receiveChars (cleanChars f.bytes ++ rest) = p.receiveFrame f

/-- The port reads every request back from its bytes, whatever bytes follow it in the transfer: the request is handled
as one that came in a complete frame (R179, R181, R206; log 14). That a concession's discount takes one byte of a FARES
ITEM, with its product list from the fourth byte on, and that a product's QUOTA flag takes one, 0 for no and 1 for yes,
are the model's choices (log 34), and so are the day bytes of 0 that go with no train (log 42). -/
def Obligations.RequestBytesAreRead : Prop :=
  ∀ (p : Part) (r : Request) (rest : List Byte), r.Spellable →
    p.sendBytes (requestFrame r.kind r.payload ++ rest) = p.sendRequest r

/-- Two runs of bytes that differ in one byte have different checks (R205, R206). -/
def Obligations.ChangedByteFailsTheCheck : Prop :=
  ∀ (before after : List Byte) (a b : Byte), a ≠ b → crc (before ++ a :: after) ≠ crc (before ++ b :: after)

/-! ### What every step keeps -/

/-- The law of the quota ledger (R110, R111), and its bounds: kept by every step. Outside self-test, reserved is 0 on a
record unless the issue in flight names its train, and is then the issue's places reserved, within its places needed; such
an issue's train has a sellable entry and a record, and so has every linked entry a record (R29, R116): kept by every step
of a part whose ledger is balanced and whose list has one entry for a train. -/
def Obligations.LedgerStaysBalanced : Prop :=
  (∀ s t : State, s.part.quota.Balanced → step s = .next t → t.part.quota.Balanced)
  ∧ ∀ s t : State, s.part.quota.Balanced → s.part.board.Kept → s.part.ReservedAgrees → step s = .next t →
      t.part.ReservedAgrees

/-- The journal holds at most 256 records with strictly increasing numbers below the next one (R102, R104): kept by
every step. -/
def Obligations.JournalStaysInOrder : Prop :=
  ∀ s t : State, s.part.sales.Ordered → step s = .next t → t.part.sales.Ordered

/-- Stratum, source, deadlines and sales day of the clock agree (R2, R3, R6, R11, R17): kept by every step. -/
def Obligations.ClockStaysInAgreement : Prop :=
  ∀ s t : State, s.part.clock.Agrees → step s = .next t → t.part.clock.Agrees

/-- No two SALE records of the journal carry one ticket number (R99, R102): kept by every step, while the clock
agrees. -/
def Obligations.TicketNumbersStayUnique : Prop :=
  ∀ s t : State, s.part.clock.Agrees → s.part.TicketsUnique → step s = .next t → t.part.TicketsUnique

/-- The bounds of the notice queue (R166, R167, R172, R174), of the transmit store (R151, R152, R154) and of the
departure list (R20): each kept by every step. -/
def Obligations.StoresKeepTheirBounds : Prop :=
  ∀ s t : State, step s = .next t →
    (s.part.notices.Kept → s.part.LowInDoze → t.part.notices.Kept ∧ t.part.LowInDoze)
      ∧ (s.part.line.Kept → t.part.line.Kept)
      ∧ (s.part.board.Kept → t.part.board.Kept)

/-- The peer table has one record for each node number, and the part's own is never other than ABSENT (R135, R137):
kept by every step. -/
def Obligations.PeerTableStaysWhole : Prop :=
  ∀ s t : State, s.part.PeersKept → step s = .next t → t.part.PeersKept

/-- The state after reset meets every law the steps keep. -/
def Obligations.ResetMeetsTheLaws : Prop := State.reset.part.Lawful

/-- The sales day never decreases, and nothing but a cold start makes it unknown (R3). No command of the halt, and no
passing of time, sets a set clock back (R2). -/
def Obligations.TimeNeverRunsBack : Prop :=
  (∀ (c : Instr) (s t : State) (d : Nat), s.part.clock.Agrees → exec c s = .next t → s.part.clock.salesDay = some d →
      (∀ passes, c = .selfTestEnd passes → s.part.selfTesting = true → s.part.retained.good = true) →
      ∃ d', t.part.clock.salesDay = some d' ∧ d ≤ d')
  ∧ (∀ s t : State, s.part.clock.Agrees → s.part.clock.isSet = true →
      (s.pending = [] ∨ ∃ c ∈ s.pending.head?, ofTheHalt c = true) → step s = .next t →
      s.part.clock.reading.toMs ≤ t.part.clock.reading.toMs)

/-! ### The unit port -/

/-- While a reply is held every SEND is discarded whole: the outcome is PORT_BUSY, the reply stays, and nothing else
changes (R179) but the model's record of the transfer (log 27). -/
def Obligations.HeldReplyTurnsSendsAway : Prop :=
  ∀ (c : Instr) (s : State), (requestOf c).isSome ∨ (sentBytesOf c).isSome → s.part.up = true →
    s.part.port.reply.isSome →
    exec c s = .next { s with part := { s.part with port := { s.part.port with
      outcome := .portBusy
      portBusy := min (s.part.port.portBusy + 1) 65535
      lastTransfer := some ⟨⟨s.part.doze.state, true, s.part.port.outcome⟩, none⟩ } } }

/-- A SEND that is cut short, too long or fails its check gets a BAD_FRAME reply that carries the kind byte received,
or 0; it reaches no block and wakes nothing (R179). The transfer's record is the model's own (log 27). -/
def Obligations.SpoiledSendGetsBadFrame : Prop :=
  ∀ (c : Instr) (s : State) (bytes : List Byte), sentBytesOf c = some bytes → SpoiledBytes bytes → s.part.up = true →
    s.part.port.reply = none →
    exec c s = .next { s with part := { s.part with port := { s.part.port with
      outcome := .badFrame
      badFrame := min (s.part.port.badFrame + 1) 65535
      reply := some ⟨(bytes.head?.map BitVec.toNat).getD 0, .badFrame, .empty⟩
      lastTransfer := some ⟨⟨s.part.doze.state, false, s.part.port.outcome⟩, none⟩ } } }

/-- The requests that a part state does not take get its refusal and change nothing besides the port (R181, R183). A
complete frame of an unknown kind, or of a length that is not its kind's, is refused with BAD_REQUEST before any wake,
and with BUSY in SELF_TEST; bytes after the frame are ignored (R179, R181). -/
def Obligations.RequestsAreRefusedBeforeTheirOwner : Prop :=
  (∀ (c : Instr) (s : State) (r : Request) (code : ResultCode), requestOf c = some r → s.part.up = true →
      s.part.port.reply = none →
      (s.part.doze.state = .selfTest ∧ code = .busy
        ∨ r.fits = true ∧ s.part.doze.state = .waitingStart
            ∧ r.kind ∉ [.start, .restart, .setTime, .readStatus, .takeNotices] ∧ code = .notStarted
        ∨ r.fits = true ∧ s.part.doze.state = .running ∧ r.kind = .start ∧ code = .locked
        ∨ r.fits = true ∧ s.part.doze.state = .fault ∧ r.kind ∉ [.restart, .readStatus, .takeNotices]
            ∧ code = .fault) →
      exec c s = .next { s with part := { s.part with port := s.part.answered r.kind.code code .empty } })
  ∧ (∀ (c : Instr) (s : State) (kind : Byte) (payload rest : List Byte),
      sentBytesOf c = some (envelope kind payload ++ rest) → payload.length ≤ 120 → s.part.up = true →
      s.part.port.reply = none →
      (∀ k, RequestKind.ofCode kind.toNat = some k → payload.length ∉ k.lengths) →
      exec c s = .next { s with part := { s.part with
        port := s.part.answered kind.toNat (if s.part.doze.state = .selfTest then .busy else .badRequest) .empty } })

/-- FETCH (R177, R180, R206): after the port status an empty store shifts out the absent marker 0, and a held reply is
shifted out from its first byte; filler 255 follows either, and the reply is collected only if its last check byte was
reached. A transfer whose first byte is 82 is a FETCH, and one whose first byte is neither 81 nor 82 is a STATUS transfer,
which changes nothing. The record of what was shifted out is the model's own (log 27), and so is a payload whose layout
the manual leaves out (log 17); that the day bytes of a SALE record without a train are 0 is the model's choice (log 42). -/
def Obligations.FetchShiftsOutTheReply : Prop :=
  (∀ (n : Nat) (s : State), s.part.up = true →
    (s.part.port.reply = none →
      exec (.fetch n) s = .next { s with part := { s.part with port := { s.part.port with
        lastTransfer := some ⟨⟨s.part.doze.state, false, s.part.port.outcome⟩,
          some ((0#8 :: List.replicate (n - 1) 255#8).take n)⟩ } } })
    ∧ (∀ r, s.part.port.reply = some r →
      ∃ frame, ReplyFrame r frame
        ∧ exec (.fetch n) s = .next { s with part := { s.part with port := { s.part.port with
            lastTransfer := some ⟨⟨s.part.doze.state, true, s.part.port.outcome⟩,
              some (frame.take n ++ List.replicate (n - frame.length) 255#8)⟩
            reply := if 5 + r.payloadLength ≤ n then none else some r } } }))
  ∧ (∀ (c : Instr) (first : Byte) (rest : List Byte) (s : State), transferOf c = some (first :: rest) →
    s.part.up = true →
    (first = 82#8 → exec c s = exec (.fetch rest.length) s)
    ∧ (first ≠ 81#8 → first ≠ 82#8 →
      exec c s = .next { s with part := { s.part with port := { s.part.port with
        lastTransfer := some ⟨⟨s.part.doze.state, s.part.port.reply.isSome, s.part.port.outcome⟩, none⟩ } } }))

/-- In DOZING every request but READ STATUS and TAKE NOTICES first wakes the part, with the cause REQUEST: the WAKE
notice, RUNNING, the attention line and the page of R203. It is then judged from step 4 of R181 on the woken part, as a
request in RUNNING is on the part as it stands: START is refused with LOCKED, a DOZE is judged afresh by R200's checks, and
RESTART resets (R184, R189), with the self-test result and the warm or cold mark absent by the model's choice (log 40).
READ STATUS and TAKE NOTICES are judged without a wake. -/
def Obligations.DozingRequestWakesFirst : Prop :=
  (∀ (c : Instr) (s : State) (r : Request), requestOf c = some r → r.fits = true → s.part.up = true →
    s.part.port.reply = none → s.part.doze.state = .dozing → r.kind ≠ .readStatus → r.kind ≠ .takeNotices →
    let w := s.part.afterTaking.awoken (.request r.kind)
    exec c s = .next { s with part := w.judgeState r }
      ∧ (r.kind = .start →
        exec c s = .next { s with part := { w with port := { w.port with reply := some ⟨1, .locked, .empty⟩ } } })
      ∧ (r.kind = .doze →
        (∀ code reason train, w.DozeRefusedBy code reason train →
          exec c s = .next { s with part := { w with port := { w.port with
            reply := some ⟨23, code, .dozeReason reason train⟩ } } })
        ∧ (w.sales.issue = none → w.board.load = none → w.fares.transfer = none → w.notices.wakeWaiting = false →
          w.departureNear = none →
          exec c s = .next { s with part := { w with
            doze := { w.doze with
              state := .dozing, dozeStart := some w.lineTime, dozeCount := min (w.doze.dozeCount + 1) 65535 }
            notices := { w.notices with attention := false, deadline := none }
            page := { w.page with deadline := none }
            port := { w.port with reply := some ⟨23, .done, .empty⟩ } } }))
      ∧ (r.kind = .restart →
        ∃ t, exec c s = .next t ∧ t.pending = s.pending ∧ s.part.KeepsStore t.part
          ∧ s.part.AfterReset t.part .restart))
  ∧ (∀ (c : Instr) (s : State) (r : Request), requestOf c = some r → r.fits = true → s.part.up = true →
    s.part.port.reply = none →
    (s.part.doze.state = .running
      ∨ s.part.doze.state = .dozing ∧ (r.kind = .readStatus ∨ r.kind = .takeNotices)) →
    exec c s = .next { s with part := s.part.afterTaking.judgeState r })

/-! ### START and SET TIME -/

namespace Sys2Proof.Machine

/-- The KEY notices of an acceptance (R198): HELD, for each enabled key whose settled level is LOW, KEY A first. -/
def heldNotices (p : Part) (r : StartRequest) : List Notice :=
  ([Key.a, Key.b].filter (fun k => (match k with | .a => r.keyA | .b => r.keyB) && (p.doze.key k).settledLow)).map
    (fun k => { mkNotice .key (match k with | .a => .keyA | .b => .keyB) none .none 2 (p.doze.key k).presses with
      lineTime := p.lineTime })

end Sys2Proof.Machine

/-- START in WAITING_START. Accepted (R187, R198): RUNNING, the clamped record in force with its clamp set, the START
journal record under the next journal number, the rollover minute, the beacon deadline with a first beacon in an empty
store, with SHOWS the interval deadline; with the clock set one minute event of its minute, whatever the last one, after
the comparison of the sales day (R3, R4); and last the KEY HELD notices, stated for the empty departure list that every
start finds and a notice queue with room. That they stand behind every other notice of the acceptance is the model's choice
(log 11). Refused by the first check of R186 that fails: BAD_REQUEST with the field at
fault, nothing changed besides the port: node number 0, no role, a clamped seller index not below the clamped seller
count. -/
def Obligations.StartIsAcceptedOrNamesTheFault : Prop :=
  (∀ (r : StartRequest) (s : State), s.part.up = true → s.part.doze.state = .waitingStart → s.part.port.reply = none →
      r.fits = true → r.node ≠ 0 → (r.roles.sells ∨ r.roles.shows ∨ r.roles.uplink) →
      r.clamped.sellerIndex < r.clamped.sellerCount →
      ∃ t, exec (.start (.clean r)) s = .next t ∧ t.pending = s.pending
        ∧ t.part.doze.state = .running
        ∧ t.part.port = { s.part.answered 1 .done (.startDone r.clampSet r.clamped) with
            record := some r.clamped, clampSet := r.clampSet }
        ∧ t.part.clock.rolloverMinute = r.clamped.rolloverMinute
        ∧ (∀ n, s.part.sales.nextNumber = some n →
            ∃ j ∈ t.part.sales.journal, j.number = n
              ∧ j.body = .start s.part.start.kind (s.part.start.store.getD .cleared))
        ∧ t.part.peers = { s.part.peers with
            beaconDeadline := some (s.part.lineTime + r.clamped.beaconPeriod * 1000), skipped := t.part.peers.skipped }
        ∧ (s.part.line.slots = [] → t.part.peers.skipped = s.part.peers.skipped
            ∧ ∃ sl ∈ t.part.line.slots, sl.body = .beacon ∧ sl.cls = .normal ∧ sl.seq = s.part.line.nextSeq)
        ∧ (r.roles.shows = true → t.part.page.deadline = some (s.part.lineTime + r.clamped.pageInterval * 1000))
        ∧ t.part.fares = s.part.fares ∧ t.part.lineTime = s.part.lineTime ∧ t.part.start = s.part.start
        ∧ t.part.retained = s.part.retained ∧ t.part.supply = s.part.supply
        ∧ t.part.clock.reading = s.part.clock.reading ∧ t.part.clock.stratum = s.part.clock.stratum
        ∧ t.part.clock.lastEventMinute = (if s.part.clock.stratum = 15 then s.part.clock.lastEventMinute
            else some s.part.clock.reading.absMinute)
        ∧ (∀ d, s.part.clock.salesDay = some d → s.part.clock.stratum ≠ 15 →
            t.part.clock.salesDay
              = some (max d (computedSalesDay r.clamped.rolloverMinute s.part.clock.reading)))
        ∧ (s.part.board.entries = [] → s.part.notices.entries.length ≤ 50 →
            ∃ before, t.part.notices.entries = before ++ heldNotices s.part r))
  ∧ (∀ (r : StartRequest) (s : State) (f : StartField), s.part.up = true → s.part.doze.state = .waitingStart →
      s.part.port.reply = none → r.fits = true →
      (r.node = 0 ∧ f = .node
        ∨ r.node ≠ 0 ∧ r.roles = ⟨false, false, false⟩ ∧ f = .roles
        ∨ r.node ≠ 0 ∧ r.roles ≠ ⟨false, false, false⟩ ∧ r.clamped.sellerCount ≤ r.clamped.sellerIndex
            ∧ f = .sellerIndex) →
      exec (.start (.clean r)) s
        = .next { s with part := { s.part with port := s.part.answered 1 .badRequest (.startField f) } })

/-- Clamping (R185, R186): each number within its range is kept and another takes the nearer end, a rounding step takes
the greatest permitted value at or below it, or 1, and a field marked absent takes its default; the clamp set names
exactly the fields changed, so it is empty when nothing was out of range. -/
def Obligations.StartValuesAreClamped : Prop :=
  ∀ r : StartRequest,
    ClampedTo 1 15 r.node r.clamped.node ∧ r.clamped.roles = r.roles
      ∧ ClampedTo 1 15 r.sellerCount r.clamped.sellerCount ∧ ClampedTo 0 14 r.sellerIndex r.clamped.sellerIndex
      ∧ ClampedTo 1 8 (r.beaconPeriod.getD 2) r.clamped.beaconPeriod
      ∧ ClampedTo 30 240 (r.refreshPeriod.getD 60) r.clamped.refreshPeriod
      ∧ ClampedTo 0 1439 (r.rolloverMinute.getD 150) r.clamped.rolloverMinute
      ∧ ClampedTo 0 255 r.holdOff r.clamped.holdOff ∧ ClampedTo 0 99999 r.minimumFare r.clamped.minimumFare
      ∧ r.clamped.masks = r.masks ∧ ClampedTo 1 8 r.rows r.clamped.rows
      ∧ ClampedTo 0 4 r.platformFilter r.clamped.platformFilter
      ∧ ClampedTo 5 30 r.pageInterval r.clamped.pageInterval ∧ ClampedTo 10 720 r.horizon r.clamped.horizon
      ∧ ClampedTo 5 60 r.wakeLead r.clamped.wakeLead ∧ r.clamped.keyA = r.keyA ∧ r.clamped.keyB = r.keyB
      ∧ r.clamped.roundingStep ∈ [1, 5, 10, 20, 50, 100]
      ∧ (r.clamped.roundingStep ≤ r.roundingStep ∨ r.clamped.roundingStep = 1)
      ∧ (∀ v ∈ [1, 5, 10, 20, 50, 100], v ≤ r.roundingStep → v ≤ r.clamped.roundingStep)
      ∧ (r.roundingMode ≤ 2 → r.clamped.roundingMode.code = r.roundingMode)
      ∧ (2 < r.roundingMode → r.clamped.roundingMode = .halfUp)
      ∧ (r.clampSet = [] ↔
          r.clamped.node = r.node ∧ r.clamped.sellerCount = r.sellerCount ∧ r.clamped.sellerIndex = r.sellerIndex
            ∧ (∀ n ∈ r.beaconPeriod, r.clamped.beaconPeriod = n)
            ∧ (∀ n ∈ r.refreshPeriod, r.clamped.refreshPeriod = n)
            ∧ (∀ n ∈ r.rolloverMinute, r.clamped.rolloverMinute = n) ∧ r.clamped.holdOff = r.holdOff
            ∧ r.clamped.roundingStep = r.roundingStep ∧ r.clamped.roundingMode.code = r.roundingMode
            ∧ r.clamped.minimumFare = r.minimumFare ∧ r.clamped.rows = r.rows
            ∧ r.clamped.platformFilter = r.platformFilter ∧ r.clamped.pageInterval = r.pageInterval
            ∧ r.clamped.horizon = r.horizon ∧ r.clamped.wakeLead = r.wakeLead)
      ∧ (∀ f, f ∈ r.clampSet ↔ StartChanged r f)

/-- The first check of SET TIME that fails refuses it and changes nothing besides the port (R15); otherwise the clock
takes the reading, stratum 0 with a reference deadline or 8, and the sales day of it, and in RUNNING the minute event
of the new minute is produced (R3, R4, R16). -/
def Obligations.SetTimeIsCheckedAndTaken : Prop :=
  ∀ (r : SetTimeRequest) (s : State), s.part.up = true → s.part.port.reply = none → r.fits = true →
    (s.part.doze.state = .waitingStart ∨ s.part.doze.state = .running) →
    let day := computedSalesDay s.part.clock.rolloverMinute ⟨r.day, r.ms⟩
    (∀ code, (86399999 < r.ms ∧ code = .badRequest
        ∨ r.ms ≤ 86399999 ∧ r.reference = true ∧ s.part.roles.uplink = false ∧ code = .notRole
        ∨ r.ms ≤ 86399999 ∧ (r.reference = true → s.part.roles.uplink = true)
            ∧ (∃ held, s.part.clock.salesDay = some held ∧ day < held) ∧ code = .backwardDay) →
      exec (.setTime (.clean r)) s
        = .next { s with part := { s.part with port := s.part.answered 3 code .empty } })
    ∧ (r.ms ≤ 86399999 → (r.reference = true → s.part.roles.uplink = true) →
        (∀ held, s.part.clock.salesDay = some held → held ≤ day) →
        ∃ t, exec (.setTime (.clean r)) s = .next t ∧ t.pending = s.pending
          ∧ t.part.clock = { s.part.clock with
              reading := ⟨r.day, r.ms⟩
              pending := 0
              disagree := false
              source := none
              sourceDeadline := none
              stratum := if r.reference then 0 else 8
              referenceDeadline := if r.reference then some (s.part.lineTime + 900000) else none
              salesDay :=
                if s.part.clock.isSet = false then some day
                else if s.part.doze.state = .running then s.part.clock.salesDay.map (fun _ => day)
                else s.part.clock.salesDay
              lastEventMinute :=
                if s.part.doze.state = .running then some (r.day * 1440 + r.ms / 60000)
                else s.part.clock.lastEventMinute }
          ∧ t.part.port = s.part.answered 3 .done (.time t.part.clock.stratum t.part.clock.salesDay)
          ∧ t.part.fares = s.part.fares ∧ t.part.peers = s.part.peers ∧ t.part.lineTime = s.part.lineTime
          ∧ t.part.doze = s.part.doze ∧ t.part.retained = s.part.retained ∧ t.part.start = s.part.start)

/-! ### The timetable load and train updates -/

/-- LOAD BEGIN opens a transfer with its three counts at 0 (R27), LOAD END closes it and sets the timetable edition
(R30), LOAD ABORT closes it and leaves the edition (R31); each refusal changes nothing besides the port. -/
def Obligations.TimetableTransferOpensAndCloses : Prop :=
  ∀ s : State, s.part.Attentive →
    (∀ r : LoadBeginRequest, r.fits = true →
      (1 ≤ r.count → r.count ≤ 32 → s.part.board.load = none →
        exec (.loadBegin (.clean r)) s = .next { s with part := { s.part with
          board := { s.part.board with load := some ⟨r.edition, r.count, 0, 0, 0⟩ }
          port := s.part.answered 4 .done .empty } })
      ∧ ((r.count = 0 ∨ 32 < r.count) →
        exec (.loadBegin (.clean r)) s
          = .next { s with part := { s.part with port := s.part.answered 4 .badRequest .empty } })
      ∧ (1 ≤ r.count → r.count ≤ 32 → s.part.board.load.isSome →
        exec (.loadBegin (.clean r)) s
          = .next { s with part := { s.part with port := s.part.answered 4 .busy .empty } }))
    ∧ (s.part.board.load = none →
      exec (.loadEnd (.clean ())) s
          = .next { s with part := { s.part with port := s.part.answered 6 .noTransfer .empty } }
        ∧ exec (.loadAbort (.clean ())) s
          = .next { s with part := { s.part with port := s.part.answered 7 .noTransfer .empty } })
    ∧ (∀ l, s.part.board.load = some l →
      (l.taken + l.kept + l.refused < l.declared →
        exec (.loadEnd (.clean ())) s = .next { s with part := { s.part with
          port := s.part.answered 6 .shortLoad (.loadCounts l.taken l.kept l.refused) } })
      ∧ (l.declared ≤ l.taken + l.kept + l.refused →
        exec (.loadEnd (.clean ())) s = .next { s with part := { s.part with
          board := { s.part.board with load := none, edition := l.edition }
          port := s.part.answered 6 .done (.loadEnd l.edition l.taken l.kept l.refused) } })
      ∧ exec (.loadAbort (.clean ())) s = .next { s with part := { s.part with
          board := { s.part.board with load := none }
          port := s.part.answered 7 .done (.loadCounts l.taken l.kept l.refused) } })

/-- LOAD TRAIN (R28, R29, R113): with no transfer open it is refused with NO_TRANSFER, and beyond the declared count
with BAD_REQUEST, with nothing counted; a record in range for a new train with room is taken, its entry LISTED, serial 0,
with its link and its state judged at the clock's minute; a record out of range, or with the list full, is refused and
counted; a record for a train on the list is counted kept. -/
def Obligations.LoadTrainJudgesTheRecord : Prop :=
  (∀ (r : TrainRecord) (s : State), s.part.Attentive → r.fits = true →
    (s.part.board.load = none →
      exec (.loadTrain (.clean r)) s
        = .next { s with part := { s.part with port := s.part.answered 5 .noTransfer .empty } })
    ∧ (∀ l, s.part.board.load = some l → l.taken + l.kept + l.refused = l.declared →
      exec (.loadTrain (.clean r)) s
        = .next { s with part := { s.part with port := s.part.answered 5 .badRequest .empty } }))
  ∧ ∀ (r : TrainRecord) (l : LoadTransfer) (s : State), s.part.Attentive → r.fits = true →
    s.part.board.load = some l → l.taken + l.kept + l.refused ≠ l.declared →
    (r.inRange = false →
      exec (.loadTrain (.clean r)) s = .next { s with part := { s.part with
        board := { s.part.board with load := some { l with refused := l.refused + 1 } }
        port := s.part.answered 5 .badRequest .empty } })
    ∧ (r.inRange = true → (s.part.board.find r.train).isSome →
      exec (.loadTrain (.clean r)) s = .next { s with part := { s.part with
        board := { s.part.board with load := some { l with kept := l.kept + 1 } }
        port := s.part.answered 5 .done (.loadMark .kept) } })
    ∧ (r.inRange = true → s.part.board.find r.train = none → 32 ≤ s.part.board.entries.length →
      exec (.loadTrain (.clean r)) s = .next { s with part := { s.part with
        board := { s.part.board with load := some { l with refused := l.refused + 1 } }
        port := s.part.answered 5 .listFull .empty } })
    ∧ (r.inRange = true → s.part.board.find r.train = none → s.part.board.entries.length < 32 →
      ∃ t e, exec (.loadTrain (.clean r)) s = .next t ∧ t.pending = s.pending
        ∧ t.part.board = { s.part.board with
            load := some { l with taken := l.taken + 1 }, entries := s.part.board.entries ++ [e] }
        ∧ t.part.port = s.part.answered 5 .done (.loadMark .taken)
        ∧ e = { train := r.train, destination := r.destination, scheduled := r.scheduled, estimate := .onTime,
                expected := none, platform := r.platform, platformChanged := false, calling := r.calling, serial := 0,
                clamped := false, quotaTotal := r.quotaTotal, linked := e.linked, refreshDeadline := none,
                frame := none, state := e.state }
        ∧ e.state = (match s.part.clock.now? with
            | none => .listed
            | some now =>
              if absTrainMinute r.train r.scheduled + 3 ≤ now then .gone
              else if absTrainMinute r.train r.scheduled ≤ now + 2 then .due
              else .listed)
        ∧ e.linked = decide (r.quotaTotal ≠ 0 ∧
            ((s.part.quota.find r.train).isSome ∨ s.part.quota.ledger.length < 32))
        ∧ (e.state ≠ .gone → r.quotaTotal ≠ 0 → s.part.quota.find r.train = none →
            s.part.quota.ledger.length < 32 →
            t.part.quota = { s.part.quota with ledger := s.part.quota.ledger ++
              [LedgerRecord.fresh r.train r.quotaTotal (s.part.newShare r.quotaTotal)] })
        ∧ (r.quotaTotal = 0 → s.part.quota.find r.train = none → t.part.quota = s.part.quota)
        ∧ t.part.fares = s.part.fares ∧ t.part.clock = s.part.clock ∧ t.part.peers = s.part.peers
        ∧ t.part.doze = s.part.doze ∧ t.part.lineTime = s.part.lineTime)

namespace Sys2Proof.Machine

/-- What a newer update makes of an entry's fields (R34): an expected minute clamped to 10 before and 720 after the
scheduled minute, a platform of 0 keeps the old one, and the fields of the train itself stay. -/
def EntryTakesUpdate (u : Update) (e e' : Entry) : Prop :=
  e'.train = e.train ∧ e'.destination = e.destination ∧ e'.scheduled = e.scheduled ∧ e'.calling = e.calling
    ∧ e'.quotaTotal = e.quotaTotal ∧ e'.linked = e.linked
    ∧ e'.serial = u.serial ∧ e'.estimate = u.estimate
    ∧ e'.platform = (if u.platform = 0 then e.platform else u.platform)
    ∧ e'.platformChanged = (e.platformChanged || decide (u.platform ≠ 0 ∧ u.platform ≠ e.platform))
    ∧ (u.estimate ≠ .expected → e'.expected = none ∧ e'.clamped = false)
    ∧ (∀ m, u.estimate = .expected → u.expected = some m →
        e'.expected = some (max (e.scheduled - 10) (min m (min (e.scheduled + 720) 1799)))
          ∧ e'.clamped = decide (e'.expected ≠ some m))

/-- The state an update leaves an entry in (R23, R24, R34): CANCELLED by a CANCELLED update, LISTED again out of
CANCELLED, and then judged at the clock's minute while the clock is set. -/
def stateAfterUpdate (now : Option Nat) (before : EntryState) (e' : Entry) : EntryState :=
  let moved : EntryState :=
    if e'.estimate = .cancelled then .cancelled else if before = .cancelled then .listed else before
  match now with
  | none => moved
  | some n => { e' with state := moved }.judged n

/-- The entry that a NEW update brings for a train without one (R34, R38): its fields, and its state as evaluated. -/
def CreatedBy (u : Update) (b : NewTrain) (now : Option Nat) (e : Entry) : Prop :=
  e.train = u.train ∧ e.destination = b.destination ∧ e.scheduled = b.scheduled ∧ e.calling = b.calling
    ∧ e.quotaTotal = b.quotaTotal ∧ e.serial = u.serial ∧ e.estimate = u.estimate ∧ e.platform = u.platform
    ∧ e.platformChanged = false
    ∧ (u.estimate ≠ .expected → e.expected = none ∧ e.clamped = false)
    ∧ (∀ m, u.estimate = .expected → u.expected = some m →
        e.expected = some (max (b.scheduled - 10) (min m (min (b.scheduled + 720) 1799)))
          ∧ e.clamped = decide (e.expected ≠ some m))
    ∧ e.state = stateAfterUpdate now .listed e

/-- An update's train has no entry, and the update may create one: its block is there, its service day is not before a
known sales day, and the list has room (R38, R39). -/
def Part.MayCreate (p : Part) (u : Update) (b : NewTrain) : Prop :=
  p.board.find u.train = none ∧ u.newTrain = some b ∧ (∀ d, p.clock.salesDay = some d → d ≤ u.train.day)
    ∧ p.board.entries.length < 32

/-- An update's train has no entry and gets none, for want of a block or for its past service day (R38, R39). -/
def Part.NoEntryFor (p : Part) (u : Update) : Prop :=
  p.board.find u.train = none
    ∧ (u.newTrain = none ∨ ∃ d, p.clock.salesDay = some d ∧ u.train.day < d)

end Sys2Proof.Machine

namespace Sys2Proof.Machine

/-- The entry that a full list displaces (R38): of those GONE or CANCELLED the one with the smallest absolute scheduled
minute, then the lowest train id, then the earliest service day. -/
def DisplacedFrom (entries : List Entry) (d : Entry) : Prop :=
  d ∈ entries ∧ (d.state = .gone ∨ d.state = .cancelled)
    ∧ ∀ x ∈ entries, x.state = .gone ∨ x.state = .cancelled →
        d.absScheduled < x.absScheduled
          ∨ d.absScheduled = x.absScheduled
              ∧ (d.train.id < x.train.id ∨ d.train.id = x.train.id ∧ d.train.day ≤ x.train.day)

/-- An update would create an entry, and the list is full (R38). -/
def Part.MeetsFullList (p : Part) (u : Update) (b : NewTrain) : Prop :=
  p.board.find u.train = none ∧ u.newTrain = some b ∧ (∀ d, p.clock.salesDay = some d → d ≤ u.train.day)
    ∧ 32 ≤ p.board.entries.length

/-- A list after an entry made room in it for another train's (R38). -/
def MadeRoom (b b' : DepartureList) (d : Entry) (k : TrainKey) : Prop :=
  b'.entries.length = b.entries.length ∧ b'.find d.train = none
    ∧ ∀ j, j ≠ k → j ≠ d.train → b'.find j = b.find j

end Sys2Proof.Machine

/-- A TRAIN UPDATE newer than its entry is applied (R33, R34, R35, R40): the entry's fields and state, its refresh
deadline, its frame in the NORMAL queue when the store has room, and no other entry changed. A NEW one for a train
without an entry creates it; in a full list it displaces a GONE or CANCELLED entry, and with none it is dropped with
LIST_FULL, the full count raised and FULL posted (R38). One with the entry's serial restarts the refresh deadline and is
refused with STALE, its frames left alone (R36; log 36). Without UPLINK it is refused with NOT_ROLE, ill-formed with
BAD_REQUEST, and with STALE when it is older than the entry or brings no entry for its train (R32, R37, R39). -/
def Obligations.TrainUpdateIsApplied : Prop :=
  (∀ (u : Update) (s : State) code, s.part.Attentive → u.fits = true →
    (s.part.roles.uplink = false ∧ code = .notRole
      ∨ s.part.roles.uplink = true ∧ u.ok = false ∧ code = .badRequest
      ∨ s.part.roles.uplink = true ∧ u.ok = true ∧ code = .stale
          ∧ (s.part.NoEntryFor u ∨ ∃ e, s.part.board.find u.train = some e ∧ u.serial < e.serial)) →
    exec (.trainUpdate (.clean u)) s
      = .next { s with part := { s.part with port := s.part.answered 8 code .empty } })
  ∧ (∀ (u : Update) (b : NewTrain) (s : State), s.part.Attentive → s.part.roles.uplink = true → u.fits = true →
    u.ok = true → s.part.MayCreate u b →
    ∃ t e queued, exec (.trainUpdate (.clean u)) s = .next t ∧ t.pending = s.pending
      ∧ t.part.board.find u.train = some e ∧ CreatedBy u b s.part.clock.now? e
      ∧ e.refreshDeadline = (if e.state = .gone then none else some (s.part.lineTime + s.part.refreshMs))
      ∧ t.part.board.entries.length = s.part.board.entries.length + 1
      ∧ t.part.port = s.part.answered 8 .done (.update e.state e.clamped queued)
      ∧ (s.part.line.hasRoom .normal = true → queued = true)
      ∧ (∀ k, k ≠ u.train → t.part.board.find k = s.part.board.find k)
      ∧ t.part.clock = s.part.clock ∧ t.part.peers = s.part.peers ∧ t.part.doze = s.part.doze)
  ∧ (∀ (u : Update) (b : NewTrain) (s : State), s.part.Attentive → s.part.roles.uplink = true → u.fits = true →
    u.ok = true → s.part.MeetsFullList u b →
    ((∀ x ∈ s.part.board.entries, x.state = .listed ∨ x.state = .due) →
      let full := min (s.part.board.fullCount + 1) 65535
      exec (.trainUpdate (.clean u)) s = .next { s with part := { s.part with
        board := { s.part.board with fullCount := full }
        notices := s.part.notices.store .running s.part.holdOff s.part.lineTime
          (mkNotice .board .full none (.train u.train) u.serial full)
        port := s.part.answered 8 .listFull .empty } })
    ∧ (∀ d, (s.part.board.entries.map Entry.train).Nodup → DisplacedFrom s.part.board.entries d →
      ∃ t e queued, exec (.trainUpdate (.clean u)) s = .next t ∧ t.pending = s.pending
        ∧ t.part.board.find u.train = some e ∧ CreatedBy u b s.part.clock.now? e
        ∧ MadeRoom s.part.board t.part.board d u.train
        ∧ t.part.board.fullCount = s.part.board.fullCount
        ∧ t.part.port = s.part.answered 8 .done (.update e.state e.clamped queued)
        ∧ (s.part.notices.entries.length ≤ 50 →
            ∃ n ∈ t.part.notices.entries, n.kind = .board ∧ n.cause = .created ∧ n.source = none
              ∧ n.subject = .train u.train ∧ n.first = u.serial ∧ n.second = d.train.id)
        ∧ t.part.clock = s.part.clock ∧ t.part.peers = s.part.peers ∧ t.part.doze = s.part.doze))
  ∧ (∀ (u : Update) (e : Entry) (s : State), s.part.Attentive → s.part.roles.uplink = true → u.fits = true →
    u.ok = true → s.part.board.find u.train = some e → e.serial = u.serial →
    exec (.trainUpdate (.clean u)) s = .next { s with part := { s.part with
      board := s.part.board.modify u.train (fun x =>
        if x.state = .gone then x else { x with refreshDeadline := some (s.part.lineTime + s.part.refreshMs) })
      port := s.part.answered 8 .stale .empty } })
  ∧ ∀ (u : Update) (e : Entry) (s : State), s.part.Attentive → s.part.roles.uplink = true → u.fits = true →
    u.ok = true → s.part.board.find u.train = some e → e.serial < u.serial → e.scheduled ≤ 1799 →
    ∃ t e' queued, exec (.trainUpdate (.clean u)) s = .next t ∧ t.pending = s.pending
      ∧ t.part.board.find u.train = some e' ∧ EntryTakesUpdate u e e'
      ∧ e'.state = stateAfterUpdate s.part.clock.now? e.state e'
      ∧ e'.refreshDeadline
          = (if e'.state = .gone then e'.refreshDeadline else some (s.part.lineTime + s.part.refreshMs))
      ∧ t.part.port = s.part.answered 8 .done (.update e'.state e'.clamped queued)
      ∧ (s.part.line.hasRoom .normal = true → queued = true)
      ∧ (queued = true →
          (∀ l ∈ s.part.quota.ledger, ∀ g ∈ l.grants, g.state ≠ .lending s.part.line.nextFrame) →
          ∃ sl ∈ t.part.line.slots, sl.cls = .normal ∧ sl.body = .train (e'.frameUpdate false))
      ∧ (∀ k, k ≠ u.train → t.part.board.find k = s.part.board.find k)
      ∧ t.part.board.load = s.part.board.load ∧ t.part.board.edition = s.part.board.edition
      ∧ t.part.clock = s.part.clock ∧ t.part.peers = s.part.peers ∧ t.part.doze = s.part.doze
      ∧ t.part.lineTime = s.part.lineTime

/-- A TRAIN frame of a peer is compared with its entry by serial (R33 to R37, R138, R139): newer, it is applied; equal,
it restarts the refresh deadline and leaves the fields; older, it raises the stale count and leaves the entry's fields,
queueing a correction for an entry that is not GONE, has no frame in the store, and finds room. For a train without an
entry it creates one, in a full list in the place of a GONE or CANCELLED one or else with the full count raised and FULL
posted, or is counted unknown (R38, R39). -/
def Obligations.TrainFrameIsComparedBySerial : Prop :=
  (∀ (sender seq : Nat) (u : Update) (s : State), s.part.Hears sender seq → u.ok = true →
    (∀ b, s.part.MayCreate u b →
      ∃ t e, exec (.train (.clean sender seq u)) s = .next t ∧ t.pending = s.pending
        ∧ t.part.board.find u.train = some e ∧ CreatedBy u b s.part.clock.now? e
        ∧ e.refreshDeadline = (if e.state = .gone then none else some (s.part.lineTime + s.part.refreshMs))
        ∧ t.part.board.entries.length = s.part.board.entries.length + 1
        ∧ (∀ k, k ≠ u.train → t.part.board.find k = s.part.board.find k)
        ∧ t.part.clock = s.part.clock ∧ t.part.port = s.part.port)
    ∧ (s.part.NoEntryFor u →
      ∃ t, exec (.train (.clean sender seq u)) s = .next t ∧ t.pending = s.pending
        ∧ t.part.board = { s.part.board with unknownCount := min (s.part.board.unknownCount + 1) 65535 }
        ∧ t.part.quota = s.part.quota ∧ t.part.line = s.part.line ∧ t.part.clock = s.part.clock)
    ∧ (∀ b, s.part.MeetsFullList u b →
      ((∀ x ∈ s.part.board.entries, x.state = .listed ∨ x.state = .due) →
        ∃ t, exec (.train (.clean sender seq u)) s = .next t ∧ t.pending = s.pending
          ∧ t.part.board = { s.part.board with fullCount := min (s.part.board.fullCount + 1) 65535 }
          ∧ (s.part.notices.entries.length ≤ 60 →
              ∃ n ∈ t.part.notices.entries, n.kind = .board ∧ n.cause = .full ∧ n.source = some sender
                ∧ n.subject = .train u.train ∧ n.first = u.serial ∧ n.second = t.part.board.fullCount)
          ∧ t.part.quota = s.part.quota ∧ t.part.line = s.part.line ∧ t.part.clock = s.part.clock)
      ∧ (∀ d, (s.part.board.entries.map Entry.train).Nodup → DisplacedFrom s.part.board.entries d →
        ∃ t e, exec (.train (.clean sender seq u)) s = .next t ∧ t.pending = s.pending
          ∧ t.part.board.find u.train = some e ∧ CreatedBy u b s.part.clock.now? e
          ∧ MadeRoom s.part.board t.part.board d u.train
          ∧ t.part.board.fullCount = s.part.board.fullCount
          ∧ t.part.clock = s.part.clock ∧ t.part.port = s.part.port)))
  ∧ ∀ (sender seq : Nat) (u : Update) (e : Entry) (s : State), s.part.Hears sender seq → u.ok = true →
    s.part.board.find u.train = some e → e.scheduled ≤ 1799 →
    ∃ t e', exec (.train (.clean sender seq u)) s = .next t ∧ t.pending = s.pending
      ∧ t.part.board.find u.train = some e'
      ∧ (e.serial < u.serial →
          EntryTakesUpdate u e e' ∧ e'.state = stateAfterUpdate s.part.clock.now? e.state e'
            ∧ (e'.state ≠ .gone → e'.refreshDeadline = some (s.part.lineTime + s.part.refreshMs)))
      ∧ (e.serial = u.serial →
          e' = { e with frame := e'.frame, refreshDeadline :=
            if e.state = .gone then e.refreshDeadline else some (s.part.lineTime + s.part.refreshMs) })
      ∧ (u.serial < e.serial →
          e' = { e with frame := e'.frame }
            ∧ t.part.board.staleCount = min (s.part.board.staleCount + 1) 65535
            ∧ (e.state ≠ .gone → e.frame = none → s.part.line.hasRoom .normal = true →
                e'.frame = some ⟨.correction, s.part.line.nextFrame⟩
                  ∧ ∃ sl ∈ t.part.line.slots, sl.id = s.part.line.nextFrame ∧ sl.seq = s.part.line.nextSeq
                      ∧ sl.cls = .normal ∧ sl.body = .train (e.frameUpdate false)))
      ∧ (∀ k, k ≠ u.train → t.part.board.find k = s.part.board.find k)
      ∧ t.part.board.load = s.part.board.load ∧ t.part.board.edition = s.part.board.edition
      ∧ t.part.fares = s.part.fares ∧ t.part.clock = s.part.clock ∧ t.part.port = s.part.port

/-! ### Fares -/

/-- The fare load (R65 to R68): FARES BEGIN opens a transfer with an empty staged set, FARES ITEM stages one record,
FARES END makes the staged set the active tables whole, FARES ABORT discards it; each out of place is refused. A staged
record stands once under its code, or its start minute, and leaves every other record as it was; the bands stay in
ascending order (R60 to R64, R66). -/
def Obligations.FareTransferStagesAndReplaces : Prop :=
  (∀ s : State, s.part.Attentive →
      (∀ n, n ≤ 65535 → s.part.fares.transfer = none → s.part.sales.issue = none →
        exec (.faresBegin (.clean n)) s = .next { s with part := { s.part with
          fares := { s.part.fares with transfer := some ⟨n, ⟨[], [], [], []⟩⟩ }
          port := s.part.answered 9 .done .empty } })
      ∧ (∀ n, n ≤ 65535 → s.part.fares.transfer.isSome ∨ s.part.sales.issue.isSome →
        exec (.faresBegin (.clean n)) s
          = .next { s with part := { s.part with port := s.part.answered 9 .busy .empty } })
      ∧ (s.part.fares.transfer = none →
        (∀ i : FareItem, i.fits = true → exec (.faresItem (.clean i)) s
          = .next { s with part := { s.part with port := s.part.answered 10 .noTransfer .empty } })
        ∧ exec (.faresEnd (.clean ())) s
          = .next { s with part := { s.part with port := s.part.answered 11 .noTransfer .empty } }
        ∧ exec (.faresAbort (.clean ())) s
          = .next { s with part := { s.part with port := s.part.answered 12 .noTransfer .empty } })
      ∧ (∀ x, s.part.fares.transfer = some x →
        (∀ i : FareItem, i.fits = true →
          (i.inRange = false → exec (.faresItem (.clean i)) s
            = .next { s with part := { s.part with port := s.part.answered 10 .badRequest .empty } })
          ∧ (∀ b, i = .band b → i.inRange = true → (∀ y ∈ x.staged.bands, y.start ≠ b.start) →
              4 ≤ x.staged.bands.length → exec (.faresItem (.clean i)) s
                = .next { s with part := { s.part with port := s.part.answered 10 .tableFull .empty } })
          ∧ (i.inRange = true → (∀ b, i = .band b → x.staged.bands.length < 4 ∨ ∃ y ∈ x.staged.bands, y.start = b.start) →
              exec (.faresItem (.clean i)) s = .next { s with part := { s.part with
                fares := { s.part.fares with transfer := some { x with staged := x.staged.put i } }
                port := s.part.answered 10 .done
                  (.staged (if x.staged.holds i then .replaced else .added) (x.staged.put i).counts) } }))
        ∧ exec (.faresEnd (.clean ())) s = .next { s with part := { s.part with
            fares := { s.part.fares with active := some x.staged, edition := x.edition, transfer := none }
            port := s.part.answered 11 .done (.faresEnd x.edition x.staged.counts) } }
        ∧ exec (.faresAbort (.clean ())) s = .next { s with part := { s.part with
            fares := { s.part.fares with transfer := none }
            port := s.part.answered 12 .done (.stagedCounts x.staged.counts) } }))
  ∧ (∀ (x : TableSet) (i : FareItem), x.bands.Pairwise (fun a b => a.start < b.start) →
      (x.put i).bands.Pairwise (fun a b => a.start < b.start)
        ∧ (∀ r, i = .destination r →
            (∀ y, y ∈ (x.put i).destinations ↔ y = r ∨ (y ∈ x.destinations ∧ y.code ≠ r.code))
              ∧ ((x.destinations.map DestinationRecord.code).Nodup →
                  ((x.put i).destinations.map DestinationRecord.code).Nodup)
              ∧ (x.put i).products = x.products ∧ (x.put i).concessions = x.concessions ∧ (x.put i).bands = x.bands)
        ∧ (∀ r, i = .product r →
            (∀ y, y ∈ (x.put i).products ↔ y = r ∨ (y ∈ x.products ∧ y.code ≠ r.code))
              ∧ ((x.products.map ProductRecord.code).Nodup → ((x.put i).products.map ProductRecord.code).Nodup)
              ∧ (x.put i).destinations = x.destinations ∧ (x.put i).concessions = x.concessions
              ∧ (x.put i).bands = x.bands)
        ∧ (∀ r, i = .concession r →
            (∀ y, y ∈ (x.put i).concessions ↔ y = r ∨ (y ∈ x.concessions ∧ y.code ≠ r.code))
              ∧ ((x.concessions.map ConcessionRecord.code).Nodup →
                  ((x.put i).concessions.map ConcessionRecord.code).Nodup)
              ∧ (x.put i).destinations = x.destinations ∧ (x.put i).products = x.products
              ∧ (x.put i).bands = x.bands)
        ∧ (∀ r, i = .band r →
            (∀ y, y ∈ (x.put i).bands ↔ y = r ∨ (y ∈ x.bands ∧ y.start ≠ r.start))
              ∧ (x.put i).destinations = x.destinations ∧ (x.put i).products = x.products
              ∧ (x.put i).concessions = x.concessions))

/-- CLEAR FLAGS answers DONE with the sticky fare flags as they stood, and empties them (R83). -/
def Obligations.ClearFlagsReportsAndEmpties : Prop :=
  ∀ s : State, s.part.Attentive →
    exec (.clearFlags (.clean ())) s = .next { s with part := { s.part with
      fares := { s.part.fares with sticky := ⟨false, false, false, false, false, false, false, false⟩ }
      port := s.part.answered 22 .done (.flags s.part.fares.sticky) } }

/-- Stage 5 (R78): the rounded amount is a whole multiple of the step next to the exact total N / 10^11, the nearest
for HALF_UP with a half going up, the one below for DOWN and the one above for UP; INEXACT tells a remainder and
ROUNDED_UP an amount above the exact total. -/
def Obligations.RoundingTakesTheStep : Prop :=
  ∀ (step n : Nat), 0 < step →
    let u := step * 100000000000
    (∀ mode, step ∣ (roundFare mode step n).1
      ∧ ((roundFare mode step n).2.1 = true ↔ ¬ u ∣ n)
      ∧ ((roundFare mode step n).2.2 = true ↔ n < (roundFare mode step n).1 * 100000000000))
    ∧ ((roundFare .down step n).1 * 100000000000 ≤ n ∧ n < (roundFare .down step n).1 * 100000000000 + u)
    ∧ (n ≤ (roundFare .up step n).1 * 100000000000 ∧ (roundFare .up step n).1 * 100000000000 < n + u)
    ∧ (2 * n < 2 * ((roundFare .halfUp step n).1 * 100000000000) + u
        ∧ 2 * ((roundFare .halfUp step n).1 * 100000000000) ≤ 2 * n + u)

/-- Every completed computation (R79, R80): the fare is 0..99,999, not above a cap of its destination, a multiple of the
rounding step unless FLOORED, CAPPED or OVERFLOW is among its flags, and not below the minimum fare unless it is 0 or
CAPPED. -/
def Obligations.CompletedFareIsInRange : Prop :=
  ∀ (ctx : FareContext) (tables : TableSet) (dest : DestinationRecord) (i : FareInputs) (r : FareResult)
    (flags : FareFlags),
    ctx.active = some tables → tables.destinations.find? (fun d => d.code = i.destination) = some dest →
    0 < ctx.settings.step → ctx.settings.minimum ≤ 99999 → dest.cap ≤ 99999 →
    fareOf ctx i = ⟨.fare r, flags⟩ →
    r.amount ≤ 99999 ∧ (0 < dest.cap → r.amount ≤ dest.cap)
      ∧ (r.flags.floored = false → r.flags.capped = false → r.flags.overflow = false → ctx.settings.step ∣ r.amount)
      ∧ (r.amount = 0 ∨ r.flags.capped = true ∨ ctx.settings.minimum ≤ r.amount)
      ∧ r.flags = flags ∧ 1 ≤ r.adults + r.children ∧ r.adults ≤ 9 ∧ r.children ≤ 9 ∧ r.adults + r.children ≤ 9

/-! ### Sales and the journal -/

/-- QUOTE in a seller (R71, R82, R86): it reports the computed fare, the train's state and the places on hand, and
changes nothing but the sticky fare flags. -/
def Obligations.QuoteReportsTheFare : Prop :=
  ∀ (i : FareInputs) (r : FareResult) (f : FareFlags) (s : State), s.part.Attentive → s.part.roles.sells = true →
    i.fits = true → (∀ k, i.train = some k → s.part.trainSellable k = true) →
    fareOf (s.part.fareContext i) i = ⟨.fare r, f⟩ →
    (0 < r.placesNeeded → ∃ k, i.train = some k ∧ s.part.trainLinked k = true) →
    exec (.quote (.clean i)) s = .next { s with part := { s.part with
      fares := { s.part.fares with sticky := s.part.fares.sticky.union f }
      port := s.part.answered 13 .done (.quote r
        (i.train.bind fun k => (s.part.board.find k).map Entry.state)
        (if 0 < r.placesNeeded then i.train.map s.part.quota.heldOf else none)) } }

namespace Sys2Proof.Machine

/-- What refuses a QUOTE or an ISSUE at its fare check (R86, R88): the train, the computation's own code, or a quota
fare for a train without a ledger link; with the flags the computation raised (R82). -/
def FareRefusal (p : Part) (i : FareInputs) (code : ResultCode) (f : FareFlags) : Prop :=
  (∃ k, i.train = some k ∧ p.trainSellable k = false) ∧ code = .trainNotSellable ∧ f = ⟨false, false, false, false,
      false, false, false, false⟩
    ∨ (∀ k, i.train = some k → p.trainSellable k = true) ∧ fareOf (p.fareContext i) i = ⟨.refused code, f⟩
    ∨ (∀ k, i.train = some k → p.trainSellable k = true)
        ∧ (∃ r, fareOf (p.fareContext i) i = ⟨.fare r, f⟩ ∧ 0 < r.placesNeeded)
        ∧ (∀ k, i.train = some k → p.trainLinked k = false) ∧ code = .noQuota

end Sys2Proof.Machine

/-- A QUOTE or an ISSUE refused at its fare check leaves nothing but the flags of its computation (R82, R86, R88); an
ISSUE meets its other checks first: role, agreed amount, an issue in flight, the journal, the serial (R87, R88). -/
def Obligations.RefusedSaleLeavesOnlyItsFlags : Prop :=
  ∀ s : State, s.part.Attentive →
    (s.part.roles.sells = false →
      (∀ i : FareInputs, i.fits = true → exec (.quote (.clean i)) s
        = .next { s with part := { s.part with port := s.part.answered 13 .notRole .empty } })
      ∧ (∀ q : IssueRequest, q.fits = true → exec (.issue (.clean q)) s
        = .next { s with part := { s.part with port := s.part.answered 14 .notRole .empty } }))
    ∧ (∀ i code f, s.part.roles.sells = true → i.fits = true → FareRefusal s.part i code f →
      exec (.quote (.clean i)) s = .next { s with part := { s.part with
        fares := { s.part.fares with sticky := s.part.fares.sticky.union f }
        port := s.part.answered 13 code .empty } })
    ∧ (∀ (q : IssueRequest) code, s.part.roles.sells = true → q.fits = true →
      (99999 < q.agreed ∧ code = .badRequest
        ∨ q.agreed ≤ 99999 ∧ s.part.sales.issue.isSome ∧ code = .busy
        ∨ q.agreed ≤ 99999 ∧ s.part.sales.issue = none
            ∧ (252 ≤ s.part.sales.journal.length ∨ s.part.sales.nextNumber = none) ∧ code = .journalFull
        ∨ q.agreed ≤ 99999 ∧ s.part.sales.issue = none ∧ s.part.sales.journal.length < 252
            ∧ s.part.sales.nextNumber.isSome ∧ 10000 ≤ s.part.sales.nextSerial ∧ code = .serialExhausted) →
      exec (.issue (.clean q)) s
        = .next { s with part := { s.part with port := s.part.answered 14 code .empty } })
    ∧ (∀ (q : IssueRequest) code f, s.part.roles.sells = true → q.fits = true → q.agreed ≤ 99999 →
      s.part.sales.issue = none → s.part.sales.journal.length < 252 → s.part.sales.nextNumber.isSome →
      s.part.sales.nextSerial < 10000 → FareRefusal s.part q.inputs code f →
      exec (.issue (.clean q)) s = .next { s with part := { s.part with
        fares := { s.part.fares with sticky := s.part.fares.sticky.union f }
        port := s.part.answered 14 code .empty } })

namespace Sys2Proof.Machine

/-- An ISSUE has passed the acceptance checks of R87 and R88 with this fare, and its journal record would be `n`. -/
def Part.IssuePasses (p : Part) (q : IssueRequest) (r : FareResult) (f : FareFlags) (n : Nat) : Prop :=
  p.roles.sells = true ∧ q.fits = true ∧ q.agreed ≤ 99999 ∧ p.sales.issue = none ∧ p.sales.journal.length < 252
    ∧ p.sales.nextNumber = some n ∧ p.sales.nextSerial < 10000
    ∧ (∀ k, q.inputs.train = some k → p.trainSellable k = true)
    ∧ fareOf (p.fareContext q.inputs) q.inputs = ⟨.fare r, f⟩

/-- The SALE record of a sale made now (R97, R99, R102, R103). -/
def Part.saleRecord (p : Part) (q : IssueRequest) (r : FareResult) (n : Nat) : JournalRecord :=
  { number := n, stamp := p.clock.reading, stampSet := decide (p.clock.stratum ≠ 15),
    body := .sale
      { ticket := ⟨p.clock.salesDay, p.ownNode, p.sales.nextSerial⟩, product := q.inputs.product,
        destination := q.inputs.destination, fareClass := q.inputs.fareClass, concession := q.inputs.concession,
        adults := r.adults, children := r.children, train := q.inputs.train, amount := r.amount, flags := r.flags,
        band := r.band, placesUsed := r.placesNeeded, payment := q.payment } }

/-- The sales unit after that sale (R97, R102, R107). -/
def Part.afterSale (p : Part) (q : IssueRequest) (r : FareResult) (n : Nat) : SalesUnit :=
  { p.sales with
    issue := none
    journal := p.sales.journal ++ [p.saleRecord q r n]
    nextNumber := if n < 4294967295 then some (n + 1) else none
    nextSerial := p.sales.nextSerial + 1
    totals := { p.sales.totals with
      tickets := min (p.sales.totals.tickets + 1) 65535, sum := min (p.sales.totals.sum + r.amount) 4294967295 }
    voidWindow := some ⟨⟨p.clock.salesDay, p.ownNode, p.sales.nextSerial⟩, p.lineTime⟩ }

end Sys2Proof.Machine

/-- An ISSUE that needs no places, or finds enough held, is a sale at once at the agreed amount (R89, R96, R97, R98):
ticket number, SALE record, day totals, void window, and the places from held to sold; at another amount it is refused
with FARE_CHANGED and nothing is sold. -/
def Obligations.IssueSellsAtOnce : Prop :=
  ∀ (q : IssueRequest) (r : FareResult) (f : FareFlags) (n : Nat) (s : State), s.part.Attentive →
    s.part.IssuePasses q r f n →
    (r.placesNeeded = 0 → r.amount = q.agreed →
      exec (.issue (.clean q)) s = .next { s with part := { s.part with
        fares := { s.part.fares with sticky := s.part.fares.sticky.union f }
        sales := s.part.afterSale q r n
        port := s.part.answered 14 .done (.ticket (s.part.saleRecord q r n)) } })
    ∧ (∀ k, q.inputs.train = some k → s.part.trainLinked k = true → 0 < r.placesNeeded →
        r.placesNeeded ≤ s.part.quota.heldOf k → r.amount = q.agreed →
      exec (.issue (.clean q)) s = .next { s with part := { s.part with
        fares := { s.part.fares with sticky := s.part.fares.sticky.union f }
        sales := s.part.afterSale q r n
        quota := s.part.quota.modify k (fun l => { l with
          held := l.held - min r.placesNeeded l.held
          reserved := 0
          sold := l.sold + (l.reserved + min r.placesNeeded l.held) })
        port := s.part.answered 14 .done (.ticket (s.part.saleRecord q r n)) } })
    ∧ ((r.placesNeeded = 0 ∨ ∃ k, q.inputs.train = some k ∧ s.part.trainLinked k = true
          ∧ r.placesNeeded ≤ s.part.quota.heldOf k) → r.amount ≠ q.agreed →
      ∃ t, exec (.issue (.clean q)) s = .next t ∧ t.pending = s.pending
        ∧ t.part.port = s.part.answered 14 .fareChanged .empty ∧ t.part.sales = s.part.sales
        ∧ (∀ k, q.inputs.train = some k → (s.part.quota.find k).all (fun l => decide (l.reserved = 0)) = true →
            t.part.quota.find k = s.part.quota.find k)
        ∧ t.part.fares = { s.part.fares with sticky := s.part.fares.sticky.union f })

namespace Sys2Proof.Machine

/-- The ask list after an ASK is asked for (R119): its ask record behind at most seven others, if the store took the
frame. Of records of one line time the one entered first is the oldest: the model's choice (log 39). -/
def Part.asksAfter (p : Part) (k : TrainKey) (wanted : Nat) : List AskRecord :=
  if p.line.hasRoom .urgent then
    (if 8 ≤ p.quota.asks.length then p.quota.asks.drop 1 else p.quota.asks)
      ++ [⟨p.line.nextSeq, k, wanted, p.lineTime, []⟩]
  else p.quota.asks

/-- The ledger with every reserved place of a train back in held (R116). -/
def Part.returned (p : Part) (k : Option TrainKey) : QuotaUnit :=
  match k with
  | none => p.quota
  | some k => p.quota.modify k (fun l => { l with held := l.held + l.reserved, reserved := 0 })

end Sys2Proof.Machine

/-- An ISSUE that needs more places than are held goes in flight (R89, R119): every held place reserved, the issue
record WAITING, one ASK offered for the shortfall with its ask record, and the reply ACCEPTED. A full ask list drops its
first record, the oldest; of records of one line time that is the one entered first, by the model's choice (log 39). -/
def Obligations.IssueGoesInFlight : Prop :=
  ∀ (q : IssueRequest) (r : FareResult) (f : FareFlags) (n : Nat) (k : TrainKey) (s : State), s.part.Attentive →
    s.part.IssuePasses q r f n → q.inputs.train = some k → s.part.trainLinked k = true →
    s.part.quota.heldOf k < r.placesNeeded →
    ∃ t, exec (.issue (.clean q)) s = .next t ∧ t.pending = s.pending
      ∧ t.part.sales = { s.part.sales with issue := some ⟨q, r.placesNeeded, s.part.quota.heldOf k, 1,
          some (s.part.lineTime + 500), s.part.lineTime + 1500⟩ }
      ∧ t.part.port = s.part.answered 14 .accepted .empty
      ∧ t.part.fares = { s.part.fares with sticky := s.part.fares.sticky.union f }
      ∧ (∀ l, s.part.quota.find k = some l →
          t.part.quota.find k = some { l with held := 0, reserved := l.reserved + l.held })
      ∧ (∀ k', k' ≠ k → t.part.quota.find k' = s.part.quota.find k')
      ∧ t.part.line = (s.part.offer .urgent (.ask ⟨k, r.placesNeeded - s.part.quota.heldOf k⟩)).line
      ∧ t.part.quota.asks = s.part.asksAfter k (r.placesNeeded - s.part.quota.heldOf k)
      ∧ t.part.board = s.part.board ∧ t.part.clock = s.part.clock ∧ t.part.notices = s.part.notices
      ∧ t.part.peers = s.part.peers ∧ t.part.doze = s.part.doze ∧ t.part.lineTime = s.part.lineTime

/-- ABORT ISSUE (R93): NOT_ROLE without SELLS, NO_ISSUE with none in flight, else the reserved places go back to held,
the issue ends, the reply is DONE and SALE REFUSED ABORTED is posted. -/
def Obligations.AbortIssueReturnsThePlaces : Prop :=
  ∀ s : State, s.part.Attentive →
    (s.part.roles.sells = false → exec (.abortIssue (.clean ())) s
      = .next { s with part := { s.part with port := s.part.answered 15 .notRole .empty } })
    ∧ (s.part.roles.sells = true → s.part.sales.issue = none → exec (.abortIssue (.clean ())) s
      = .next { s with part := { s.part with port := s.part.answered 15 .noIssue .empty } })
    ∧ (∀ i, s.part.roles.sells = true → s.part.sales.issue = some i → exec (.abortIssue (.clean ())) s
      = .next { s with part := { s.part with
        sales := { s.part.sales with issue := none }
        quota := s.part.returned i.request.inputs.train
        notices := s.part.notices.store .running s.part.holdOff s.part.lineTime
          (mkNotice .sale .refused none (trainSubject i.request.inputs.train) ResultCode.aborted.code
            i.request.payment)
        port := s.part.answered 15 .done .empty } })

namespace Sys2Proof.Machine

/-- What a rise of held makes of the issue in flight for its train (R90, R96 to R98, R116), from the part before and the
train's record after the rise: the smaller of the shortfall and held is reserved, and with nothing lacking the issue
commits, at the agreed amount as a sale with SALE DONE, else refused with its places back in held. -/
def ToppedUp (p : Part) (i : IssueRecord) (l : LedgerRecord) (q : Part) : Prop :=
  let k := min (i.needed - i.reserved) l.held
  (i.reserved + k < i.needed →
      q.sales = { p.sales with issue := some { i with reserved := i.reserved + k } } ∧ q.fares = p.fares
        ∧ q.quota.find l.train = some { l with held := l.held - k, reserved := l.reserved + k })
    ∧ (i.needed ≤ i.reserved + k → ∀ verdict f,
        fareOf (p.fareContext i.request.inputs) i.request.inputs = ⟨verdict, f⟩ →
        q.fares = { p.fares with sticky := p.fares.sticky.union f }
          ∧ (∀ r n, verdict = .fare r → r.amount = i.request.agreed → r.placesNeeded = i.needed →
              p.sales.journal.length < 252 → p.sales.nextNumber = some n →
              q.sales = p.afterSale i.request r n
                ∧ q.quota.find l.train = some { l with
                    held := l.held - k, reserved := 0, sold := l.sold + (l.reserved + k) }
                ∧ (p.notices.entries.length ≤ 60 →
                    ∃ x ∈ q.notices.entries, x.kind = .sale ∧ x.cause = .done ∧ x.source = none
                      ∧ x.subject = .ticket ⟨p.clock.salesDay, p.ownNode, p.sales.nextSerial⟩ ∧ x.first = r.amount
                      ∧ x.second = n))
          ∧ (∀ code,
              (verdict = .refused code
                ∨ (∃ r, verdict = .fare r ∧ (r.amount ≠ i.request.agreed ∨ r.placesNeeded ≠ i.needed)) ∧ code = .fareChanged
                ∨ (∃ r, verdict = .fare r ∧ r.amount = i.request.agreed ∧ r.placesNeeded = i.needed)
                    ∧ (252 ≤ p.sales.journal.length ∨ p.sales.nextNumber = none) ∧ code = .journalFull) →
              q.sales = { p.sales with issue := none }
                ∧ q.quota.find l.train = some { l with held := l.held - k + (l.reserved + k), reserved := 0 }
                ∧ (p.notices.entries.length ≤ 60 →
                    ∃ x ∈ q.notices.entries, x.kind = .sale ∧ x.cause = .refused ∧ x.source = none
                      ∧ x.subject = .train l.train ∧ x.first = code.code ∧ x.second = i.request.payment)))

/-- The sales unit after the first two steps of a VOID (R101): its record and the day totals. -/
def Part.voidNoted (p : Part) (f : SaleFields) (n : Nat) : SalesUnit :=
  { p.sales with
    journal := p.sales.journal ++ [⟨n, p.clock.reading, decide (p.clock.stratum ≠ 15), .void f.ticket f.amount⟩]
    nextNumber := if n < 4294967295 then some (n + 1) else none
    totals := { p.sales.totals with
      voids := min (p.sales.totals.voids + 1) 65535
      voidSum := min (p.sales.totals.voidSum + f.amount) 4294967295 } }

end Sys2Proof.Machine

/-- VOID (R100, R101). Accepted: a VOID record, the day totals' voids, the places back from sold, the window cleared,
and DONE with the record's number; the places that come back to held fill a WAITING issue of their train (R90). Refused: by
the first check of R100 that fails, with its reason and nothing changed besides the port. Ticket numbers are compared by
their bytes (log 29), and the rise of held is acted on before the window is cleared (log 22): the model's choices. -/
def Obligations.VoidIsCheckedAndTakesTheSaleBack : Prop :=
  (∀ (ref : TicketRef) (s : State), s.part.Attentive → ref.fits = true →
      (s.part.roles.sells = false → exec (.void (.clean ref)) s
        = .next { s with part := { s.part with port := s.part.answered 16 .notRole .empty } })
      ∧ (s.part.roles.sells = true →
        (∀ reason, s.part.voidable ref = .inr reason → exec (.void (.clean ref)) s
          = .next { s with part := { s.part with port := s.part.answered 16 .voidRefused (.voidReason reason) } })
        ∧ (∀ f, s.part.voidable ref = .inl f →
            (252 ≤ s.part.sales.journal.length ∨ s.part.sales.nextNumber = none) → exec (.void (.clean ref)) s
          = .next { s with part := { s.part with port := s.part.answered 16 .journalFull .empty } })
        ∧ (∀ f n, s.part.voidable ref = .inl f → s.part.sales.journal.length < 252 →
            s.part.sales.nextNumber = some n →
            ∃ t, exec (.void (.clean ref)) s = .next t ∧ t.pending = s.pending
              ∧ t.part.port = s.part.answered 16 .done (.voidDone n)
              ∧ s.part.sales.journal
                  ++ [⟨n, s.part.clock.reading, decide (s.part.clock.stratum ≠ 15), .void f.ticket f.amount⟩]
                  <+: t.part.sales.journal
              ∧ t.part.sales.voidWindow = none
              ∧ t.part.sales.totals.voids = min (s.part.sales.totals.voids + 1) 65535
              ∧ t.part.sales.totals.voidSum = min (s.part.sales.totals.voidSum + f.amount) 4294967295
              ∧ (s.part.sales.issue = none →
                  t.part = { s.part with
                    sales := { s.part.sales with
                      journal := s.part.sales.journal
                        ++ [⟨n, s.part.clock.reading, decide (s.part.clock.stratum ≠ 15), .void f.ticket f.amount⟩]
                      nextNumber := if n < 4294967295 then some (n + 1) else none
                      totals := { s.part.sales.totals with
                        voids := t.part.sales.totals.voids, voidSum := t.part.sales.totals.voidSum }
                      voidWindow := none }
                    quota := (match f.train with
                      | none => s.part.quota
                      | some k =>
                        if f.placesUsed = 0 then s.part.quota
                        else if s.part.trainSellable k = true then
                          s.part.quota.modify k (fun l => { l with
                            sold := l.sold - min f.placesUsed l.sold, held := l.held + min f.placesUsed l.sold })
                        else
                          s.part.quota.modify k (fun l => { l with
                            sold := l.sold - min f.placesUsed l.sold, lapsed := l.lapsed + min f.placesUsed l.sold }))
                    port := t.part.port })
              ∧ (∀ i k l, s.part.sales.issue = some i → i.request.inputs.train = some k → 0 < i.needed →
                  f.train = some k → f.placesUsed ≠ 0 → s.part.trainSellable k = true →
                  s.part.quota.find k = some l →
                  ∃ v, ToppedUp { s.part with sales := s.part.voidNoted f n } i
                      { l with
                        sold := l.sold - min f.placesUsed l.sold, held := l.held + min f.placesUsed l.sold } v
                    ∧ t.part.quota.find k = v.quota.find k ∧ t.part.sales = { v.sales with voidWindow := none }
                    ∧ t.part.fares = v.fares ∧ t.part.notices = v.notices
                    ∧ (∀ j, j ≠ k → t.part.quota.find j = s.part.quota.find j)))))
  ∧ (∀ (ref : TicketRef) (p : Part),
      let sales := p.sales.journal.filterMap JournalRecord.sale?
      let known := ∃ f ∈ sales, f.ticket.ref = ref
      let newest := ∃ f ∈ sales.getLast?, f.ticket.ref = ref
      let voided := ∃ j ∈ p.sales.journal, ∃ k a, j.body = .void k a ∧ k.ref = ref
      let inTime := ∃ w ∈ p.sales.voidWindow, w.ticket.ref = ref ∧ p.lineTime - w.committed ≤ 120000
      (p.voidable ref = .inr .notFound ↔ ¬ known)
        ∧ (p.voidable ref = .inr .notNewest ↔ known ∧ ¬ newest)
        ∧ (p.voidable ref = .inr .alreadyVoid ↔ newest ∧ voided)
        ∧ (p.voidable ref = .inr .tooLate ↔ newest ∧ ¬ voided ∧ ¬ inTime)
        ∧ ((∃ f, p.voidable ref = .inl f) ↔ newest ∧ ¬ voided ∧ inTime))

/-- READ JOURNAL answers with the count of unreleased records and up to four of the oldest at or above the number, and
changes nothing (R105). RELEASE JOURNAL releases every record at or below the number it names, or is refused with
BAD_RELEASE when no record carries it (R106). -/
def Obligations.JournalIsReadAndReleased : Prop :=
  ∀ (n : Nat) (s : State), s.part.Attentive → n ≤ 4294967295 →
    exec (.readJournal (.clean n)) s = .next { s with part := { s.part with
      port := s.part.answered 17 .done (.journal s.part.sales.journal.length
        ((s.part.sales.journal.filter (fun r => n ≤ r.number)).take 4)) } }
    ∧ ((∀ r ∈ s.part.sales.journal, r.number ≠ n) → exec (.releaseJournal (.clean n)) s
      = .next { s with part := { s.part with port := s.part.answered 18 .badRelease .empty } })
    ∧ ((∃ r ∈ s.part.sales.journal, r.number = n) → exec (.releaseJournal (.clean n)) s
      = .next { s with part := { s.part with
        sales := { s.part.sales with journal := s.part.sales.journal.filter (fun r => n < r.number) }
        port := s.part.answered 18 .done (.released
          (s.part.sales.journal.filter (fun r => r.number ≤ n)).length
          (s.part.sales.journal.filter (fun r => n < r.number)).length) } })

/-! ### Notices, pages, status, doze -/

/-- A notice handed to the queue (R166, R167, R170, R171, R173): stored at the newest end with the present line time
while fewer than 64 wait, else counted lost; an urgent one or the 48th raises the line at once, the first of an empty
queue by the hold-off, and outside RUNNING and DOZING every one. Posted in DOZING, a stored notice of a wake kind wakes the
part, and so does the first loss of a gap; no other notice does (R167, R174, R202). -/
def Obligations.StoredNoticeDrivesTheLine : Prop :=
  (∀ (q : NoticeQueue) (state : PartState) (holdOff now : Nat) (n : Notice),
    (q.entries.length < 64 →
      (q.store state holdOff now n).entries = q.entries ++ [{ n with lineTime := now }]
        ∧ (q.store state holdOff now n).lostCount = q.lostCount
        ∧ (q.store state holdOff now n).firstLost = q.firstLost
        ∧ (q.store state holdOff now n).lostTotal = q.lostTotal
        ∧ (state = .dozing → (q.store state holdOff now n).attention = q.attention
            ∧ (q.store state holdOff now n).deadline = q.deadline)
        ∧ (state ≠ .running → state ≠ .dozing → (q.store state holdOff now n).attention = true)
        ∧ (state = .running → n.urgent = true ∨ 47 ≤ q.entries.length →
            (q.store state holdOff now n).attention = true ∧ (q.store state holdOff now n).deadline = none)
        ∧ (state = .running → n.urgent = false → q.entries.length < 47 →
            (q.entries ≠ [] ∨ holdOff = 0 → (q.store state holdOff now n).attention = q.attention
              ∧ (q.store state holdOff now n).deadline = q.deadline)
            ∧ (q.entries = [] → holdOff = 1 → (q.store state holdOff now n).attention = true)
            ∧ (q.entries = [] → 2 ≤ holdOff → q.attention = false →
                (q.store state holdOff now n).attention = false
                  ∧ (q.store state holdOff now n).deadline = some (now + holdOff))))
    ∧ (64 ≤ q.entries.length →
      q.store state holdOff now n = { q with
        lostCount := min (q.lostCount + 1) 65535
        lostTotal := min (q.lostTotal + 1) 65535
        firstLost := if q.lostCount = 0 then some n.kind else q.firstLost }))
  ∧ ∀ (p : Part) (n : Notice), p.doze.state = .dozing →
    let noted : Part := { p with notices := p.notices.store .dozing p.holdOff p.lineTime n }
    let wakeKind := n.kind ∈ [.lost, .duplicateNode, .key] ∨ n.kind = .clock ∧ n.cause = .disagree
    (p.notices.entries.length < 64 → wakeKind → p.post n = noted.awoken (.notice n.kind))
      ∧ (p.notices.entries.length < 64 → ¬ wakeKind → p.post n = noted)
      ∧ (64 ≤ p.notices.entries.length → p.notices.lostCount = 0 → p.post n = noted.awoken (.notice .lost))
      ∧ (64 ≤ p.notices.entries.length → 0 < p.notices.lostCount → p.post n = noted)

/-- TAKE NOTICES removes up to 8 of the oldest notices and answers with them (R169); a gap is then reported by LOST at
the newest end (R168), and a queue left empty drops the line and its deadline (R172). In DOZING the LOST it stores wakes the
part, with the cause NOTICE (R168, R202, R203). The count left is taken at the end of the request (log 13). -/
def Obligations.TakeNoticesRemovesTheOldest : Prop :=
  ∀ s : State, s.part.up = true → s.part.port.reply = none → s.part.notices.Kept → s.part.doze.state ≠ .selfTest →
    let rest := s.part.notices.entries.drop 8
    let lost := mkNotice .lost .none none .none s.part.notices.lostCount
      ((s.part.notices.firstLost.map NoticeKind.code).getD 0)
    ((s.part.notices.lostCount = 0 ∨ s.part.doze.state ≠ .dozing) → ∃ t, exec (.takeNotices (.clean ())) s = .next t ∧ t.pending = s.pending
      ∧ t.part = { s.part with notices := t.part.notices, port := t.part.port }
      ∧ t.part.port = s.part.answered 19 .done (.notices (s.part.notices.entries.take 8)
          t.part.notices.entries.length t.part.notices.lostCount)
      ∧ (s.part.notices.lostCount = 0 →
          t.part.notices = { s.part.notices with
            entries := rest
            attention := if rest = [] then false else s.part.notices.attention
            deadline := if rest = [] then none else s.part.notices.deadline })
      ∧ (0 < s.part.notices.lostCount →
          t.part.notices = { s.part.notices with
            entries := rest ++ [{ lost with lineTime := s.part.lineTime }]
            lostCount := 0
            firstLost := none
            attention := true
            deadline := if s.part.doze.state = .running then none else s.part.notices.deadline }))
    ∧ (0 < s.part.notices.lostCount → s.part.doze.state = .dozing →
      let taken := s.part.afterTaking
      let w := { taken with notices := { taken.notices with
        entries := rest ++ [{ lost with lineTime := s.part.lineTime }], lostCount := 0, firstLost := none } }.awoken
          (.notice .lost)
      exec (.takeNotices (.clean ())) s = .next { s with part := { w with port := { w.port with
        reply := some ⟨19, .done, .notices (s.part.notices.entries.take 8) w.notices.entries.length
          w.notices.lostCount⟩ } } })

namespace Sys2Proof.Machine

/-- The number of records in each fare table. -/
def tableSizes (t : TableSet) : TableCounts :=
  ⟨t.destinations.length, t.products.length, t.concessions.length, t.bands.length⟩

/-- The number of entries in a state. -/
def Part.entriesIn (p : Part) (st : EntryState) : Nat := p.board.entries.countP (fun e => decide (e.state = st))

/-- What READ STATUS reports of a part, section by section (R19, R46, R59, R84, R109, R133, R146, R163, R176, R191,
R199). The port counts include the request itself (log 32); the void window's time left is log 37's. -/
def Part.Reports (p : Part) (first : Nat) : StatusReport → Prop
  | .port x => x = ⟨p.doze.state, p.port.record, p.port.clampSet, p.start, p.port.taken, p.port.badFrame, p.port.portBusy⟩
  | .clock x => ∃ minutes,
      x = { lineTime := p.lineTime, reading := p.clock.reading, set := decide (p.clock.stratum ≠ 15),
            stratum := p.clock.stratum, source := p.clock.source, pending := p.clock.pending,
            referenceMinutes := minutes, salesDay := p.clock.salesDay, disagree := p.clock.disagree,
            rolloverMinute := p.clock.rolloverMinute }
        ∧ (p.clock.referenceDeadline = none → minutes = 0)
        ∧ ∀ d, p.clock.referenceDeadline = some d →
            d - p.lineTime ≤ minutes * 60000 ∧ minutes * 60000 < d - p.lineTime + 60000
  | .board x => x =
      { full := p.board.fullCount, unknown := p.board.unknownCount, stale := p.board.staleCount,
        edition := p.board.edition, entries := p.board.entries.length, listed := p.entriesIn .listed,
        due := p.entriesIn .due, gone := p.entriesIn .gone, cancelled := p.entriesIn .cancelled, load := p.board.load }
  | .page x => x =
      { running := decide (p.doze.state = .running ∧ p.roles.shows = true), index := p.page.index,
        count := p.page.held.count, shown := p.page.shown, intervalLeft := p.page.deadline.map (· - p.lineTime),
        settings := (p.port.record.filter (fun r => r.roles.shows)).map
          (fun r => ⟨r.rows, r.platformFilter, r.pageInterval, r.horizon⟩) }
  | .fares x => x =
      { edition := p.fares.edition, active := p.fares.active.map tableSizes,
        transfer := p.fares.transfer.map (fun t => (t.edition, tableSizes t.staged)),
        settings := p.port.record.map (fun r => ⟨r.roundingStep, r.roundingMode, r.minimumFare, r.masks⟩),
        sticky := p.fares.sticky }
  | .sales x => x =
      { issue := p.sales.issue.map
          (fun i => ⟨i.needed, i.reserved, i.asks, i.deadline - p.lineTime, i.request.payment⟩),
        unreleased := p.sales.journal.length, oldest := p.sales.journal.head?.map JournalRecord.number,
        newest := p.sales.journal.getLast?.map JournalRecord.number, next := p.sales.nextNumber,
        salesLeft := (match p.sales.nextNumber with
          | none => 0
          | some n => min (252 - p.sales.journal.length) (4294967296 - n)),
        totals := p.sales.totals, nextSerial := p.sales.nextSerial,
        voidTicket := p.sales.voidWindow.map VoidWindow.ticket,
        voidLeft := p.sales.voidWindow.map (fun w => w.committed + 120000 - p.lineTime), overrun := p.sales.overrun }
  | .quota x => ∃ order : List LedgerRecord, order.Perm p.quota.ledger
      ∧ order.Pairwise (fun a b => a.train.day < b.train.day ∨ a.train.day = b.train.day ∧ a.train.id ≤ b.train.id)
      ∧ x = { records := p.quota.ledger.length,
              shown := ((order.drop first).take 8).map (fun r =>
                ⟨r.train, r.quotaTotal, r.share, r.received, r.held, r.reserved, r.lending, r.awaiting, r.lent,
                  r.doubtful, r.sold, r.lapsed, r.grants.length⟩),
              watch := p.quota.watch.length, asks := p.quota.asks.length, blind := p.quota.blind,
              ignoredGrants := p.quota.ignoredGrants, unmatchedTaken := p.quota.unmatchedTaken,
              ledgerFull := p.quota.ledgerFull, forgoneGrants := p.quota.forgoneGrants }
  | .peers x =>
      let others := p.peers.records.filter (fun r => decide (r.node ≠ p.ownNode))
      x = { records := others.length,
            shown := ((others.drop first).take 8).map
              (fun r => ⟨r.node, r.state, r.lastHeard.map (p.lineTime - ·), r.advert, r.clash⟩),
            beaconLeft := p.peers.beaconDeadline.map (· - p.lineTime),
            beaconInStore := p.line.slots.any (fun sl => decide (sl.body = .beacon)),
            noticedTimetable := p.peers.noticedTimetable, noticedFare := p.peers.noticedFare,
            skipped := p.peers.skipped, duplicateNode := p.peers.duplicateNode, unheeded := p.peers.unheeded,
            peerGone := p.peers.peerGone }
  | .line x => x =
      { busy := p.line.busy, sinceChange := p.lineTime - p.line.changedAt,
        transmitter := (match p.line.tx with
          | .idle => .idle | .counting _ => .counting | .paused _ => .paused | .sending _ => .sending
          | .breaking _ => .breaking),
        chosen := (p.line.tx.chosen.bind p.line.find).map
          (fun sl => ⟨sl.body.kind, sl.cls, sl.seq, sl.attempts, sl.wait⟩),
        urgent := p.line.used .urgent, normal := p.line.used .normal, bulk := p.line.used .bulk,
        free := 24 - p.line.slots.length, nextSeq := p.line.nextSeq, counts := p.line.counts }
  | .notices x => x =
      { waiting := p.notices.entries.length, wakeWaiting := p.notices.wakeWaiting,
        lostCount := p.notices.lostCount, firstLost := p.notices.firstLost, lostTotal := p.notices.lostTotal,
        holdOff := p.holdOff, attention := p.notices.attention, holdOffLeft := p.notices.deadline.map (· - p.lineTime) }
  | .doze x => x =
      { state := p.doze.state, wakeLead := p.port.record.map StartRecord.wakeLead,
        keyAEnabled := p.port.record.map StartRecord.keyA, keyBEnabled := p.port.record.map StartRecord.keyB,
        keyALow := p.doze.keyA.settledLow, keyAPresses := p.doze.keyA.presses, keyBLow := p.doze.keyB.settledLow,
        keyBPresses := p.doze.keyB.presses, sinceDoze := p.doze.dozeStart.map (p.lineTime - ·),
        dozeCount := p.doze.dozeCount, lastWake := p.doze.lastWake }

end Sys2Proof.Machine

/-- READ PAGE answers with the held page as it stands, or NOT_ROLE without SHOWS (R56); READ STATUS answers with the
report of the section it names, each field as its rule gives it, or BAD_REQUEST for a section that is none (R190), in every
state that takes it and without waking; neither changes anything besides the port. The taken count reported includes the
request (log 32), and the void window's time left is log 37's. -/
def Obligations.PageAndStatusAreRead : Prop :=
  ∀ s : State, s.part.up = true → s.part.port.reply = none →
    (s.part.doze.state = .running →
      exec (.readPage (.clean ())) s = .next { s with part := { s.part with
        port := if s.part.roles.shows = true then s.part.answered 20 .done (.page s.part.page.held)
          else s.part.answered 20 .notRole .empty } })
    ∧ (∀ r : StatusRequest, r.fits = true → s.part.doze.state ≠ .selfTest →
      ∃ t, exec (.readStatus (.clean r)) s = .next t ∧ t.pending = s.pending
        ∧ t.part = { s.part with port := t.part.port }
        ∧ ((1 ≤ r.sect ∧ r.sect ≤ 11) →
            ∃ report, t.part.port = s.part.answered 21 .done (.status report)
              ∧ ReplyBody.sect (.status report) = r.sect ∧ s.part.afterTaking.Reports r.first report)
        ∧ (r.sect = 0 ∨ 11 < r.sect → t.part.port = s.part.answered 21 .badRequest .empty))

/-- DOZE (R200): refused by the first of its checks that fails, with the reason; otherwise the part dozes from this
line time, the doze count rises, and the attention line, the hold-off deadline and the interval deadline are cleared
(R57, R174). -/
def Obligations.DozeIsRefusedOrEntered : Prop :=
  ∀ s : State, s.part.Attentive →
    (∀ code reason train,
      (s.part.sales.issue.isSome ∧ code = .busy ∧ reason = .issue ∧ train = none
        ∨ s.part.sales.issue = none ∧ s.part.board.load.isSome ∧ code = .busy ∧ reason = .load ∧ train = none
        ∨ s.part.sales.issue = none ∧ s.part.board.load = none ∧ s.part.fares.transfer.isSome ∧ code = .busy
            ∧ reason = .fares ∧ train = none
        ∨ s.part.sales.issue = none ∧ s.part.board.load = none ∧ s.part.fares.transfer = none
            ∧ s.part.notices.wakeWaiting = true ∧ code = .wakePending ∧ reason = .notice ∧ train = none
        ∨ s.part.sales.issue = none ∧ s.part.board.load = none ∧ s.part.fares.transfer = none
            ∧ s.part.notices.wakeWaiting = false
            ∧ (∃ e, s.part.departureNear = some e ∧ train = some e.train) ∧ code = .wakePending
            ∧ reason = .departure) →
      exec (.doze (.clean ())) s
        = .next { s with part := { s.part with port := s.part.answered 23 code (.dozeReason reason train) } })
    ∧ (s.part.sales.issue = none → s.part.board.load = none → s.part.fares.transfer = none →
        s.part.notices.wakeWaiting = false → s.part.departureNear = none →
        exec (.doze (.clean ())) s = .next { s with part := { s.part with
          doze := { s.part.doze with
            state := .dozing, dozeStart := some s.part.lineTime, dozeCount := min (s.part.doze.dozeCount + 1) 65535 }
          notices := { s.part.notices with attention := false, deadline := none }
          page := { s.part.page with deadline := none }
          port := s.part.answered 23 .done .empty } })

/-! ### Supply, reset, self-test -/

/-- POWER ON, RESET PIN, RESTART and LINE TIME END reset the part (R1, R18, R134, R189, R194): it enters SELF_TEST with
line time 0, the retained store stands, and everything else takes its reset values. RESET PIN RELEASE lets line time run
from 0 (R194). MAIN SUPPLY LOSS and BACKUP LOSS leave the retained store alone while one supply holds it, and mark its loss
once neither does, whichever failed first (R193). The model's choices: what acts with the supply off or the reset held
(log 7), POWER ON while the supply is on (log 8), lost contents left as they stood (log 9), an end of line time that is not
due (log 3), a backup supply that stays too low (log 33), no self-test result and no warm or cold mark until self-test ends
(log 40). -/
def Obligations.ResetsAndSuppliesKeepTheStore : Prop :=
  (∀ s : State,
      (∃ t, exec .powerOn s = .next t ∧ t.pending = s.pending ∧ s.part.KeepsStore t.part
        ∧ s.part.AfterReset t.part .powerOn ∧ t.part.supply = { s.part.supply with mainOn := true })
      ∧ (s.part.supply.mainOn = true →
        ∃ t, exec .resetPin s = .next t ∧ t.pending = s.pending ∧ s.part.KeepsStore t.part
          ∧ s.part.AfterReset t.part .resetPin ∧ t.part.supply = { s.part.supply with resetHeld := true })
      ∧ (s.part.supply.mainOn = false → exec .resetPin s = .next { s with part := { s.part with
        supply := { s.part.supply with resetHeld := true } } })
      ∧ (s.part.up = true → s.part.port.reply = none → s.part.doze.state ≠ .selfTest →
        ∃ t, exec (.restart (.clean ())) s = .next t ∧ t.pending = s.pending ∧ s.part.KeepsStore t.part
          ∧ s.part.AfterReset t.part .restart ∧ t.part.supply = s.part.supply)
      ∧ (s.part.up = true → 4294967295 ≤ s.part.lineTime →
        ∃ t, exec .lineTimeEnd s = .next t ∧ t.pending = s.pending ∧ s.part.KeepsStore t.part
          ∧ s.part.AfterReset t.part .restart ∧ t.part.supply = s.part.supply)
      ∧ (s.part.up = false ∨ s.part.lineTime < 4294967295 → exec .lineTimeEnd s = .next s))
  ∧ (∀ s : State,
      (s.part.supply.resetHeld = true → exec .resetPinRelease s = .next { s with part := { s.part with
        supply := { s.part.supply with resetHeld := false }, lineTime := 0 } })
      ∧ (s.part.supply.resetHeld = false → exec .resetPinRelease s = .next s)
      ∧ exec .mainSupplyLoss s = .next { s with part := { s.part with
        supply := { s.part.supply with mainOn := false }
        retained := if s.part.supply.backupLow = true then ⟨true, false⟩ else s.part.retained } }
      ∧ exec .backupLoss s = .next { s with part := { s.part with
        supply := { s.part.supply with backupLow := true }
        retained := if s.part.supply.mainOn = true then s.part.retained else ⟨true, false⟩ } })

/-- SELF TEST END (R134, R175, R193 to R197): a good store is kept and its ledger repaired, reserved places and LENDING
grants that are not collided back to held, AWAITING and collided LENDING grants to DOUBTFUL; a bad one is cleared; the loss
mark is cleared, START is stored with the reset kind, the result and the store's state, and the part enters WAITING_START,
or FAULT when the memory failed, which the command's operand tells (log 6). -/
def Obligations.SelfTestEndsWarmOrCold : Prop :=
  ∀ (passes : Bool) (s : State), s.part.up = true → s.part.doze.state = .selfTest →
    ∃ t, exec (.selfTestEnd passes) s = .next t ∧ t.pending = s.pending
      ∧ t.part.doze = { s.part.doze with state := if passes then .waitingStart else .fault }
      ∧ t.part.retained = ⟨false, true⟩
      ∧ t.part.start = { s.part.start with
          result := some (if passes = false then .memoryFault
            else if s.part.retained = ⟨false, true⟩ then .pass else .retainedLost)
          store := some (if s.part.retained = ⟨false, true⟩ then .kept else .cleared) }
      ∧ t.part.notices = s.part.notices.store .selfTest s.part.holdOff s.part.lineTime
          (mkNotice .start .none none .none s.part.start.kind.code
            ((t.part.start.result.elim 0 SelfTestResult.code) + 256 * (t.part.start.store.elim 0 StoreState.code)))
      ∧ (s.part.retained = ⟨false, true⟩ →
          t.part.clock = s.part.clock ∧ t.part.sales = s.part.sales ∧ t.part.quota.blind = s.part.quota.blind
            ∧ t.part.quota.ledger.map LedgerRecord.train = s.part.quota.ledger.map LedgerRecord.train
            ∧ (s.part.quota.Balanced → ∀ r ∈ t.part.quota.ledger, ∃ r' ∈ s.part.quota.ledger,
                r.train = r'.train ∧ r.reserved = 0 ∧ r.lending = 0 ∧ r.awaiting = 0 ∧ r.sold = r'.sold
                  ∧ r.lent = r'.lent ∧ r.lapsed = r'.lapsed
                  ∧ r.share = r'.share ∧ r.received = r'.received ∧ r.quotaTotal = r'.quotaTotal
                  ∧ r.held = r'.held + r'.reserved
                      + placesOf (r'.grants.filter (fun g => g.isLending && !g.collided))
                  ∧ r.doubtful = r'.doubtful + r'.awaiting
                      + placesOf (r'.grants.filter (fun g => g.isLending && g.collided))
                  ∧ r.grants = (r'.grants.filter (fun g => !(g.isLending && !g.collided))).map
                      (fun g => { g with state := .doubtful, made := none })))
      ∧ (s.part.retained ≠ ⟨false, true⟩ →
          t.part.clock.reading = ⟨0, 0⟩ ∧ t.part.clock.stratum = 15 ∧ t.part.clock.salesDay = none
            ∧ t.part.clock.rolloverMinute = 150 ∧ t.part.sales.journal = [] ∧ t.part.sales.nextNumber = some 1
            ∧ t.part.sales.totals = ⟨0, 0, 0, 0⟩ ∧ t.part.sales.nextSerial = 1 ∧ t.part.quota.ledger = []
            ∧ t.part.quota.blind = true)
      ∧ t.part.board = s.part.board ∧ t.part.fares = s.part.fares ∧ t.part.peers = s.part.peers
      ∧ t.part.line = s.part.line ∧ t.part.port = s.part.port ∧ t.part.lineTime = s.part.lineTime

/-! ### The clock -/

/-- A MINUTE EVENT that is due (R3, R4, R22, R44, R85, R108, R131, R202): the last event minute takes the clock's minute;
without a rise of the sales day every entry is judged at it; with one, the blind mark is cleared, and the entries and
records of earlier days that have no train to sell are gone. A part that SELLS then closes the old day; one that does not
closes none, and its journal, totals, next serial and void window stand (the model's choice, log 38). In DOZING, with no rise and no entry to change
state, a departure near wakes the part with the cause DEPARTURE and the entry's sort minute, and without one it dozes on
with nothing else changed. The order of the receivers is free (log 11). -/
def Obligations.MinuteEventReachesItsReceivers : Prop :=
  ∀ s : State, s.part.up = true → s.part.awake = true → s.part.clock.isSet = true →
    s.part.clock.lastEventMinute ≠ some s.part.clock.reading.absMinute →
    (s.part.board.entries.map Entry.train).Nodup →
    let m := s.part.clock.reading.absMinute
    ∃ t, exec .minuteEvent s = .next t ∧ t.pending = s.pending
      ∧ t.part.clock = { s.part.clock with lastEventMinute := some m, salesDay := t.part.clock.salesDay }
      ∧ (∀ d, s.part.clock.salesDay = some d → s.part.clock.computedDay ≤ d →
          t.part.clock.salesDay = some d ∧ t.part.quota.blind = s.part.quota.blind
            ∧ t.part.sales.totals = s.part.sales.totals ∧ t.part.sales.journal = s.part.sales.journal
            ∧ t.part.board.entries.map Entry.train = s.part.board.entries.map Entry.train
            ∧ ∀ e ∈ s.part.board.entries, ∃ e' ∈ t.part.board.entries,
                e' = { e with state := e.judged m, refreshDeadline := e'.refreshDeadline }
                  ∧ (e.judged m ≠ .gone → e'.refreshDeadline = e.refreshDeadline))
      ∧ (∀ d, s.part.clock.salesDay = some d → d < s.part.clock.computedDay →
          t.part.clock.salesDay = some s.part.clock.computedDay ∧ t.part.quota.blind = false
            ∧ (s.part.roles.sells = true →
                t.part.sales.totals = ⟨0, 0, 0, 0⟩ ∧ t.part.sales.nextSerial = 1 ∧ t.part.sales.voidWindow = none
                  ∧ ∀ n, s.part.sales.nextNumber = some n →
                      ∃ j ∈ t.part.sales.journal, j.number = n ∧ j.body = .dayClose d s.part.sales.totals)
            ∧ (s.part.roles.sells = false →
                t.part.sales = { s.part.sales with issue := t.part.sales.issue })
            ∧ t.part.board.entries.map Entry.train
                = (s.part.board.entries.filter (fun e =>
                    e.sellable || decide (s.part.clock.computedDay ≤ e.train.day))).map Entry.train
            ∧ t.part.quota.ledger.map LedgerRecord.train
                = (s.part.quota.ledger.filter (fun r =>
                    s.part.trainSellable r.train || decide (s.part.clock.computedDay ≤ r.train.day))).map
                    LedgerRecord.train)
      ∧ (s.part.doze.state = .dozing → (∀ d, s.part.clock.salesDay = some d → s.part.clock.computedDay ≤ d) →
          (∀ e ∈ s.part.board.entries, e.judged m = e.state) →
          let told : Part := { s.part with
            clock := { s.part.clock with lastEventMinute := some m }, draws := t.part.draws }
          (s.part.departureNear = none → t.part = told)
            ∧ (∀ e, s.part.departureNear = some e → t.part = told.awoken (.departure e.train e.absSort)))
      ∧ t.part.fares = s.part.fares ∧ t.part.peers = s.part.peers ∧ t.part.port = s.part.port
      ∧ t.part.lineTime = s.part.lineTime

/-- A SLEW PERIOD that has ended gives the clock 11 ms or 9 ms and brings the pending correction one nearer 0 (R13); a
SOURCE DEADLINE that has come loses the source and leaves a slew (R9); a REFERENCE LAPSE leaves stratum 8 (R17). The reading stands still within a period: the model's choice (log 5). -/
def Obligations.ClockDeadlinesAct : Prop :=
  ∀ s : State, s.part.up = true →
    (s.part.clock.pending ≠ 0 → s.part.clock.periodStart + 10 ≤ s.part.lineTime →
      ∃ t, exec .slewPeriod s = .next t ∧ t.pending = s.pending
        ∧ t.part.clock = { s.part.clock with
            reading := s.part.clock.reading.advance (if 0 < s.part.clock.pending then 11 else 9)
            pending := if 0 < s.part.clock.pending then s.part.clock.pending - 1 else s.part.clock.pending + 1
            periodStart := s.part.clock.periodStart + 10
            salesDay := t.part.clock.salesDay
            lastEventMinute := if s.part.awake = true ∧ s.part.clock.isSet = true
              then some (s.part.clock.reading.advance (if 0 < s.part.clock.pending then 11 else 9)).absMinute
              else s.part.clock.lastEventMinute }
        ∧ t.part.fares = s.part.fares ∧ t.part.peers = s.part.peers ∧ t.part.port = s.part.port
        ∧ t.part.lineTime = s.part.lineTime)
    ∧ (∀ d, s.part.clock.sourceDeadline = some d → d ≤ s.part.lineTime →
      exec .sourceDeadline s = .next { s with part := { s.part with clock := { s.part.clock with
        source := none, stratum := 8, sourceDeadline := none, disagree := false } } })
    ∧ (∀ d, s.part.clock.referenceDeadline = some d → d ≤ s.part.lineTime →
      exec .referenceLapse s = .next { s with part := { s.part with clock := { s.part.clock with
        stratum := 8, referenceDeadline := none } } })

namespace Sys2Proof.Machine

/-- A clock corrected by an offset against a source reading (R11): within 2 ms nothing is pending, within
−60,000..1,000 ms a slew starts over, above it the clock steps to the source reading, below it the clock holds. -/
def CorrectedBy (offset : Int) (source : Reading) (now : Nat) (c c' : HaltClock) : Prop :=
  (-2 ≤ offset → offset ≤ 2 → c'.pending = 0 ∧ c'.disagree = false ∧ c'.reading = c.reading)
    ∧ (offset < -2 ∨ 2 < offset → -60000 ≤ offset → offset ≤ 1000 →
        c'.pending = offset ∧ c'.periodStart = now ∧ c'.disagree = false ∧ c'.reading = c.reading)
    ∧ (1000 < offset → c'.pending = 0 ∧ c'.disagree = false ∧ c'.reading = source)
    ∧ (offset < -60000 → c'.pending = 0 ∧ c'.disagree = true ∧ c'.reading = c.reading)

end Sys2Proof.Machine

/-- A BEACON corrects the clock that follows its sender (R8, R10, R11, R12): with an offset within 2 ms nothing is
pending, within −60,000..1,000 ms a slew starts over, above it the clock steps to the source reading, below it the
clock holds and DISAGREE is set; a beacon of stratum 8 or 15 loses the source (R9). What it advertises is recorded
(R141). A source reading past the clock's last one steps the clock to that last one: the model's choice (log 28). -/
def Obligations.BeaconCorrectsItsFollower : Prop :=
  ∀ (sender seq : Nat) (b : BeaconPayload) (s : State), s.part.Hears sender seq → (Payload.beacon b).ok = true →
    s.part.clock.source = some sender → s.part.clock.isSet = true →
    (s.part.peers.find sender).isSome →
    let offset : Int := ((b.day * 86400000 + b.ms + 2 : Nat) : Int) - (s.part.clock.reading.toMs : Int)
    ∃ t, exec (.beacon (.clean sender seq b)) s = .next t ∧ t.pending = s.pending
      ∧ ((t.part.peers.find sender).bind PeerRecord.advert)
          = some ⟨b.roles, b.sellerIndex, b.stratum, b.timetable, b.fare, b.freeSlots⟩
      ∧ (8 ≤ b.stratum →
          t.part.clock = { s.part.clock with
            source := none, stratum := 8, sourceDeadline := none, disagree := false })
      ∧ (b.stratum ≤ 7 →
          t.part.clock.source = some sender ∧ t.part.clock.stratum = min (b.stratum + 1) 7
            ∧ t.part.clock.sourceDeadline = some (s.part.lineTime + 60000)
            ∧ CorrectedBy offset (Reading.ofMs (b.day * 86400000 + b.ms + 2)) s.part.lineTime s.part.clock t.part.clock)
      ∧ t.part.fares = s.part.fares ∧ t.part.port = s.part.port ∧ t.part.lineTime = s.part.lineTime
      ∧ t.part.line.counts = s.part.line.counts

/-- A beacon of a node that is not the source is followed when it is nearer, or as near with a lower number, and has no
effect on the clock otherwise (R7); an unset clock is set by the first eligible one, with its sales day (R3, R14), and a set
one loses DISAGREE and is corrected by the same beacon (R7, R8, R10, R11). A source reading past the clock's last one gives
that last one: the model's choice (log 28). -/
def Obligations.NearerBeaconIsFollowed : Prop :=
  ∀ (sender seq : Nat) (b : BeaconPayload) (s : State), s.part.Hears sender seq → (Payload.beacon b).ok = true →
    s.part.clock.source ≠ some sender → (s.part.peers.find sender).isSome →
    let nearer := b.stratum ≤ 7 ∧ (b.stratum + 1 < s.part.clock.stratum
      ∨ b.stratum + 1 = s.part.clock.stratum ∧ sender < s.part.clock.source.getD s.part.ownNode)
    ∃ t, exec (.beacon (.clean sender seq b)) s = .next t
      ∧ (¬ nearer → t.part.clock = s.part.clock)
      ∧ (nearer → t.part.clock.source = some sender ∧ t.part.clock.stratum = min (b.stratum + 1) 7
          ∧ t.part.clock.sourceDeadline = some (s.part.lineTime + 60000)
          ∧ (s.part.clock.isSet = false →
              t.part.clock.reading = Reading.ofMs (b.day * 86400000 + b.ms + 2) ∧ t.part.clock.pending = 0
                ∧ t.part.clock.salesDay = some (computedSalesDay s.part.clock.rolloverMinute t.part.clock.reading)
                ∧ t.part.clock.lastEventMinute = some t.part.clock.reading.absMinute
                ∧ t.part.clock.disagree = false)
          ∧ (s.part.clock.isSet = true →
              CorrectedBy (((b.day * 86400000 + b.ms + 2 : Nat) : Int) - (s.part.clock.reading.toMs : Int))
                (Reading.ofMs (b.day * 86400000 + b.ms + 2)) s.part.lineTime s.part.clock t.part.clock))

/-! ### Deadlines -/

/-- A REFRESH DEADLINE that has come restarts and, for an entry with no frame in the store, offers an announcement
in BULK (R42). -/
def Obligations.RefreshDeadlineAnnounces : Prop :=
  ∀ (k : TrainKey) (e : Entry) (d : Nat) (s : State), s.part.up = true → s.part.awake = true →
    s.part.board.find k = some e → e.refreshDeadline = some d → d ≤ s.part.lineTime →
    ∃ t e', exec (.refreshDeadline k) s = .next t ∧ t.pending = s.pending
      ∧ t.part.board.find k = some e'
      ∧ e' = { e with refreshDeadline := some (s.part.lineTime + s.part.refreshMs), frame := e'.frame }
      ∧ (e.frame ≠ none ∨ s.part.line.hasRoom .bulk = false → e'.frame = e.frame)
      ∧ (e.frame ≠ none → t.part.line = s.part.line)
      ∧ (e.frame = none → s.part.line.hasRoom .bulk = true →
          e'.frame = some ⟨.announce, s.part.line.nextFrame⟩
            ∧ ∃ sl ∈ t.part.line.slots, sl.id = s.part.line.nextFrame ∧ sl.cls = .bulk
                ∧ sl.body = .train (e.frameUpdate true))
      ∧ (∀ k', k' ≠ k → t.part.board.find k' = s.part.board.find k')
      ∧ t.part = { s.part with board := t.part.board, line := t.part.line, draws := t.part.draws }

/-- An INTERVAL DEADLINE that has come restarts and turns the page (R49, R51, R52, R55): the index rises by one below
the new page count, else goes to 0, the page is built of the shown entries, and PAGE is posted exactly if it differs. -/
def Obligations.IntervalDeadlineTurnsThePage : Prop :=
  ∀ (r : StartRecord) (d : Nat) (s : State), s.part.up = true → s.part.doze.state = .running →
    s.part.port.record = some r → r.roles.shows = true → s.part.page.deadline = some d → d ≤ s.part.lineTime →
    let shown := s.part.shownEntries r
    let count := pageCount r.rows shown.length
    let index := if s.part.page.index + 1 < count then s.part.page.index + 1 else 0
    ∃ t, exec .intervalDeadline s = .next t ∧ t.pending = s.pending
      ∧ t.part = { s.part with page := t.part.page, notices := t.part.notices }
      ∧ t.part.page.deadline = some (s.part.lineTime + r.pageInterval * 1000)
      ∧ t.part.page.index = index ∧ t.part.page.shown = shown.length
      ∧ t.part.page.held = ⟨index, count, decide (s.part.clock.stratum ≠ 15),
          (pageEntries r.rows index shown).map Entry.row⟩
      ∧ t.part.notices = (if t.part.page.held = s.part.page.held then s.part.notices
          else s.part.notices.store .running r.holdOff s.part.lineTime
            (mkNotice .page .none none (trainSubject (shown.head?.map Entry.train)) index count))

/-- The pages of `m` shown entries (R49): every entry stands on some page, the first shown on every page, and no page
has more rows than the screen. -/
def Obligations.PagesHoldEveryEntry : Prop :=
  ∀ (rows : Nat) (shown : List Entry), 2 ≤ rows →
    (∀ e ∈ shown, ∃ k < pageCount rows shown.length, e ∈ pageEntries rows k shown)
      ∧ (∀ k, (pageEntries rows k shown).length ≤ rows)
      ∧ (∀ k, (pageEntries rows k shown).head? = shown.head?)
      ∧ (∀ k < pageCount rows shown.length, shown ≠ [] → rows < shown.length →
          2 ≤ (pageEntries rows k shown).length)
      ∧ (shown.length ≤ rows → pageCount rows shown.length = 1)

/-- ASK TIME (R91) clears the ask time and sends a second ASK for a shortfall above 0, whose record takes the place of the
first in a full ask list, the oldest, by the model's choice among records of one line time (R119; log 39); ISSUE DEADLINE
(R92) ends the issue, its reserved places back to held, with SALE REFUSED QUOTA_EXHAUSTED. WATCH EXPIRY removes the watch records of an
ask heard 2,000 ms ago or earlier (R122); TAKEN DEADLINE makes an AWAITING grant DOUBTFUL, its places from awaiting to
doubtful, with QUOTA DOUBTFUL posted (R128), of several overdue ones the first in the list by the model's choice
(log 26). -/
def Obligations.IssueAndQuotaDeadlinesAct : Prop :=
  (∀ (i : IssueRecord) (k : TrainKey) (s : State), s.part.up = true → s.part.awake = true →
      s.part.sales.issue = some i → i.request.inputs.train = some k →
      (∀ d, i.askTime = some d → d ≤ s.part.lineTime →
        ∃ t, exec .askTime s = .next t ∧ t.pending = s.pending
          ∧ t.part.sales = { s.part.sales with issue := some { i with
              askTime := none, asks := if i.reserved < i.needed then 2 else i.asks } }
          ∧ (i.needed ≤ i.reserved → t.part.line = s.part.line ∧ t.part.quota = s.part.quota)
          ∧ (i.reserved < i.needed →
              t.part.line = (s.part.offer .urgent (.ask ⟨k, i.needed - i.reserved⟩)).line
                ∧ t.part.quota = { s.part.quota with asks := s.part.asksAfter k (i.needed - i.reserved) })
          ∧ t.part = { s.part with
              sales := t.part.sales, quota := t.part.quota, line := t.part.line, draws := t.part.draws })
      ∧ (i.deadline ≤ s.part.lineTime →
        ∃ t, exec .issueDeadline s = .next t ∧ t.pending = s.pending
          ∧ t.part.sales = { s.part.sales with issue := none } ∧ t.part.quota = s.part.returned (some k)
          ∧ (s.part.doze.state = .running →
              t.part = { s.part with
                sales := t.part.sales
                quota := t.part.quota
                notices := s.part.notices.store .running s.part.holdOff s.part.lineTime
                  (mkNotice .sale .refused none (.train k) ResultCode.quotaExhausted.code i.request.payment) })
          ∧ t.part.board = s.part.board ∧ t.part.line = s.part.line ∧ t.part.clock = s.part.clock))
  ∧ (∀ s : State, s.part.up = true → s.part.awake = true →
      (∀ asker number, exec (.watchExpiry asker number) s = .next { s with part := { s.part with
        quota := { s.part.quota with watch := s.part.quota.watch.filter (fun w =>
          !(decide (w.asker = asker) && decide (w.number = number) && decide (w.heard + 2000 ≤ s.part.lineTime))) } } })
      ∧ (∀ k asker number l before g after d, s.part.quota.find k = some l → l.grants = before ++ g :: after →
          (∀ x ∈ before, GrantRecord.overdue asker number s.part.lineTime x = false) →
          g.asker = asker → g.number = number → g.state = .awaiting d → d ≤ s.part.lineTime →
          ∃ t, exec (.takenDeadline k asker number) s = .next t ∧ t.pending = s.pending
            ∧ t.part.quota.find k = some { l with
                awaiting := l.awaiting - g.count, doubtful := l.doubtful + g.count,
                grants := before ++ { g with state := .doubtful } :: after }
            ∧ (∀ k', k' ≠ k → t.part.quota.find k' = s.part.quota.find k')
            ∧ (s.part.doze.state = .running →
                t.part.notices = s.part.notices.store .running s.part.holdOff s.part.lineTime
                  (mkNotice .quota .doubtful (some asker) (.train k) g.count (l.doubtful + g.count : Nat)))
            ∧ t.part.sales = s.part.sales ∧ t.part.line = s.part.line ∧ t.part.board = s.part.board
            ∧ t.part.clock = s.part.clock))

/-- SILENT DEADLINE and GONE DEADLINE (R140): a PRESENT record becomes SILENT, a SILENT one GONE, its deadline cleared;
a clock that follows the node loses it (R9), and when it is GONE the grants that await it become doubtful (R129).
BEACON DEADLINE (R144): the deadline restarts; a beacon is offered unless one is in the store, and skipped when the
store has no slot for it. -/
def Obligations.PeerDeadlinesAct : Prop :=
  (∀ (node : Nat) (r : PeerRecord) (d : Nat) (s : State), s.part.up = true → s.part.awake = true →
      s.part.peers.find node = some r →
      (r.state = .present → r.silentDeadline = some d → d ≤ s.part.lineTime →
        ∃ t, exec (.silentDeadline node) s = .next t ∧ t.pending = s.pending
          ∧ t.part.peers.find node = some { r with state := .silent, silentDeadline := none }
          ∧ (∀ n, n ≠ node → t.part.peers.find n = s.part.peers.find n)
          ∧ t.part.clock = (if s.part.clock.source = some node then s.part.clock.lost else s.part.clock)
          ∧ t.part.quota = s.part.quota ∧ t.part.line = s.part.line ∧ t.part.sales = s.part.sales)
      ∧ (r.state = .silent → r.goneDeadline = some d → d ≤ s.part.lineTime →
        ∃ t, exec (.goneDeadline node) s = .next t ∧ t.pending = s.pending
          ∧ t.part.peers.find node = some { r with state := .gone, goneDeadline := none }
          ∧ t.part.peers.peerGone = min (s.part.peers.peerGone + 1) 65535
          ∧ (∀ n, n ≠ node → t.part.peers.find n = s.part.peers.find n)
          ∧ t.part.clock = (if s.part.clock.source = some node then s.part.clock.lost else s.part.clock)
          ∧ (s.part.quota.Balanced → ∀ l ∈ t.part.quota.ledger,
              (∀ g ∈ l.grants, g.asker = node → g.isAwaiting = false)
                ∧ ∃ l' ∈ s.part.quota.ledger, l.train = l'.train ∧ l.held = l'.held ∧ l.lending = l'.lending
                  ∧ l.awaiting + l.doubtful = l'.awaiting + l'.doubtful)
          ∧ t.part.line = s.part.line ∧ t.part.sales = s.part.sales))
  ∧ (∀ (d : Nat) (s : State), s.part.up = true → s.part.awake = true → s.part.peers.beaconDeadline = some d →
      d ≤ s.part.lineTime →
      ∃ t, exec .beaconDeadline s = .next t ∧ t.pending = s.pending
        ∧ t.part.peers.beaconDeadline = some (s.part.lineTime + s.part.beaconMs)
        ∧ t.part.peers.records = s.part.peers.records
        ∧ (s.part.line.beaconInStore = true → t.part.line = s.part.line ∧ t.part.peers.skipped = s.part.peers.skipped)
        ∧ (s.part.line.beaconInStore = false → t.part.line = (s.part.offer .normal .beacon).line
            ∧ t.part.peers.skipped = (if s.part.line.hasRoom .normal = true then s.part.peers.skipped
                else min (s.part.peers.skipped + 1) 65535))
        ∧ t.part = { s.part with peers := t.part.peers, line := t.part.line, draws := t.part.draws })

/-- HOLD OFF DEADLINE asserts the line while notices wait (R170). A change of a key's input restarts its settle
deadline; at the deadline the settled level takes the input's, and a fall of an enabled key in RUNNING counts a press
and posts KEY PRESSED, while a rise, or a key not enabled, changes nothing else (R204). A press of an enabled key in
DOZING wakes the part first (R202, R203): RUNNING, the line asserted, the last wake KEY, then the press counted. -/
def Obligations.HoldOffAndKeysAct : Prop :=
  (∀ s : State, s.part.up = true →
      (∀ d, s.part.notices.deadline = some d → d ≤ s.part.lineTime → s.part.notices.entries ≠ [] →
        exec .holdOffDeadline s = .next { s with part := { s.part with
          notices := { s.part.notices with deadline := none, attention := true } } })
      ∧ (∀ k low, (s.part.doze.key k).inputLow ≠ low →
        exec (.keyInputChange k low) s = .next { s with part := { s.part with
          doze := s.part.doze.setKey k { s.part.doze.key k with
            inputLow := low, settleDeadline := some (s.part.lineTime + 20) } } })
      ∧ (∀ k d, (s.part.doze.key k).settleDeadline = some d → d ≤ s.part.lineTime →
        let settled : KeyState := { s.part.doze.key k with
          settleDeadline := none, settledLow := (s.part.doze.key k).inputLow }
        ((s.part.doze.key k).inputLow = false ∨ (s.part.doze.key k).settledLow = true ∨ s.part.keyEnabled k = false
            ∨ s.part.awake = false →
          exec (.settleDeadline k) s
            = .next { s with part := { s.part with doze := s.part.doze.setKey k settled } })
        ∧ ((s.part.doze.key k).inputLow = true → (s.part.doze.key k).settledLow = false → s.part.keyEnabled k = true →
            s.part.doze.state = .running →
          exec (.settleDeadline k) s = .next { s with part := { s.part with
            doze := s.part.doze.setKey k { settled with presses := min (settled.presses + 1) 65535 }
            notices := s.part.notices.store .running s.part.holdOff s.part.lineTime
              (mkNotice .key (match k with | .a => .keyA | .b => .keyB) none .none 1
                (min (settled.presses + 1) 65535 : Nat)) } })))
  ∧ (∀ (k : Key) (d : Nat) (s : State), s.part.up = true → s.part.doze.state = .dozing →
      (s.part.doze.key k).settleDeadline = some d → d ≤ s.part.lineTime → (s.part.doze.key k).inputLow = true →
      (s.part.doze.key k).settledLow = false → s.part.keyEnabled k = true →
      ∃ t, exec (.settleDeadline k) s = .next t ∧ t.pending = s.pending
        ∧ t.part.doze.state = .running ∧ t.part.doze.dozeStart = none
        ∧ t.part.doze.lastWake = some ⟨.key k, (s.part.lineTime - s.part.doze.dozeStart.getD s.part.lineTime) / 1000⟩
        ∧ (t.part.doze.key k).presses = min ((s.part.doze.key k).presses + 1) 65535
        ∧ t.part.notices.attention = true
        ∧ (s.part.notices.entries.length ≤ 60 →
            ∃ w p rest, t.part.notices.entries = s.part.notices.entries ++ w :: (rest ++ [p])
              ∧ w.kind = .wake ∧ w.cause = .wakeKey ∧ p.kind = .key ∧ p.first = 1)
        ∧ t.part.sales = s.part.sales ∧ t.part.quota = s.part.quota ∧ t.part.clock = s.part.clock
        ∧ t.part.board = s.part.board ∧ t.part.line = s.part.line)

/-! ### The halt line -/

/-- An owner's offer (R152): with a slot of its class the frame joins the store under the next sequence number, which
then rises by one, from 255 to 0; without one the starvation count of its class rises and nothing else changes. -/
def Obligations.OfferTakesTheNextNumber : Prop :=
  ∀ (p : Part) (c : FrameClass) (b : FrameBody),
    let free := p.line.slots.length < 24 ∧ (c = .urgent ∨ p.line.used .normal + p.line.used .bulk < 22)
    (free →
      (p.offer c b).line.nextSeq = (p.line.nextSeq + 1) % 256
        ∧ (p.offer c b).line.counts = p.line.counts
        ∧ (∃ sl ∈ (p.offer c b).line.slots, sl.id = p.line.nextFrame ∧ sl.seq = p.line.nextSeq ∧ sl.cls = c
            ∧ sl.body = b ∧ sl.attempts = 0)
        ∧ (p.offer c b).line.slots.map (fun sl => (sl.id, sl.cls, sl.seq, sl.body, sl.attempts))
            = p.line.slots.map (fun sl => (sl.id, sl.cls, sl.seq, sl.body, sl.attempts))
                ++ [(p.line.nextFrame, c, p.line.nextSeq, b, 0)]
        ∧ (p.line.busy = true → (p.offer c b).line.tx = p.line.tx)
        ∧ p.offer c b = { p with line := (p.offer c b).line, draws := (p.offer c b).draws })
    ∧ (¬ free →
      p.offer c b = { p with line := { p.line with counts := (match c with
        | .urgent => { p.line.counts with urgentStarved := min (p.line.counts.urgentStarved + 1) 65535 }
        | .normal => { p.line.counts with normalStarved := min (p.line.counts.normalStarved + 1) 65535 }
        | .bulk => { p.line.counts with bulkStarved := min (p.line.counts.bulkStarved + 1) 65535 }) } })

namespace Sys2Proof.Machine

/-- The head of the highest non-empty class (R151, R154). -/
def HeadOfHighestClass (l : LineInterface) (sl : Slot) : Prop :=
  ∃ before after, l.slots = before ++ sl :: after ∧ (∀ x ∈ before, x.cls ≠ sl.cls)
    ∧ (sl.cls = .normal → ∀ x ∈ l.slots, x.cls ≠ .urgent)
    ∧ (sl.cls = .bulk → ∀ x ∈ l.slots, x.cls = .bulk)

end Sys2Proof.Machine

/-- LINE BUSY pauses a counting wait (R147, R156). LINE QUIET brings the choice (R154, R155): the head of the highest
class resumes its wait, or draws one of the base of its class and up to 2^m − 1 slots; it is sent at once when the wait
is 0. A part that does not act on the halt makes no choice. SLOT END counts a wait down by one, and starts the attempt at 0
(R156, R157). The model's choices: a LINE BUSY on a busy line changes nothing (log 18), an attempt makes the line busy
(log 19), the record of the frame on the line (log 27), frames told apart by identity numbers (log 24). -/
def Obligations.BusyQuietAndSlots : Prop :=
  ∀ s : State, s.part.up = true →
    (s.part.line.busy = false → exec .lineBusy s = .next { s with part := { s.part with line := { s.part.line with
      busy := true
      changedAt := s.part.lineTime
      tx := (match s.part.line.tx with | .counting f => .paused f | x => x) } } })
    ∧ (s.part.line.busy = true → exec .lineBusy s = .next s)
    ∧ (s.part.line.busy = true → s.part.awake = true → s.part.line.slots = [] → s.part.line.tx = .idle →
      exec .lineQuiet s = .next { s with part := { s.part with line := { s.part.line with
        busy := false, changedAt := s.part.lineTime } } })
    ∧ (s.part.line.busy = true → s.part.awake = false → (∀ f, s.part.line.tx ≠ .sending f ∧ s.part.line.tx ≠ .breaking f) →
      exec .lineQuiet s = .next { s with part := { s.part with line := { s.part.line with
        busy := false, changedAt := s.part.lineTime } } })
    ∧ (∀ sl, s.part.line.busy = true → s.part.awake = true →
        (s.part.line.tx = .idle ∨ ∃ f, s.part.line.tx = .paused f) → HeadOfHighestClass s.part.line sl →
        (s.part.line.slots.map Slot.id).Nodup →
        ∃ t w, exec .lineQuiet s = .next t ∧ t.pending = s.pending
          ∧ (∀ w', sl.wait = some w' → w = w')
          ∧ (sl.wait = none →
              sl.cls.baseWait ≤ w ∧ w ≤ sl.cls.baseWait + (2 ^ min (sl.attempts + 1) 5 - 1))
          ∧ t.part.line.find sl.id = some { sl with wait := some w }
          ∧ (∀ f, f ≠ sl.id → t.part.line.find f = s.part.line.find f)
          ∧ (0 < w → t.part.line.tx = .counting sl.id ∧ t.part.line.busy = false)
          ∧ (w = 0 → t.part.line.tx = .sending sl.id ∧ t.part.line.busy = true
              ∧ t.part.line.onLine = some ⟨s.part.ownNode, sl.seq, s.part.payloadOf sl.body⟩)
          ∧ t.part.line.nextSeq = s.part.line.nextSeq ∧ t.part.line.counts = s.part.line.counts
          ∧ t.part = { s.part with line := t.part.line, draws := t.part.draws })
    ∧ (∀ f sl w, s.part.line.tx = .counting f → s.part.line.busy = false → s.part.line.find f = some sl →
        sl.wait = some w →
        ∃ t, exec .slotEnd s = .next t ∧ t.pending = s.pending
          ∧ t.part.line.find f = some { sl with wait := some (w - 1) }
          ∧ (∀ f', f' ≠ f → t.part.line.find f' = s.part.line.find f')
          ∧ (1 < w → t.part.line.tx = .counting f ∧ t.part.line.busy = false)
          ∧ (w ≤ 1 → t.part.line.tx = .sending f ∧ t.part.line.busy = true
              ∧ t.part.line.onLine = some ⟨s.part.ownNode, sl.seq, s.part.payloadOf sl.body⟩)
          ∧ t.part = { s.part with line := t.part.line })

namespace Sys2Proof.Machine

/-- The wait slots of the frames of the store, but for one frame's, are as they were. -/
def OthersKept (l l' : LineInterface) (f : Nat) : Prop := ∀ f', f' ≠ f → l'.find f' = l.find f'

end Sys2Proof.Machine

/-- How an attempt ends (R158, R159, R160): SENT WHOLE frees the slot and tells the owner, a TRAIN entry's frame in
store back to none and a GRANT AWAITING for 2,000 ms (R41, R125); COLLISION counts, raises the frame's attempts and
takes its wait; at BREAK END a frame below 8 attempts stays and one at 8 is given up. A GRANT that stays becomes collided,
or is withdrawn with its places lapsed when its train is no longer sold (R124). A GRANT given up is DOUBTFUL (R126), or its
places lapse when its train is no longer sold (R130; log 21). The collision count rises at COLLISION (log 20), and frames
are told apart by identity numbers (log 24): the model's choices. -/
def Obligations.AttemptEnds : Prop :=
  ∀ (f : Nat) (sl : Slot) (s : State), s.part.up = true → s.part.line.find f = some sl →
    (s.part.line.slots.map Slot.id).Nodup →
    (s.part.line.tx = .sending f →
      (∃ t, exec .sentWhole s = .next t ∧ t.pending = s.pending
        ∧ t.part.line = { s.part.line with
            slots := s.part.line.slots.filter (fun x => x.id ≠ f), tx := .idle, onLine := none }
        ∧ (∀ u, sl.body = .train u → ∀ e ∈ t.part.board.entries, ∀ m ∈ e.frame, m.frame ≠ f)
        ∧ (∀ g, sl.body = .grant g → ∀ l x, s.part.quota.lender f = some (l, x) →
            (s.part.quota.ledger.map LedgerRecord.train).Nodup →
            ∃ l', t.part.quota.find l.train = some l' ∧ l'.lending = l.lending - x.count
              ∧ l'.awaiting = l.awaiting + x.count ∧ l'.held = l.held ∧ l'.doubtful = l.doubtful
              ∧ { x with state := .awaiting (s.part.lineTime + 2000) } ∈ l'.grants)
        ∧ (sl.body = .beacon ∨ (∃ a, sl.body = .ask a) ∨ (∃ k, sl.body = .taken k) →
            t.part = { s.part with line := t.part.line })
        ∧ t.part.sales = s.part.sales ∧ t.part.clock = s.part.clock)
      ∧ (∃ t, exec .collision s = .next t ∧ t.pending = s.pending
        ∧ t.part = { s.part with line := t.part.line }
        ∧ t.part.line.tx = .breaking f ∧ t.part.line.onLine = none
        ∧ t.part.line.counts = { s.part.line.counts with collision := min (s.part.line.counts.collision + 1) 65535 }
        ∧ t.part.line.find f = some { sl with attempts := sl.attempts + 1, wait := none }
        ∧ OthersKept s.part.line t.part.line f))
    ∧ (s.part.line.tx = .breaking f →
      (sl.attempts < 8 → (∀ g, sl.body ≠ .grant g) →
        exec .breakEnd s = .next { s with part := { s.part with line := { s.part.line with tx := .idle } } })
      ∧ (sl.attempts < 8 → ∀ g, sl.body = .grant g → ∀ l before x after,
        s.part.quota.lender f = some (l, x) → l.grants = before ++ x :: after →
        (∀ y ∈ before, y.state ≠ .lending f) → (s.part.quota.ledger.map LedgerRecord.train).Nodup →
        ∃ t, exec .breakEnd s = .next t ∧ t.pending = s.pending
          ∧ t.part = { s.part with quota := t.part.quota, line := t.part.line }
          ∧ (∀ k, k ≠ l.train → t.part.quota.find k = s.part.quota.find k)
          ∧ (s.part.trainSellable l.train = true →
              t.part.quota.find l.train = some { l with grants := before ++ { x with collided := true } :: after }
                ∧ t.part.line = { s.part.line with tx := .idle })
          ∧ (s.part.trainSellable l.train = false →
              t.part.quota.find l.train = some { l with
                  lending := l.lending - x.count, lapsed := l.lapsed + x.count, grants := before ++ after }
                ∧ t.part.line = { s.part.line with
                    slots := s.part.line.slots.filter (fun y => y.id ≠ f), tx := .idle }))
      ∧ (8 ≤ sl.attempts →
        ∃ t, exec .breakEnd s = .next t ∧ t.pending = s.pending
          ∧ t.part.line = { s.part.line with
              slots := s.part.line.slots.filter (fun x => x.id ≠ f)
              tx := .idle
              counts := { s.part.line.counts with giveUp := min (s.part.line.counts.giveUp + 1) 65535 } }
          ∧ (s.part.doze.state = .running → (∀ g, sl.body ≠ .grant g) →
              t.part.notices = s.part.notices.store .running s.part.holdOff s.part.lineTime
                (mkNotice .line .none none (s.part.frameSubject sl) sl.body.kind.code
                  (min (s.part.line.counts.giveUp + 1) 65535 : Nat)))
          ∧ (∀ u, sl.body = .train u → ∀ e ∈ t.part.board.entries, ∀ m ∈ e.frame, m.frame ≠ f)
          ∧ (∀ g, sl.body = .grant g → ∀ l x, s.part.quota.lender f = some (l, x) →
              (s.part.quota.ledger.map LedgerRecord.train).Nodup →
              ∃ l', t.part.quota.find l.train = some l' ∧ l'.lending = l.lending - x.count
                ∧ l'.held = l.held ∧ l'.awaiting = l.awaiting
                ∧ (s.part.trainSellable l.train = true →
                    l'.doubtful = l.doubtful + x.count ∧ l'.lapsed = l.lapsed
                      ∧ { x with state := .doubtful } ∈ l'.grants)
                ∧ (s.part.trainSellable l.train = false →
                    l'.lapsed = l.lapsed + x.count ∧ l'.doubtful = l.doubtful
                      ∧ l'.grants.length + 1 = l.grants.length))
          ∧ t.part.sales = s.part.sales ∧ t.part.clock = s.part.clock))

/-- BAD FRAME and MALFORMED FRAME each add one to their count (R148, R149), and so do the characters of a spell judged
bad or malformed and a frame whose payload breaks the form of its kind (R32, R118, R141). A good frame before a start record,
or in FAULT, is counted unheeded (R136); one under the part's own number is counted and dropped, and in DOZING its
DUPLICATE_NODE notice wakes the part (R137, R202); a duplicate is counted and dropped (R138). An accepted frame makes its
sender PRESENT and restarts its two deadlines by this part's beacon period (R139); an accepted BEACON also has what it
advertises recorded, with the clash mark for another seller of this part's index (R141, R143). -/
def Obligations.FramesAreJudgedBeforeTheirOwner : Prop :=
  (∀ s : State, s.part.up = true →
      exec .badFrame s = .next { s with part := { s.part with line := { s.part.line with
        counts := { s.part.line.counts with bad := min (s.part.line.counts.bad + 1) 65535 } } } }
      ∧ exec .malformedFrame s = .next { s with part := { s.part with line := { s.part.line with
        counts := { s.part.line.counts with malformed := min (s.part.line.counts.malformed + 1) 65535 } } } }
      ∧ (∀ c chars, heardCharsOf c = some chars →
          (judgeSpell chars = .bad → exec c s = exec .badFrame s)
            ∧ (judgeSpell chars = .malformed → exec c s = exec .malformedFrame s))
      ∧ (∀ c f, frameOf c = some f →
        (f.ok = false → exec c s = exec .malformedFrame s)
        ∧ (f.ok = true → s.part.awake = false → exec c s = .next { s with part := { s.part with
          peers := { s.part.peers with unheeded := min (s.part.peers.unheeded + 1) 65535 } } })
        ∧ (f.ok = true → s.part.awake = true → f.sender = s.part.ownNode →
            ∃ t, exec c s = .next t ∧ t.pending = s.pending ∧ t.part.quota = s.part.quota
              ∧ t.part.board = s.part.board ∧ t.part.clock = s.part.clock
              ∧ t.part.peers.duplicateNode = min (s.part.peers.duplicateNode + 1) 65535
              ∧ t.part.peers.records = s.part.peers.records
              ∧ (s.part.doze.state = .dozing → s.part.notices.entries.length < 64 →
                  (∀ x, s.part.peers.duplicateNodeTime = some x → x + 60000 ≤ s.part.lineTime) →
                  t.part.doze.state = .running
                    ∧ ∃ w, t.part.doze.lastWake = some w ∧ w.cause = .notice .duplicateNode))
        ∧ (f.ok = true → s.part.awake = true → f.sender ≠ s.part.ownNode →
            s.part.isDuplicate f.sender f.seq = true →
            exec c s = .next { s with part := { s.part with line := { s.part.line with
              counts := { s.part.line.counts with
                duplicate := min (s.part.line.counts.duplicate + 1) 65535 } } } })))
  ∧ (∀ (p : Part) (f : LineFrame) (r : PeerRecord), f.ok = true → p.Hears f.sender f.seq → (∀ b, f.payload ≠ .beacon b) →
      p.peers.find f.sender = some r →
      (p.receiveFrame f).peers.find f.sender = some { r with
          state := .present, lastHeard := some p.lineTime, lastSeq := some f.seq,
          silentDeadline := some (p.lineTime + 3 * p.beaconMs), goneDeadline := some (p.lineTime + 10 * p.beaconMs) }
        ∧ (∀ n, n ≠ f.sender → (p.receiveFrame f).peers.find n = p.peers.find n))
  ∧ (∀ (p : Part) (f : LineFrame) (b : BeaconPayload) (r : PeerRecord), f.ok = true → p.Hears f.sender f.seq →
      f.payload = .beacon b → p.peers.find f.sender = some r →
      (p.receiveFrame f).peers.find f.sender = some { r with
          state := .present, lastHeard := some p.lineTime, lastSeq := some f.seq,
          silentDeadline := some (p.lineTime + 3 * p.beaconMs), goneDeadline := some (p.lineTime + 10 * p.beaconMs),
          advert := some ⟨b.roles, b.sellerIndex, b.stratum, b.timetable, b.fare, b.freeSlots⟩,
          clash := r.clash || (match p.port.record with
            | none => false
            | some own => own.roles.sells && b.roles.sells && decide (b.sellerIndex = own.sellerIndex)) }
        ∧ (∀ n, n ≠ f.sender → (p.receiveFrame f).peers.find n = p.peers.find n))

/-! ### The lending of places -/

/-- The shares of all sellers of a quota train sum to its quota total (R114). -/
def Obligations.SharesSumToTheQuota : Prop :=
  ∀ (total n : Nat), 0 < n → ((List.range n).map (fun i => shareOf total n i)).sum = total

/-- An ASK heard by a seller (R122, R123): it enters the watch, and a seller that holds 2 places or more of the train,
with room for the grant and a slot, lends the smaller of the places wanted and half of held, by a GRANT frame, named by
its identity number (log 24). A full watch drops its first record, the earliest heard; of records heard at one line time
that is the one entered first, by the model's choice (log 39). -/
def Obligations.AskIsAnsweredWithAGrant : Prop :=
  ∀ (sender seq : Nat) (a : AskPayload) (l : LedgerRecord) (s : State), s.part.Hears sender seq →
    (Payload.ask a).ok = true → s.part.roles.sells = true →
    (∀ w ∈ s.part.quota.watch, ¬ (w.asker = sender ∧ w.number = seq)) →
    s.part.quota.find a.train = some l →
    ∃ t, exec (.ask (.clean sender seq a)) s = .next t ∧ t.pending = s.pending
      ∧ t.part.quota.watch
          = (if 8 ≤ s.part.quota.watch.length then s.part.quota.watch.drop 1 else s.part.quota.watch)
            ++ [⟨sender, seq, a.train, a.wanted, 0, s.part.lineTime⟩]
      ∧ (∀ k, k ≠ a.train → t.part.quota.find k = s.part.quota.find k)
      ∧ ((s.part.trainSellable a.train = false ∨ s.part.trainLinked a.train = false ∨ l.held < 2) →
          t.part.quota.ledger = s.part.quota.ledger ∧ t.part.line = s.part.line)
      ∧ (s.part.trainSellable a.train = true → s.part.trainLinked a.train = true → 2 ≤ l.held →
          l.grants.length < 8 → s.part.line.hasRoom .urgent = true →
          t.part.quota.find a.train = some { l with
              held := l.held - min a.wanted (l.held / 2)
              lending := l.lending + min a.wanted (l.held / 2)
              grants := l.grants ++ [⟨sender, seq, min a.wanted (l.held / 2), .lending s.part.line.nextFrame, false,
                some s.part.lineTime⟩] }
            ∧ ∃ sl ∈ t.part.line.slots, sl.id = s.part.line.nextFrame ∧ sl.cls = .urgent
                ∧ sl.body = .grant ⟨sender, seq, a.train, min a.wanted (l.held / 2)⟩)
      ∧ t.part.sales = s.part.sales ∧ t.part.board = s.part.board ∧ t.part.clock = s.part.clock

namespace Sys2Proof.Machine

/-- An own LENDING grant `x`, with its frame, cut to the places left by an overheard GRANT (R124): the places cut go to
held, where they may fill a WAITING issue, or to lapsed; the frame carries the new count, and at 0 it is withdrawn and the
grant record removed. -/
def OwnGrantCut (p q : Part) (l : LedgerRecord) (x : GrantRecord) (frame : Nat) (first rest : List GrantRecord)
    (left : Nat) : Prop :=
  let kept : LedgerRecord := { l with
    lending := l.lending - (x.count - left)
    grants := if left = 0 then first ++ rest else first ++ { x with count := left } :: rest }
  let risen : LedgerRecord := { kept with held := l.held + (x.count - left) }
  (p.trainSellable l.train = false →
      q.quota.find l.train = some { kept with lapsed := l.lapsed + (x.count - left) } ∧ q.sales = p.sales)
    ∧ (p.trainSellable l.train = true → (∀ i, p.sales.issue = some i → i.request.inputs.train ≠ some l.train) →
      q.quota.find l.train = some risen ∧ q.sales = p.sales)
    ∧ (∀ i, p.trainSellable l.train = true → p.sales.issue = some i → i.request.inputs.train = some l.train →
      0 < i.needed → ToppedUp p i risen q)
    ∧ (∀ k, k ≠ l.train → q.quota.find k = p.quota.find k)
    ∧ (left = 0 → ∀ sl ∈ q.line.slots, sl.id ≠ frame)
    ∧ (left ≠ 0 → ∀ sl g, p.line.find frame = some sl → sl.body = .grant g →
        q.line.find frame = some { sl with body := .grant { g with count := left } })

end Sys2Proof.Machine

/-- A GRANT for this node's own ask (R120, R121): new, for a linked train and within 99 places, its places go to
received and to held, where they fill the issue in flight for the train and may commit it (R90), or to lapsed for a train no
longer sold, the taking is noted and a TAKEN is offered; repeated, the TAKEN alone is offered again; for no ask of this node,
or beyond 99, it is ignored and counted. A GRANT between two other nodes raises heard-granted of its ask in the watch, up to
99, and cuts a grant of this part's own for that ask that is LENDING, not in transmission and not collided to the places
still wanted; any other it leaves as it is (R124). Of two records for one ask the first in the list is meant, and of two
own grants for it the first that may be cut: the model's choices (log 26). -/
def Obligations.GrantIsTakenOnceOrCounted : Prop :=
  (∀ (sender seq : Nat) (g : GrantPayload) (s : State), s.part.Hears sender seq → (Payload.grant g).ok = true →
      g.asker = s.part.ownNode →
      ∃ t, exec (.grant (.clean sender seq g)) s = .next t ∧ t.pending = s.pending
        ∧ ((∀ a ∈ s.part.quota.asks, ¬ (a.number = g.number ∧ a.train = g.train)) →
            t.part.quota = { s.part.quota with ignoredGrants := min (s.part.quota.ignoredGrants + 1) 65535 }
              ∧ t.part.line = s.part.line ∧ t.part.sales = s.part.sales)
        ∧ (∀ a x, s.part.quota.asks.find? (fun a => a.number = g.number ∧ a.train = g.train) = some a →
            a.takings.find? (fun x => x.granter = sender) = some x →
            t.part.quota = s.part.quota ∧ t.part.sales = s.part.sales
              ∧ t.part.line = (s.part.offer .urgent (.taken ⟨sender, g.number, g.train, x.count⟩)).line)
        ∧ (∀ a l, s.part.quota.asks.find? (fun a => a.number = g.number ∧ a.train = g.train) = some a →
            (∀ x ∈ a.takings, x.granter ≠ sender) → s.part.quota.find g.train = some l →
            ((s.part.trainLinked g.train = false ∨ 99 < l.share + l.received + g.count) →
              t.part.quota = { s.part.quota with ignoredGrants := min (s.part.quota.ignoredGrants + 1) 65535 }
                ∧ t.part.line = s.part.line ∧ t.part.sales = s.part.sales)
            ∧ (s.part.trainLinked g.train = true → l.share + l.received + g.count ≤ 99 →
                (s.part.trainSellable g.train = false →
                  t.part.quota.find g.train
                      = some { l with received := l.received + g.count, lapsed := l.lapsed + g.count }
                    ∧ t.part.sales = s.part.sales ∧ t.part.fares = s.part.fares)
                ∧ (s.part.trainSellable g.train = true →
                  (∀ i, s.part.sales.issue = some i → i.request.inputs.train ≠ some g.train) →
                  t.part.quota.find g.train
                      = some { l with received := l.received + g.count, held := l.held + g.count }
                    ∧ t.part.sales = s.part.sales ∧ t.part.fares = s.part.fares)
                ∧ (∀ i, s.part.trainSellable g.train = true → s.part.sales.issue = some i →
                  i.request.inputs.train = some g.train → 0 < i.needed →
                  ToppedUp s.part i { l with received := l.received + g.count, held := l.held + g.count } t.part)
                ∧ (∃ a' ∈ t.part.quota.asks, a' = { a with takings := a.takings ++ [⟨sender, g.count⟩] })
                ∧ (∀ k, k ≠ g.train → t.part.quota.find k = s.part.quota.find k)
                ∧ t.part.line = (s.part.offer .urgent (.taken ⟨sender, g.number, g.train, g.count⟩)).line))
        ∧ t.part.board = s.part.board ∧ t.part.clock = s.part.clock)
  ∧ (∀ (sender seq : Nat) (g : GrantPayload) (w : WatchRecord) (before after : List WatchRecord) (s : State),
      s.part.Hears sender seq → (Payload.grant g).ok = true → g.asker ≠ s.part.ownNode → sender ≠ g.asker →
      s.part.quota.watch = before ++ w :: after → (∀ x ∈ before, ¬ (x.asker = g.asker ∧ x.number = g.number)) →
      w.asker = g.asker → w.number = g.number →
      let heard := min (w.heardGranted + g.count) 99
      ∃ t, exec (.grant (.clean sender seq g)) s = .next t ∧ t.pending = s.pending
        ∧ t.part.quota.watch = before ++ { w with heardGranted := heard } :: after
        ∧ (∀ l, s.part.quota.find w.train = some l →
            (∀ x ∈ l.grants, ∀ f, x.asker = g.asker → x.number = g.number → x.state = .lending f →
              x.collided = true ∨ s.part.line.inTransmission f = true) →
            t.part.quota.ledger = s.part.quota.ledger ∧ t.part.line = s.part.line ∧ t.part.sales = s.part.sales)
        ∧ (∀ l x f first rest, s.part.quota.find w.train = some l → l.grants = first ++ x :: rest →
            (∀ y ∈ first, ¬ (y.asker = g.asker ∧ y.number = g.number) ∧ y.state ≠ .lending f) →
            x.asker = g.asker → x.number = g.number → x.state = .lending f → x.collided = false →
            s.part.line.inTransmission f = false →
            (x.count ≤ w.wanted - heard →
              t.part.quota.ledger = s.part.quota.ledger ∧ t.part.line = s.part.line
                ∧ t.part.sales = s.part.sales)
            ∧ (w.wanted - heard < x.count → OwnGrantCut s.part t.part l x f first rest (w.wanted - heard)))
        ∧ t.part.board = s.part.board ∧ t.part.clock = s.part.clock)

/-- A TAKEN for this node settles the grant it names (R127): its places go from the counter of the grant's state to
lent and the grant record is removed, and the frame of a LENDING one is withdrawn unless it is in transmission; without
a match the unmatched count rises. Of several grants that match the first in the list is meant: the model's choice
(log 26). -/
def Obligations.TakenSettlesTheGrant : Prop :=
  ∀ (sender seq : Nat) (k : TakenPayload) (s : State), s.part.Hears sender seq → (Payload.taken k).ok = true →
    k.granter = s.part.ownNode →
    ∃ t, exec (.taken (.clean sender seq k)) s = .next t ∧ t.pending = s.pending
      ∧ ((∀ l, s.part.quota.find k.train = some l →
            ∀ x ∈ l.grants, ¬ (x.asker = sender ∧ x.number = k.number ∧ x.count = k.count)) →
          t.part.quota = { s.part.quota with unmatchedTaken := min (s.part.quota.unmatchedTaken + 1) 65535 }
            ∧ t.part.line = s.part.line)
      ∧ (∀ l before g after, s.part.quota.find k.train = some l → l.grants = before ++ g :: after →
          (∀ x ∈ before, ¬ (x.asker = sender ∧ x.number = k.number ∧ x.count = k.count)) →
          g.asker = sender → g.number = k.number → g.count = k.count →
          t.part.quota.find k.train = some { l with
              lent := l.lent + g.count
              lending := if g.isLending then l.lending - g.count else l.lending
              awaiting := if g.isAwaiting then l.awaiting - g.count else l.awaiting
              doubtful := if g.isDoubtful then l.doubtful - g.count else l.doubtful
              grants := before ++ after }
            ∧ (∀ k', k' ≠ k.train → t.part.quota.find k' = s.part.quota.find k')
            ∧ (g.isLending = false → t.part.line = s.part.line)
            ∧ (∀ f, g.state = .lending f → s.part.line.inTransmission f = false →
                ∀ x ∈ t.part.line.slots, x.id ≠ f)
            ∧ (∀ f, g.state = .lending f → s.part.line.inTransmission f = true → t.part.line = s.part.line))
      ∧ t.part.sales = s.part.sales ∧ t.part.board = s.part.board ∧ t.part.clock = s.part.clock
end

