-- ==== Sys2Proof/Laws/Exec.lean ====
section
/-! SUPPORT. The meaning of each command as an equation: the state it goes to, the queue left alone. -/

namespace Sys2Proof.Machine

@[simp] theorem exec_start (x : Sent StartRequest) (s : State) :
    exec (.start x) s =
      .next ⟨s.part.send x .start, s.pending⟩ := rfl

@[simp] theorem exec_restart (x : Sent Unit) (s : State) :
    exec (.restart x) s =
      .next ⟨s.part.send x (fun _ => .restart), s.pending⟩ := rfl

@[simp] theorem exec_setTime (x : Sent SetTimeRequest) (s : State) :
    exec (.setTime x) s =
      .next ⟨s.part.send x .setTime, s.pending⟩ := rfl

@[simp] theorem exec_loadBegin (x : Sent LoadBeginRequest) (s : State) :
    exec (.loadBegin x) s =
      .next ⟨s.part.send x .loadBegin, s.pending⟩ := rfl

@[simp] theorem exec_loadTrain (x : Sent TrainRecord) (s : State) :
    exec (.loadTrain x) s =
      .next ⟨s.part.send x .loadTrain, s.pending⟩ := rfl

@[simp] theorem exec_loadEnd (x : Sent Unit) (s : State) :
    exec (.loadEnd x) s =
      .next ⟨s.part.send x (fun _ => .loadEnd), s.pending⟩ := rfl

@[simp] theorem exec_loadAbort (x : Sent Unit) (s : State) :
    exec (.loadAbort x) s =
      .next ⟨s.part.send x (fun _ => .loadAbort), s.pending⟩ := rfl

@[simp] theorem exec_trainUpdate (x : Sent Update) (s : State) :
    exec (.trainUpdate x) s =
      .next ⟨s.part.send x (fun u => .trainUpdate (some u)), s.pending⟩ := rfl

@[simp] theorem exec_faresBegin (x : Sent Nat) (s : State) :
    exec (.faresBegin x) s =
      .next ⟨s.part.send x .faresBegin, s.pending⟩ := rfl

@[simp] theorem exec_faresItem (x : Sent FareItem) (s : State) :
    exec (.faresItem x) s =
      .next ⟨s.part.send x (fun i => .faresItem (some i)), s.pending⟩ := rfl

@[simp] theorem exec_faresEnd (x : Sent Unit) (s : State) :
    exec (.faresEnd x) s =
      .next ⟨s.part.send x (fun _ => .faresEnd), s.pending⟩ := rfl

@[simp] theorem exec_faresAbort (x : Sent Unit) (s : State) :
    exec (.faresAbort x) s =
      .next ⟨s.part.send x (fun _ => .faresAbort), s.pending⟩ := rfl

@[simp] theorem exec_quote (x : Sent FareInputs) (s : State) :
    exec (.quote x) s =
      .next ⟨s.part.send x .quote, s.pending⟩ := rfl

@[simp] theorem exec_issue (x : Sent IssueRequest) (s : State) :
    exec (.issue x) s =
      .next ⟨s.part.send x .issue, s.pending⟩ := rfl

@[simp] theorem exec_abortIssue (x : Sent Unit) (s : State) :
    exec (.abortIssue x) s =
      .next ⟨s.part.send x (fun _ => .abortIssue), s.pending⟩ := rfl

@[simp] theorem exec_void (x : Sent TicketRef) (s : State) :
    exec (.void x) s =
      .next ⟨s.part.send x .void, s.pending⟩ := rfl

@[simp] theorem exec_readJournal (x : Sent Nat) (s : State) :
    exec (.readJournal x) s =
      .next ⟨s.part.send x .readJournal, s.pending⟩ := rfl

@[simp] theorem exec_releaseJournal (x : Sent Nat) (s : State) :
    exec (.releaseJournal x) s =
      .next ⟨s.part.send x .releaseJournal, s.pending⟩ := rfl

@[simp] theorem exec_takeNotices (x : Sent Unit) (s : State) :
    exec (.takeNotices x) s =
      .next ⟨s.part.send x (fun _ => .takeNotices), s.pending⟩ := rfl

@[simp] theorem exec_readPage (x : Sent Unit) (s : State) :
    exec (.readPage x) s =
      .next ⟨s.part.send x (fun _ => .readPage), s.pending⟩ := rfl

@[simp] theorem exec_readStatus (x : Sent StatusRequest) (s : State) :
    exec (.readStatus x) s =
      .next ⟨s.part.send x .readStatus, s.pending⟩ := rfl

@[simp] theorem exec_clearFlags (x : Sent Unit) (s : State) :
    exec (.clearFlags x) s =
      .next ⟨s.part.send x (fun _ => .clearFlags), s.pending⟩ := rfl

@[simp] theorem exec_doze (x : Sent Unit) (s : State) :
    exec (.doze x) s =
      .next ⟨s.part.send x (fun _ => .doze), s.pending⟩ := rfl

@[simp] theorem exec_fetch (bytes : Nat) (s : State) :
    exec (.fetch bytes) s =
      .next ⟨if s.part.up then s.part.fetch bytes else s.part, s.pending⟩ := rfl

@[simp] theorem exec_powerOn (s : State) :
    exec .powerOn s =
      .next ⟨s.part.powerOn, s.pending⟩ := rfl

@[simp] theorem exec_resetPin (s : State) :
    exec .resetPin s =
      .next ⟨s.part.assertReset, s.pending⟩ := rfl

@[simp] theorem exec_mainSupplyLoss (s : State) :
    exec .mainSupplyLoss s =
      .next ⟨s.part.loseMain, s.pending⟩ := rfl

@[simp] theorem exec_backupLoss (s : State) :
    exec .backupLoss s =
      .next ⟨s.part.loseBackup, s.pending⟩ := rfl

@[simp] theorem exec_selfTestEnd (memoryPasses : Bool) (s : State) :
    exec (.selfTestEnd memoryPasses) s =
      .next ⟨if s.part.selfTesting then s.part.endSelfTest memoryPasses else s.part, s.pending⟩ := rfl

@[simp] theorem exec_lineTimeEnd (s : State) :
    exec .lineTimeEnd s =
      .next ⟨if s.part.lineTimeEnded then s.part.resetWith .restart else s.part, s.pending⟩ := rfl

@[simp] theorem exec_minuteEvent (s : State) :
    exec .minuteEvent s =
      .next ⟨if s.part.minuteCame then s.part.clockCheck else s.part, s.pending⟩ := rfl

@[simp] theorem exec_slewPeriod (s : State) :
    exec .slewPeriod s =
      .next ⟨if s.part.slewCame then s.part.slewPeriod else s.part, s.pending⟩ := rfl

@[simp] theorem exec_sourceDeadline (s : State) :
    exec .sourceDeadline s =
      .next ⟨if s.part.sourceCame then s.part.loseSource else s.part, s.pending⟩ := rfl

@[simp] theorem exec_referenceLapse (s : State) :
    exec .referenceLapse s =
      .next ⟨if s.part.referenceCame then s.part.referenceLapse else s.part, s.pending⟩ := rfl

@[simp] theorem exec_refreshDeadline (t : TrainKey) (s : State) :
    exec (.refreshDeadline t) s =
      .next ⟨match s.part.refreshCame t with | none => s.part | some e => s.part.refreshEntry e, s.pending⟩ := rfl

@[simp] theorem exec_intervalDeadline (s : State) :
    exec .intervalDeadline s =
      .next ⟨if s.part.intervalCame then s.part.turnPage else s.part, s.pending⟩ := rfl

@[simp] theorem exec_askTime (s : State) :
    exec .askTime s =
      .next ⟨match s.part.askCame with | none => s.part | some i => s.part.askAgain i, s.pending⟩ := rfl

@[simp] theorem exec_issueDeadline (s : State) :
    exec .issueDeadline s =
      .next ⟨match s.part.issueCame with | none => s.part | some i => s.part.endIssue i .quotaExhausted LedgerRecord.returnReserved, s.pending⟩ := rfl

@[simp] theorem exec_watchExpiry (asker number : Nat) (s : State) :
    exec (.watchExpiry asker number) s =
      .next ⟨if s.part.acting then s.part.expireWatch asker number else s.part, s.pending⟩ := rfl

@[simp] theorem exec_takenDeadline (t : TrainKey) (asker number : Nat) (s : State) :
    exec (.takenDeadline t asker number) s =
      .next ⟨if s.part.acting then s.part.grantOverdue t asker number else s.part, s.pending⟩ := rfl

@[simp] theorem exec_silentDeadline (node : Nat) (s : State) :
    exec (.silentDeadline node) s =
      .next ⟨if s.part.silentCame node then s.part.peerSilent node else s.part, s.pending⟩ := rfl

@[simp] theorem exec_goneDeadline (node : Nat) (s : State) :
    exec (.goneDeadline node) s =
      .next ⟨if s.part.goneCame node then s.part.peerGone node else s.part, s.pending⟩ := rfl

@[simp] theorem exec_beaconDeadline (s : State) :
    exec .beaconDeadline s =
      .next ⟨if s.part.beaconCame then s.part.beaconDue else s.part, s.pending⟩ := rfl

@[simp] theorem exec_holdOffDeadline (s : State) :
    exec .holdOffDeadline s =
      .next ⟨if s.part.holdOffCame then { s.part with notices := s.part.notices.holdOffEnds } else s.part, s.pending⟩ := rfl

@[simp] theorem exec_keyInputChange (k : Key) (low : Bool) (s : State) :
    exec (.keyInputChange k low) s =
      .next ⟨s.part.keyInput k low, s.pending⟩ := rfl

@[simp] theorem exec_settleDeadline (k : Key) (s : State) :
    exec (.settleDeadline k) s =
      .next ⟨if s.part.settleDue k then s.part.settleKey k else s.part, s.pending⟩ := rfl

@[simp] theorem exec_lineBusy (s : State) :
    exec .lineBusy s =
      .next ⟨if s.part.up then s.part.lineBusy else s.part, s.pending⟩ := rfl

@[simp] theorem exec_lineQuiet (s : State) :
    exec .lineQuiet s =
      .next ⟨if s.part.up then s.part.lineQuiet else s.part, s.pending⟩ := rfl

@[simp] theorem exec_slotEnd (s : State) :
    exec .slotEnd s =
      .next ⟨if s.part.up then s.part.slotEnd else s.part, s.pending⟩ := rfl

@[simp] theorem exec_sentWhole (s : State) :
    exec .sentWhole s =
      .next ⟨if s.part.up then s.part.sentWhole else s.part, s.pending⟩ := rfl

@[simp] theorem exec_collision (s : State) :
    exec .collision s =
      .next ⟨if s.part.up then s.part.collide else s.part, s.pending⟩ := rfl

@[simp] theorem exec_breakEnd (s : State) :
    exec .breakEnd s =
      .next ⟨if s.part.up then s.part.endBreak else s.part, s.pending⟩ := rfl

@[simp] theorem exec_badFrame (s : State) :
    exec .badFrame s =
      .next ⟨if s.part.up then s.part.countBad else s.part, s.pending⟩ := rfl

@[simp] theorem exec_malformedFrame (s : State) :
    exec .malformedFrame s =
      .next ⟨if s.part.up then s.part.countMalformed else s.part, s.pending⟩ := rfl

@[simp] theorem exec_beacon (x : Heard BeaconPayload) (s : State) :
    exec (.beacon x) s =
      .next ⟨s.part.hear x .beacon, s.pending⟩ := rfl

@[simp] theorem exec_train (x : Heard Update) (s : State) :
    exec (.train x) s =
      .next ⟨s.part.hear x .train, s.pending⟩ := rfl

@[simp] theorem exec_ask (x : Heard AskPayload) (s : State) :
    exec (.ask x) s =
      .next ⟨s.part.hear x .ask, s.pending⟩ := rfl

@[simp] theorem exec_grant (x : Heard GrantPayload) (s : State) :
    exec (.grant x) s =
      .next ⟨s.part.hear x .grant, s.pending⟩ := rfl

@[simp] theorem exec_taken (x : Heard TakenPayload) (s : State) :
    exec (.taken x) s =
      .next ⟨s.part.hear x .taken, s.pending⟩ := rfl

@[simp] theorem exec_resetPinRelease (s : State) :
    exec .resetPinRelease s =
      .next ⟨s.part.releaseReset, s.pending⟩ := rfl

end Sys2Proof.Machine
end

