-- ==== Sys2Proof/Laws/Frames.lean ====
section
/-! SUPPORT. What each operation leaves alone: one lemma an operation, naming the blocks it does not touch. -/

namespace Sys2Proof.Machine

@[simp] theorem Part.note_frame (p : Part) (n : Notice) :
    (p.note n).lineTime = p.lineTime ∧ (p.note n).supply = p.supply ∧ (p.note n).retained = p.retained
      ∧ (p.note n).start = p.start ∧ (p.note n).clock = p.clock ∧ (p.note n).board = p.board
      ∧ (p.note n).page = p.page ∧ (p.note n).fares = p.fares ∧ (p.note n).sales = p.sales
      ∧ (p.note n).quota = p.quota ∧ (p.note n).peers = p.peers ∧ (p.note n).line = p.line
      ∧ (p.note n).port = p.port ∧ (p.note n).doze = p.doze ∧ (p.note n).draws = p.draws := by
  simp only [Part.note]; (repeat' split) <;> simp

@[simp] theorem Part.holdPage_frame (p : Part) (i s : Nat) (r : PageRecord) (n : Notice) :
    (p.holdPage i s r n).lineTime = p.lineTime ∧ (p.holdPage i s r n).supply = p.supply
      ∧ (p.holdPage i s r n).retained = p.retained ∧ (p.holdPage i s r n).start = p.start
      ∧ (p.holdPage i s r n).clock = p.clock ∧ (p.holdPage i s r n).board = p.board
      ∧ (p.holdPage i s r n).fares = p.fares ∧ (p.holdPage i s r n).sales = p.sales
      ∧ (p.holdPage i s r n).quota = p.quota ∧ (p.holdPage i s r n).peers = p.peers
      ∧ (p.holdPage i s r n).line = p.line ∧ (p.holdPage i s r n).port = p.port
      ∧ (p.holdPage i s r n).doze = p.doze ∧ (p.holdPage i s r n).draws = p.draws := by
  simp only [Part.holdPage]; (repeat' split) <;> simp

@[simp] theorem Part.rebuild_frame (p : Part) (f : Nat → Nat → Nat) :
    (p.rebuild f).lineTime = p.lineTime ∧ (p.rebuild f).supply = p.supply
      ∧ (p.rebuild f).retained = p.retained ∧ (p.rebuild f).start = p.start ∧ (p.rebuild f).clock = p.clock
      ∧ (p.rebuild f).board = p.board ∧ (p.rebuild f).fares = p.fares ∧ (p.rebuild f).sales = p.sales
      ∧ (p.rebuild f).quota = p.quota ∧ (p.rebuild f).peers = p.peers ∧ (p.rebuild f).line = p.line
      ∧ (p.rebuild f).port = p.port ∧ (p.rebuild f).doze = p.doze ∧ (p.rebuild f).draws = p.draws := by
  simp only [Part.rebuild]; (repeat' split) <;> simp

@[simp] theorem Part.boardChanged_frame (p : Part) :
    (p.boardChanged).lineTime = p.lineTime ∧ (p.boardChanged).supply = p.supply
      ∧ (p.boardChanged).retained = p.retained ∧ (p.boardChanged).start = p.start
      ∧ (p.boardChanged).clock = p.clock ∧ (p.boardChanged).board = p.board ∧ (p.boardChanged).fares = p.fares
      ∧ (p.boardChanged).sales = p.sales ∧ (p.boardChanged).quota = p.quota ∧ (p.boardChanged).peers = p.peers
      ∧ (p.boardChanged).line = p.line ∧ (p.boardChanged).port = p.port ∧ (p.boardChanged).doze = p.doze
      ∧ (p.boardChanged).draws = p.draws := by
  simp only [Part.boardChanged]; (repeat' split) <;> simp

@[simp] theorem Part.boardChangedIf_frame (p : Part) (c : Bool) :
    (p.boardChangedIf c).lineTime = p.lineTime ∧ (p.boardChangedIf c).supply = p.supply
      ∧ (p.boardChangedIf c).retained = p.retained ∧ (p.boardChangedIf c).start = p.start
      ∧ (p.boardChangedIf c).clock = p.clock ∧ (p.boardChangedIf c).board = p.board
      ∧ (p.boardChangedIf c).fares = p.fares ∧ (p.boardChangedIf c).sales = p.sales
      ∧ (p.boardChangedIf c).quota = p.quota ∧ (p.boardChangedIf c).peers = p.peers
      ∧ (p.boardChangedIf c).line = p.line ∧ (p.boardChangedIf c).port = p.port
      ∧ (p.boardChangedIf c).doze = p.doze ∧ (p.boardChangedIf c).draws = p.draws := by
  simp only [Part.boardChangedIf]; (repeat' split) <;> simp

@[simp] theorem Part.startPages_frame (p : Part) :
    (p.startPages).lineTime = p.lineTime ∧ (p.startPages).supply = p.supply
      ∧ (p.startPages).retained = p.retained ∧ (p.startPages).start = p.start ∧ (p.startPages).clock = p.clock
      ∧ (p.startPages).board = p.board ∧ (p.startPages).fares = p.fares ∧ (p.startPages).sales = p.sales
      ∧ (p.startPages).quota = p.quota ∧ (p.startPages).peers = p.peers ∧ (p.startPages).line = p.line
      ∧ (p.startPages).port = p.port ∧ (p.startPages).doze = p.doze ∧ (p.startPages).draws = p.draws := by
  simp only [Part.startPages]; (repeat' split) <;> simp

@[simp] theorem Part.wake_frame (p : Part) (c : WakeCause) :
    (p.wake c).lineTime = p.lineTime ∧ (p.wake c).supply = p.supply ∧ (p.wake c).retained = p.retained
      ∧ (p.wake c).start = p.start ∧ (p.wake c).clock = p.clock ∧ (p.wake c).board = p.board
      ∧ (p.wake c).fares = p.fares ∧ (p.wake c).sales = p.sales ∧ (p.wake c).quota = p.quota
      ∧ (p.wake c).peers = p.peers ∧ (p.wake c).line = p.line ∧ (p.wake c).port = p.port
      ∧ (p.wake c).draws = p.draws := by
  simp only [Part.wake]; (repeat' split) <;> simp

@[simp] theorem Part.post_frame (p : Part) (n : Notice) :
    (p.post n).lineTime = p.lineTime ∧ (p.post n).supply = p.supply ∧ (p.post n).retained = p.retained
      ∧ (p.post n).start = p.start ∧ (p.post n).clock = p.clock ∧ (p.post n).board = p.board
      ∧ (p.post n).fares = p.fares ∧ (p.post n).sales = p.sales ∧ (p.post n).quota = p.quota
      ∧ (p.post n).peers = p.peers ∧ (p.post n).line = p.line ∧ (p.post n).port = p.port
      ∧ (p.post n).draws = p.draws := by
  simp only [Part.post]; (repeat' split) <;> simp

@[simp] theorem Part.startAttempt_frame (p : Part) (sl : Slot) :
    (p.startAttempt sl).lineTime = p.lineTime ∧ (p.startAttempt sl).supply = p.supply
      ∧ (p.startAttempt sl).retained = p.retained ∧ (p.startAttempt sl).start = p.start
      ∧ (p.startAttempt sl).clock = p.clock ∧ (p.startAttempt sl).board = p.board
      ∧ (p.startAttempt sl).page = p.page ∧ (p.startAttempt sl).fares = p.fares
      ∧ (p.startAttempt sl).sales = p.sales ∧ (p.startAttempt sl).quota = p.quota
      ∧ (p.startAttempt sl).peers = p.peers ∧ (p.startAttempt sl).notices = p.notices
      ∧ (p.startAttempt sl).port = p.port ∧ (p.startAttempt sl).doze = p.doze
      ∧ (p.startAttempt sl).draws = p.draws := by
  simp only [Part.startAttempt]; (repeat' split) <;> simp

@[simp] theorem Part.runWait_frame (p : Part) (sl : Slot) (w : Nat) :
    (p.runWait sl w).lineTime = p.lineTime ∧ (p.runWait sl w).supply = p.supply
      ∧ (p.runWait sl w).retained = p.retained ∧ (p.runWait sl w).start = p.start
      ∧ (p.runWait sl w).clock = p.clock ∧ (p.runWait sl w).board = p.board ∧ (p.runWait sl w).page = p.page
      ∧ (p.runWait sl w).fares = p.fares ∧ (p.runWait sl w).sales = p.sales ∧ (p.runWait sl w).quota = p.quota
      ∧ (p.runWait sl w).peers = p.peers ∧ (p.runWait sl w).notices = p.notices
      ∧ (p.runWait sl w).port = p.port ∧ (p.runWait sl w).doze = p.doze ∧ (p.runWait sl w).draws = p.draws := by
  simp only [Part.runWait]; (repeat' split) <;> simp

@[simp] theorem Part.choose_frame (p : Part) :
    (p.choose).lineTime = p.lineTime ∧ (p.choose).supply = p.supply ∧ (p.choose).retained = p.retained
      ∧ (p.choose).start = p.start ∧ (p.choose).clock = p.clock ∧ (p.choose).board = p.board
      ∧ (p.choose).page = p.page ∧ (p.choose).fares = p.fares ∧ (p.choose).sales = p.sales
      ∧ (p.choose).quota = p.quota ∧ (p.choose).peers = p.peers ∧ (p.choose).notices = p.notices
      ∧ (p.choose).port = p.port ∧ (p.choose).doze = p.doze := by
  simp only [Part.choose]; (repeat' split) <;> simp

@[simp] theorem Part.settleTransmitter_frame (p : Part) :
    (p.settleTransmitter).lineTime = p.lineTime ∧ (p.settleTransmitter).supply = p.supply
      ∧ (p.settleTransmitter).retained = p.retained ∧ (p.settleTransmitter).start = p.start
      ∧ (p.settleTransmitter).clock = p.clock ∧ (p.settleTransmitter).board = p.board
      ∧ (p.settleTransmitter).page = p.page ∧ (p.settleTransmitter).fares = p.fares
      ∧ (p.settleTransmitter).sales = p.sales ∧ (p.settleTransmitter).quota = p.quota
      ∧ (p.settleTransmitter).peers = p.peers ∧ (p.settleTransmitter).notices = p.notices
      ∧ (p.settleTransmitter).port = p.port ∧ (p.settleTransmitter).doze = p.doze := by
  simp only [Part.settleTransmitter]; (repeat' split) <;> simp

@[simp] theorem Part.offer_frame (p : Part) (c : FrameClass) (b : FrameBody) :
    (p.offer c b).lineTime = p.lineTime ∧ (p.offer c b).supply = p.supply
      ∧ (p.offer c b).retained = p.retained ∧ (p.offer c b).start = p.start ∧ (p.offer c b).clock = p.clock
      ∧ (p.offer c b).board = p.board ∧ (p.offer c b).page = p.page ∧ (p.offer c b).fares = p.fares
      ∧ (p.offer c b).sales = p.sales ∧ (p.offer c b).quota = p.quota ∧ (p.offer c b).peers = p.peers
      ∧ (p.offer c b).notices = p.notices ∧ (p.offer c b).port = p.port ∧ (p.offer c b).doze = p.doze := by
  simp only [Part.offer]; (repeat' split) <;> simp

@[simp] theorem Part.withdraw_frame (p : Part) (ids : List Nat) :
    (p.withdraw ids).lineTime = p.lineTime ∧ (p.withdraw ids).supply = p.supply
      ∧ (p.withdraw ids).retained = p.retained ∧ (p.withdraw ids).start = p.start
      ∧ (p.withdraw ids).clock = p.clock ∧ (p.withdraw ids).board = p.board ∧ (p.withdraw ids).page = p.page
      ∧ (p.withdraw ids).fares = p.fares ∧ (p.withdraw ids).sales = p.sales ∧ (p.withdraw ids).quota = p.quota
      ∧ (p.withdraw ids).peers = p.peers ∧ (p.withdraw ids).notices = p.notices
      ∧ (p.withdraw ids).port = p.port ∧ (p.withdraw ids).doze = p.doze := by
  simp only [Part.withdraw]; (repeat' split) <;> simp

@[simp] theorem Part.reduceGrant_frame (p : Part) (i c : Nat) :
    (p.reduceGrant i c).lineTime = p.lineTime ∧ (p.reduceGrant i c).supply = p.supply
      ∧ (p.reduceGrant i c).retained = p.retained ∧ (p.reduceGrant i c).start = p.start
      ∧ (p.reduceGrant i c).clock = p.clock ∧ (p.reduceGrant i c).board = p.board
      ∧ (p.reduceGrant i c).page = p.page ∧ (p.reduceGrant i c).fares = p.fares
      ∧ (p.reduceGrant i c).sales = p.sales ∧ (p.reduceGrant i c).quota = p.quota
      ∧ (p.reduceGrant i c).peers = p.peers ∧ (p.reduceGrant i c).notices = p.notices
      ∧ (p.reduceGrant i c).port = p.port ∧ (p.reduceGrant i c).doze = p.doze
      ∧ (p.reduceGrant i c).draws = p.draws := by
  simp only [Part.reduceGrant]; (repeat' split) <;> simp

@[simp] theorem Part.gatherFlags_frame (p : Part) (f : FareFlags) :
    (p.gatherFlags f).lineTime = p.lineTime ∧ (p.gatherFlags f).supply = p.supply
      ∧ (p.gatherFlags f).retained = p.retained ∧ (p.gatherFlags f).start = p.start
      ∧ (p.gatherFlags f).clock = p.clock ∧ (p.gatherFlags f).board = p.board
      ∧ (p.gatherFlags f).page = p.page ∧ (p.gatherFlags f).sales = p.sales
      ∧ (p.gatherFlags f).quota = p.quota ∧ (p.gatherFlags f).peers = p.peers
      ∧ (p.gatherFlags f).line = p.line ∧ (p.gatherFlags f).notices = p.notices
      ∧ (p.gatherFlags f).port = p.port ∧ (p.gatherFlags f).doze = p.doze ∧ (p.gatherFlags f).draws = p.draws := by
  simp only [Part.gatherFlags]; (repeat' split) <;> simp

@[simp] theorem Part.computeFare_frame (p : Part) (i : FareInputs) :
    (p.computeFare i).1.lineTime = p.lineTime ∧ (p.computeFare i).1.supply = p.supply
      ∧ (p.computeFare i).1.retained = p.retained ∧ (p.computeFare i).1.start = p.start
      ∧ (p.computeFare i).1.clock = p.clock ∧ (p.computeFare i).1.board = p.board
      ∧ (p.computeFare i).1.page = p.page ∧ (p.computeFare i).1.sales = p.sales
      ∧ (p.computeFare i).1.quota = p.quota ∧ (p.computeFare i).1.peers = p.peers
      ∧ (p.computeFare i).1.line = p.line ∧ (p.computeFare i).1.notices = p.notices
      ∧ (p.computeFare i).1.port = p.port ∧ (p.computeFare i).1.doze = p.doze
      ∧ (p.computeFare i).1.draws = p.draws := by
  simp only [Part.computeFare]; (repeat' split) <;> simp

@[simp] theorem Part.moveOn_frame (p : Part) (t : Option TrainKey) (f : LedgerRecord → LedgerRecord) :
    (p.moveOn t f).lineTime = p.lineTime ∧ (p.moveOn t f).supply = p.supply
      ∧ (p.moveOn t f).retained = p.retained ∧ (p.moveOn t f).start = p.start ∧ (p.moveOn t f).clock = p.clock
      ∧ (p.moveOn t f).board = p.board ∧ (p.moveOn t f).page = p.page ∧ (p.moveOn t f).fares = p.fares
      ∧ (p.moveOn t f).sales = p.sales ∧ (p.moveOn t f).peers = p.peers ∧ (p.moveOn t f).line = p.line
      ∧ (p.moveOn t f).notices = p.notices ∧ (p.moveOn t f).port = p.port ∧ (p.moveOn t f).doze = p.doze
      ∧ (p.moveOn t f).draws = p.draws := by
  simp only [Part.moveOn]; (repeat' split) <;> simp

@[simp] theorem Part.write_frame (p : Part) (n : Nat) (b : JournalBody) :
    (p.write n b).lineTime = p.lineTime ∧ (p.write n b).supply = p.supply
      ∧ (p.write n b).retained = p.retained ∧ (p.write n b).start = p.start ∧ (p.write n b).clock = p.clock
      ∧ (p.write n b).board = p.board ∧ (p.write n b).page = p.page ∧ (p.write n b).fares = p.fares
      ∧ (p.write n b).quota = p.quota ∧ (p.write n b).peers = p.peers ∧ (p.write n b).line = p.line
      ∧ (p.write n b).notices = p.notices ∧ (p.write n b).port = p.port ∧ (p.write n b).doze = p.doze
      ∧ (p.write n b).draws = p.draws := by
  simp only [Part.write]; (repeat' split) <;> simp

@[simp] theorem Part.countOverrun_frame (p : Part) :
    (p.countOverrun).lineTime = p.lineTime ∧ (p.countOverrun).supply = p.supply
      ∧ (p.countOverrun).retained = p.retained ∧ (p.countOverrun).start = p.start
      ∧ (p.countOverrun).clock = p.clock ∧ (p.countOverrun).board = p.board ∧ (p.countOverrun).page = p.page
      ∧ (p.countOverrun).fares = p.fares ∧ (p.countOverrun).quota = p.quota ∧ (p.countOverrun).peers = p.peers
      ∧ (p.countOverrun).line = p.line ∧ (p.countOverrun).notices = p.notices ∧ (p.countOverrun).port = p.port
      ∧ (p.countOverrun).doze = p.doze ∧ (p.countOverrun).draws = p.draws := by
  simp only [Part.countOverrun]; (repeat' split) <;> simp

@[simp] theorem Part.overrunOldest_frame (p : Part) :
    (p.overrunOldest).lineTime = p.lineTime ∧ (p.overrunOldest).supply = p.supply
      ∧ (p.overrunOldest).retained = p.retained ∧ (p.overrunOldest).start = p.start
      ∧ (p.overrunOldest).clock = p.clock ∧ (p.overrunOldest).board = p.board
      ∧ (p.overrunOldest).fares = p.fares ∧ (p.overrunOldest).quota = p.quota
      ∧ (p.overrunOldest).peers = p.peers ∧ (p.overrunOldest).line = p.line ∧ (p.overrunOldest).port = p.port
      ∧ (p.overrunOldest).draws = p.draws := by
  simp only [Part.overrunOldest]; (repeat' split) <;> simp

@[simp] theorem Part.writeAlways_frame (p : Part) (b : JournalBody) :
    (p.writeAlways b).lineTime = p.lineTime ∧ (p.writeAlways b).supply = p.supply
      ∧ (p.writeAlways b).retained = p.retained ∧ (p.writeAlways b).start = p.start
      ∧ (p.writeAlways b).clock = p.clock ∧ (p.writeAlways b).board = p.board
      ∧ (p.writeAlways b).fares = p.fares ∧ (p.writeAlways b).quota = p.quota
      ∧ (p.writeAlways b).peers = p.peers ∧ (p.writeAlways b).line = p.line ∧ (p.writeAlways b).port = p.port
      ∧ (p.writeAlways b).draws = p.draws := by
  simp only [Part.writeAlways]; (repeat' split) <;> simp

@[simp] theorem Part.clearIssue_frame (p : Part) :
    (p.clearIssue).lineTime = p.lineTime ∧ (p.clearIssue).supply = p.supply
      ∧ (p.clearIssue).retained = p.retained ∧ (p.clearIssue).start = p.start ∧ (p.clearIssue).clock = p.clock
      ∧ (p.clearIssue).board = p.board ∧ (p.clearIssue).page = p.page ∧ (p.clearIssue).fares = p.fares
      ∧ (p.clearIssue).quota = p.quota ∧ (p.clearIssue).peers = p.peers ∧ (p.clearIssue).line = p.line
      ∧ (p.clearIssue).notices = p.notices ∧ (p.clearIssue).port = p.port ∧ (p.clearIssue).doze = p.doze
      ∧ (p.clearIssue).draws = p.draws := by
  simp only [Part.clearIssue]; (repeat' split) <;> simp

@[simp] theorem Part.completeSale_frame (p : Part) (q : IssueRequest) (r : FareResult) (n : Nat) :
    (p.completeSale q r n).lineTime = p.lineTime ∧ (p.completeSale q r n).supply = p.supply
      ∧ (p.completeSale q r n).retained = p.retained ∧ (p.completeSale q r n).start = p.start
      ∧ (p.completeSale q r n).clock = p.clock ∧ (p.completeSale q r n).board = p.board
      ∧ (p.completeSale q r n).page = p.page ∧ (p.completeSale q r n).fares = p.fares
      ∧ (p.completeSale q r n).peers = p.peers ∧ (p.completeSale q r n).line = p.line
      ∧ (p.completeSale q r n).notices = p.notices ∧ (p.completeSale q r n).port = p.port
      ∧ (p.completeSale q r n).doze = p.doze ∧ (p.completeSale q r n).draws = p.draws := by
  simp only [Part.completeSale]; (repeat' split) <;> simp

@[simp] theorem Part.commit_frame (p : Part) (q : IssueRequest) (n : Nat) :
    (p.commit q n).1.lineTime = p.lineTime ∧ (p.commit q n).1.supply = p.supply
      ∧ (p.commit q n).1.retained = p.retained ∧ (p.commit q n).1.start = p.start
      ∧ (p.commit q n).1.clock = p.clock ∧ (p.commit q n).1.board = p.board ∧ (p.commit q n).1.page = p.page
      ∧ (p.commit q n).1.peers = p.peers ∧ (p.commit q n).1.line = p.line
      ∧ (p.commit q n).1.notices = p.notices ∧ (p.commit q n).1.port = p.port ∧ (p.commit q n).1.doze = p.doze
      ∧ (p.commit q n).1.draws = p.draws := by
  simp only [Part.commit]; (repeat' split) <;> simp

@[simp] theorem Part.topUp_frame (p : Part) (t : TrainKey) :
    (p.topUp t).lineTime = p.lineTime ∧ (p.topUp t).supply = p.supply ∧ (p.topUp t).retained = p.retained
      ∧ (p.topUp t).start = p.start ∧ (p.topUp t).clock = p.clock ∧ (p.topUp t).board = p.board
      ∧ (p.topUp t).peers = p.peers ∧ (p.topUp t).line = p.line ∧ (p.topUp t).port = p.port
      ∧ (p.topUp t).draws = p.draws := by
  simp only [Part.topUp]; (repeat' split) <;> simp

@[simp] theorem Part.endIssue_frame (p : Part) (i : IssueRecord) (c : ResultCode) (m : LedgerRecord → LedgerRecord) :
    (p.endIssue i c m).lineTime = p.lineTime ∧ (p.endIssue i c m).supply = p.supply
      ∧ (p.endIssue i c m).retained = p.retained ∧ (p.endIssue i c m).start = p.start
      ∧ (p.endIssue i c m).clock = p.clock ∧ (p.endIssue i c m).board = p.board
      ∧ (p.endIssue i c m).fares = p.fares ∧ (p.endIssue i c m).peers = p.peers
      ∧ (p.endIssue i c m).line = p.line ∧ (p.endIssue i c m).port = p.port
      ∧ (p.endIssue i c m).draws = p.draws := by
  simp only [Part.endIssue]; (repeat' split) <;> simp

@[simp] theorem Part.salesTrainLeft_frame (p : Part) (t : TrainKey) (c : ResultCode) :
    (p.salesTrainLeft t c).lineTime = p.lineTime ∧ (p.salesTrainLeft t c).supply = p.supply
      ∧ (p.salesTrainLeft t c).retained = p.retained ∧ (p.salesTrainLeft t c).start = p.start
      ∧ (p.salesTrainLeft t c).clock = p.clock ∧ (p.salesTrainLeft t c).board = p.board
      ∧ (p.salesTrainLeft t c).fares = p.fares ∧ (p.salesTrainLeft t c).peers = p.peers
      ∧ (p.salesTrainLeft t c).line = p.line ∧ (p.salesTrainLeft t c).port = p.port
      ∧ (p.salesTrainLeft t c).draws = p.draws := by
  simp only [Part.salesTrainLeft]; (repeat' split) <;> simp

@[simp] theorem Part.closeDay_frame (p : Part) (d : Nat) :
    (p.closeDay d).lineTime = p.lineTime ∧ (p.closeDay d).supply = p.supply
      ∧ (p.closeDay d).retained = p.retained ∧ (p.closeDay d).start = p.start ∧ (p.closeDay d).clock = p.clock
      ∧ (p.closeDay d).board = p.board ∧ (p.closeDay d).fares = p.fares ∧ (p.closeDay d).quota = p.quota
      ∧ (p.closeDay d).peers = p.peers ∧ (p.closeDay d).line = p.line ∧ (p.closeDay d).port = p.port
      ∧ (p.closeDay d).draws = p.draws := by
  simp only [Part.closeDay]; (repeat' split) <;> simp

@[simp] theorem Part.linkLedger_frame (p : Part) (t : TrainKey) (n : Nat) :
    (p.linkLedger t n).1.lineTime = p.lineTime ∧ (p.linkLedger t n).1.supply = p.supply
      ∧ (p.linkLedger t n).1.retained = p.retained ∧ (p.linkLedger t n).1.start = p.start
      ∧ (p.linkLedger t n).1.clock = p.clock ∧ (p.linkLedger t n).1.board = p.board
      ∧ (p.linkLedger t n).1.fares = p.fares ∧ (p.linkLedger t n).1.sales = p.sales
      ∧ (p.linkLedger t n).1.peers = p.peers ∧ (p.linkLedger t n).1.line = p.line
      ∧ (p.linkLedger t n).1.port = p.port ∧ (p.linkLedger t n).1.draws = p.draws := by
  simp only [Part.linkLedger]; (repeat' split) <;> simp

@[simp] theorem Part.sendAsk_frame (p : Part) (t : TrainKey) (n : Nat) :
    (p.sendAsk t n).lineTime = p.lineTime ∧ (p.sendAsk t n).supply = p.supply
      ∧ (p.sendAsk t n).retained = p.retained ∧ (p.sendAsk t n).start = p.start
      ∧ (p.sendAsk t n).clock = p.clock ∧ (p.sendAsk t n).board = p.board ∧ (p.sendAsk t n).page = p.page
      ∧ (p.sendAsk t n).fares = p.fares ∧ (p.sendAsk t n).sales = p.sales ∧ (p.sendAsk t n).peers = p.peers
      ∧ (p.sendAsk t n).notices = p.notices ∧ (p.sendAsk t n).port = p.port ∧ (p.sendAsk t n).doze = p.doze := by
  simp only [Part.sendAsk]; (repeat' split) <;> simp

@[simp] theorem Part.sendTaken_frame (p : Part) (g n : Nat) (t : TrainKey) (c : Nat) :
    (p.sendTaken g n t c).lineTime = p.lineTime ∧ (p.sendTaken g n t c).supply = p.supply
      ∧ (p.sendTaken g n t c).retained = p.retained ∧ (p.sendTaken g n t c).start = p.start
      ∧ (p.sendTaken g n t c).clock = p.clock ∧ (p.sendTaken g n t c).board = p.board
      ∧ (p.sendTaken g n t c).page = p.page ∧ (p.sendTaken g n t c).fares = p.fares
      ∧ (p.sendTaken g n t c).sales = p.sales ∧ (p.sendTaken g n t c).quota = p.quota
      ∧ (p.sendTaken g n t c).peers = p.peers ∧ (p.sendTaken g n t c).notices = p.notices
      ∧ (p.sendTaken g n t c).port = p.port ∧ (p.sendTaken g n t c).doze = p.doze := by
  simp only [Part.sendTaken]; (repeat' split) <;> simp

@[simp] theorem Part.ignoreGrant_frame (p : Part) :
    (p.ignoreGrant).lineTime = p.lineTime ∧ (p.ignoreGrant).supply = p.supply
      ∧ (p.ignoreGrant).retained = p.retained ∧ (p.ignoreGrant).start = p.start
      ∧ (p.ignoreGrant).clock = p.clock ∧ (p.ignoreGrant).board = p.board ∧ (p.ignoreGrant).page = p.page
      ∧ (p.ignoreGrant).fares = p.fares ∧ (p.ignoreGrant).sales = p.sales ∧ (p.ignoreGrant).peers = p.peers
      ∧ (p.ignoreGrant).line = p.line ∧ (p.ignoreGrant).notices = p.notices ∧ (p.ignoreGrant).port = p.port
      ∧ (p.ignoreGrant).doze = p.doze ∧ (p.ignoreGrant).draws = p.draws := by
  simp only [Part.ignoreGrant]; (repeat' split) <;> simp

@[simp] theorem Part.acceptGrant_frame (p : Part) (s : Nat) (g : GrantPayload) (h : Bool) :
    (p.acceptGrant s g h).lineTime = p.lineTime ∧ (p.acceptGrant s g h).supply = p.supply
      ∧ (p.acceptGrant s g h).retained = p.retained ∧ (p.acceptGrant s g h).start = p.start
      ∧ (p.acceptGrant s g h).clock = p.clock ∧ (p.acceptGrant s g h).board = p.board
      ∧ (p.acceptGrant s g h).fares = p.fares ∧ (p.acceptGrant s g h).sales = p.sales
      ∧ (p.acceptGrant s g h).peers = p.peers ∧ (p.acceptGrant s g h).line = p.line
      ∧ (p.acceptGrant s g h).port = p.port ∧ (p.acceptGrant s g h).draws = p.draws := by
  simp only [Part.acceptGrant]; (repeat' split) <;> simp

@[simp] theorem Part.takeGrant_frame (p : Part) (s : Nat) (g : GrantPayload) :
    (p.takeGrant s g).lineTime = p.lineTime ∧ (p.takeGrant s g).supply = p.supply
      ∧ (p.takeGrant s g).retained = p.retained ∧ (p.takeGrant s g).start = p.start
      ∧ (p.takeGrant s g).clock = p.clock ∧ (p.takeGrant s g).board = p.board
      ∧ (p.takeGrant s g).peers = p.peers ∧ (p.takeGrant s g).port = p.port := by
  simp only [Part.takeGrant]; (repeat' split) <;> simp

@[simp] theorem Part.offerGrant_frame (p : Part) (a n : Nat) (t : TrainKey) (g : Nat) :
    (p.offerGrant a n t g).lineTime = p.lineTime ∧ (p.offerGrant a n t g).supply = p.supply
      ∧ (p.offerGrant a n t g).retained = p.retained ∧ (p.offerGrant a n t g).start = p.start
      ∧ (p.offerGrant a n t g).clock = p.clock ∧ (p.offerGrant a n t g).board = p.board
      ∧ (p.offerGrant a n t g).page = p.page ∧ (p.offerGrant a n t g).fares = p.fares
      ∧ (p.offerGrant a n t g).sales = p.sales ∧ (p.offerGrant a n t g).peers = p.peers
      ∧ (p.offerGrant a n t g).notices = p.notices ∧ (p.offerGrant a n t g).port = p.port
      ∧ (p.offerGrant a n t g).doze = p.doze := by
  simp only [Part.offerGrant]; (repeat' split) <;> simp

@[simp] theorem Part.decideGrant_frame (p : Part) (s n : Nat) (a : AskPayload) :
    (p.decideGrant s n a).lineTime = p.lineTime ∧ (p.decideGrant s n a).supply = p.supply
      ∧ (p.decideGrant s n a).retained = p.retained ∧ (p.decideGrant s n a).start = p.start
      ∧ (p.decideGrant s n a).clock = p.clock ∧ (p.decideGrant s n a).board = p.board
      ∧ (p.decideGrant s n a).page = p.page ∧ (p.decideGrant s n a).fares = p.fares
      ∧ (p.decideGrant s n a).sales = p.sales ∧ (p.decideGrant s n a).peers = p.peers
      ∧ (p.decideGrant s n a).notices = p.notices ∧ (p.decideGrant s n a).port = p.port
      ∧ (p.decideGrant s n a).doze = p.doze := by
  simp only [Part.decideGrant]; (repeat' split) <;> simp

@[simp] theorem Part.hearAsk_frame (p : Part) (s n : Nat) (a : AskPayload) :
    (p.hearAsk s n a).lineTime = p.lineTime ∧ (p.hearAsk s n a).supply = p.supply
      ∧ (p.hearAsk s n a).retained = p.retained ∧ (p.hearAsk s n a).start = p.start
      ∧ (p.hearAsk s n a).clock = p.clock ∧ (p.hearAsk s n a).board = p.board
      ∧ (p.hearAsk s n a).page = p.page ∧ (p.hearAsk s n a).fares = p.fares
      ∧ (p.hearAsk s n a).sales = p.sales ∧ (p.hearAsk s n a).peers = p.peers
      ∧ (p.hearAsk s n a).notices = p.notices ∧ (p.hearAsk s n a).port = p.port
      ∧ (p.hearAsk s n a).doze = p.doze := by
  simp only [Part.hearAsk]; (repeat' split) <;> simp

@[simp] theorem Part.cutFrame_frame (p : Part) (f l : Nat) :
    (p.cutFrame f l).lineTime = p.lineTime ∧ (p.cutFrame f l).supply = p.supply
      ∧ (p.cutFrame f l).retained = p.retained ∧ (p.cutFrame f l).start = p.start
      ∧ (p.cutFrame f l).clock = p.clock ∧ (p.cutFrame f l).board = p.board ∧ (p.cutFrame f l).page = p.page
      ∧ (p.cutFrame f l).fares = p.fares ∧ (p.cutFrame f l).sales = p.sales ∧ (p.cutFrame f l).quota = p.quota
      ∧ (p.cutFrame f l).peers = p.peers ∧ (p.cutFrame f l).notices = p.notices
      ∧ (p.cutFrame f l).port = p.port ∧ (p.cutFrame f l).doze = p.doze := by
  simp only [Part.cutFrame]; (repeat' split) <;> simp

@[simp] theorem Part.cutOwnGrant_frame (p : Part) (t : TrainKey) (a n l : Nat) :
    (p.cutOwnGrant t a n l).lineTime = p.lineTime ∧ (p.cutOwnGrant t a n l).supply = p.supply
      ∧ (p.cutOwnGrant t a n l).retained = p.retained ∧ (p.cutOwnGrant t a n l).start = p.start
      ∧ (p.cutOwnGrant t a n l).clock = p.clock ∧ (p.cutOwnGrant t a n l).board = p.board
      ∧ (p.cutOwnGrant t a n l).peers = p.peers ∧ (p.cutOwnGrant t a n l).port = p.port := by
  simp only [Part.cutOwnGrant]; (repeat' split) <;> simp

@[simp] theorem Part.overhearGrant_frame (p : Part) (s : Nat) (g : GrantPayload) :
    (p.overhearGrant s g).lineTime = p.lineTime ∧ (p.overhearGrant s g).supply = p.supply
      ∧ (p.overhearGrant s g).retained = p.retained ∧ (p.overhearGrant s g).start = p.start
      ∧ (p.overhearGrant s g).clock = p.clock ∧ (p.overhearGrant s g).board = p.board
      ∧ (p.overhearGrant s g).peers = p.peers ∧ (p.overhearGrant s g).port = p.port := by
  simp only [Part.overhearGrant]; (repeat' split) <;> simp

@[simp] theorem Part.hearGrant_frame (p : Part) (s : Nat) (g : GrantPayload) :
    (p.hearGrant s g).lineTime = p.lineTime ∧ (p.hearGrant s g).supply = p.supply
      ∧ (p.hearGrant s g).retained = p.retained ∧ (p.hearGrant s g).start = p.start
      ∧ (p.hearGrant s g).clock = p.clock ∧ (p.hearGrant s g).board = p.board
      ∧ (p.hearGrant s g).peers = p.peers ∧ (p.hearGrant s g).port = p.port := by
  simp only [Part.hearGrant]; (repeat' split) <;> simp

@[simp] theorem Part.unmatchedTaken_frame (p : Part) :
    (p.unmatchedTaken).lineTime = p.lineTime ∧ (p.unmatchedTaken).supply = p.supply
      ∧ (p.unmatchedTaken).retained = p.retained ∧ (p.unmatchedTaken).start = p.start
      ∧ (p.unmatchedTaken).clock = p.clock ∧ (p.unmatchedTaken).board = p.board
      ∧ (p.unmatchedTaken).page = p.page ∧ (p.unmatchedTaken).fares = p.fares
      ∧ (p.unmatchedTaken).sales = p.sales ∧ (p.unmatchedTaken).peers = p.peers
      ∧ (p.unmatchedTaken).line = p.line ∧ (p.unmatchedTaken).notices = p.notices
      ∧ (p.unmatchedTaken).port = p.port ∧ (p.unmatchedTaken).doze = p.doze
      ∧ (p.unmatchedTaken).draws = p.draws := by
  simp only [Part.unmatchedTaken]; (repeat' split) <;> simp

@[simp] theorem Part.hearTaken_frame (p : Part) (s : Nat) (t : TakenPayload) :
    (p.hearTaken s t).lineTime = p.lineTime ∧ (p.hearTaken s t).supply = p.supply
      ∧ (p.hearTaken s t).retained = p.retained ∧ (p.hearTaken s t).start = p.start
      ∧ (p.hearTaken s t).clock = p.clock ∧ (p.hearTaken s t).board = p.board
      ∧ (p.hearTaken s t).page = p.page ∧ (p.hearTaken s t).fares = p.fares
      ∧ (p.hearTaken s t).sales = p.sales ∧ (p.hearTaken s t).peers = p.peers
      ∧ (p.hearTaken s t).notices = p.notices ∧ (p.hearTaken s t).port = p.port
      ∧ (p.hearTaken s t).doze = p.doze := by
  simp only [Part.hearTaken]; (repeat' split) <;> simp

@[simp] theorem Part.grantSent_frame (p : Part) (f : Nat) :
    (p.grantSent f).lineTime = p.lineTime ∧ (p.grantSent f).supply = p.supply
      ∧ (p.grantSent f).retained = p.retained ∧ (p.grantSent f).start = p.start
      ∧ (p.grantSent f).clock = p.clock ∧ (p.grantSent f).board = p.board ∧ (p.grantSent f).fares = p.fares
      ∧ (p.grantSent f).sales = p.sales ∧ (p.grantSent f).peers = p.peers ∧ (p.grantSent f).line = p.line
      ∧ (p.grantSent f).port = p.port ∧ (p.grantSent f).draws = p.draws := by
  simp only [Part.grantSent]; (repeat' split) <;> simp

@[simp] theorem Part.grantGivenUp_frame (p : Part) (f : Nat) :
    (p.grantGivenUp f).lineTime = p.lineTime ∧ (p.grantGivenUp f).supply = p.supply
      ∧ (p.grantGivenUp f).retained = p.retained ∧ (p.grantGivenUp f).start = p.start
      ∧ (p.grantGivenUp f).clock = p.clock ∧ (p.grantGivenUp f).board = p.board
      ∧ (p.grantGivenUp f).fares = p.fares ∧ (p.grantGivenUp f).sales = p.sales
      ∧ (p.grantGivenUp f).peers = p.peers ∧ (p.grantGivenUp f).line = p.line
      ∧ (p.grantGivenUp f).port = p.port ∧ (p.grantGivenUp f).draws = p.draws := by
  simp only [Part.grantGivenUp]; (repeat' split) <;> simp

@[simp] theorem Part.grantCut_frame (p : Part) (f : Nat) :
    (p.grantCut f).lineTime = p.lineTime ∧ (p.grantCut f).supply = p.supply
      ∧ (p.grantCut f).retained = p.retained ∧ (p.grantCut f).start = p.start ∧ (p.grantCut f).clock = p.clock
      ∧ (p.grantCut f).board = p.board ∧ (p.grantCut f).page = p.page ∧ (p.grantCut f).fares = p.fares
      ∧ (p.grantCut f).sales = p.sales ∧ (p.grantCut f).peers = p.peers ∧ (p.grantCut f).notices = p.notices
      ∧ (p.grantCut f).port = p.port ∧ (p.grantCut f).doze = p.doze := by
  simp only [Part.grantCut]; (repeat' split) <;> simp

@[simp] theorem Part.grantOverdue_frame (p : Part) (t : TrainKey) (a n : Nat) :
    (p.grantOverdue t a n).lineTime = p.lineTime ∧ (p.grantOverdue t a n).supply = p.supply
      ∧ (p.grantOverdue t a n).retained = p.retained ∧ (p.grantOverdue t a n).start = p.start
      ∧ (p.grantOverdue t a n).clock = p.clock ∧ (p.grantOverdue t a n).board = p.board
      ∧ (p.grantOverdue t a n).fares = p.fares ∧ (p.grantOverdue t a n).sales = p.sales
      ∧ (p.grantOverdue t a n).peers = p.peers ∧ (p.grantOverdue t a n).line = p.line
      ∧ (p.grantOverdue t a n).port = p.port ∧ (p.grantOverdue t a n).draws = p.draws := by
  simp only [Part.grantOverdue]; (repeat' split) <;> simp

@[simp] theorem Part.notePeerGone_frame (p : Part) (a : Nat) (r : LedgerRecord) :
    (p.notePeerGone a r).lineTime = p.lineTime ∧ (p.notePeerGone a r).supply = p.supply
      ∧ (p.notePeerGone a r).retained = p.retained ∧ (p.notePeerGone a r).start = p.start
      ∧ (p.notePeerGone a r).clock = p.clock ∧ (p.notePeerGone a r).board = p.board
      ∧ (p.notePeerGone a r).fares = p.fares ∧ (p.notePeerGone a r).sales = p.sales
      ∧ (p.notePeerGone a r).quota = p.quota ∧ (p.notePeerGone a r).peers = p.peers
      ∧ (p.notePeerGone a r).line = p.line ∧ (p.notePeerGone a r).port = p.port
      ∧ (p.notePeerGone a r).draws = p.draws := by
  simp only [Part.notePeerGone]; (repeat' split) <;> simp

@[simp] theorem Part.notePeersGone_frame (p : Part) (a : Nat) (l : List LedgerRecord) :
    (l.foldl (fun q r => q.notePeerGone a r) p).lineTime = p.lineTime
      ∧ (l.foldl (fun q r => q.notePeerGone a r) p).supply = p.supply
      ∧ (l.foldl (fun q r => q.notePeerGone a r) p).retained = p.retained
      ∧ (l.foldl (fun q r => q.notePeerGone a r) p).start = p.start
      ∧ (l.foldl (fun q r => q.notePeerGone a r) p).clock = p.clock
      ∧ (l.foldl (fun q r => q.notePeerGone a r) p).board = p.board
      ∧ (l.foldl (fun q r => q.notePeerGone a r) p).fares = p.fares
      ∧ (l.foldl (fun q r => q.notePeerGone a r) p).sales = p.sales
      ∧ (l.foldl (fun q r => q.notePeerGone a r) p).quota = p.quota
      ∧ (l.foldl (fun q r => q.notePeerGone a r) p).peers = p.peers
      ∧ (l.foldl (fun q r => q.notePeerGone a r) p).line = p.line
      ∧ (l.foldl (fun q r => q.notePeerGone a r) p).port = p.port
      ∧ (l.foldl (fun q r => q.notePeerGone a r) p).draws = p.draws := by
  induction l generalizing p with
  | nil => simp
  | cons r l ih => simp [ih]

@[simp] theorem Part.quotaPeerGone_frame (p : Part) (a : Nat) :
    (p.quotaPeerGone a).lineTime = p.lineTime ∧ (p.quotaPeerGone a).supply = p.supply
      ∧ (p.quotaPeerGone a).retained = p.retained ∧ (p.quotaPeerGone a).start = p.start
      ∧ (p.quotaPeerGone a).clock = p.clock ∧ (p.quotaPeerGone a).board = p.board
      ∧ (p.quotaPeerGone a).fares = p.fares ∧ (p.quotaPeerGone a).sales = p.sales
      ∧ (p.quotaPeerGone a).peers = p.peers ∧ (p.quotaPeerGone a).line = p.line
      ∧ (p.quotaPeerGone a).port = p.port ∧ (p.quotaPeerGone a).draws = p.draws := by
  simp only [Part.quotaPeerGone]; (repeat' split) <;> simp

@[simp] theorem Part.lapseTrain_frame (p : Part) (t : TrainKey) :
    (p.lapseTrain t).lineTime = p.lineTime ∧ (p.lapseTrain t).supply = p.supply
      ∧ (p.lapseTrain t).retained = p.retained ∧ (p.lapseTrain t).start = p.start
      ∧ (p.lapseTrain t).clock = p.clock ∧ (p.lapseTrain t).board = p.board ∧ (p.lapseTrain t).fares = p.fares
      ∧ (p.lapseTrain t).sales = p.sales ∧ (p.lapseTrain t).peers = p.peers ∧ (p.lapseTrain t).port = p.port := by
  simp only [Part.lapseTrain]; (repeat' split) <;> simp

@[simp] theorem Part.purgeLedger_frame (p : Part) (d : Nat) :
    (p.purgeLedger d).lineTime = p.lineTime ∧ (p.purgeLedger d).supply = p.supply
      ∧ (p.purgeLedger d).retained = p.retained ∧ (p.purgeLedger d).start = p.start
      ∧ (p.purgeLedger d).clock = p.clock ∧ (p.purgeLedger d).board = p.board
      ∧ (p.purgeLedger d).page = p.page ∧ (p.purgeLedger d).fares = p.fares
      ∧ (p.purgeLedger d).sales = p.sales ∧ (p.purgeLedger d).peers = p.peers
      ∧ (p.purgeLedger d).line = p.line ∧ (p.purgeLedger d).notices = p.notices
      ∧ (p.purgeLedger d).port = p.port ∧ (p.purgeLedger d).doze = p.doze ∧ (p.purgeLedger d).draws = p.draws := by
  simp only [Part.purgeLedger]; (repeat' split) <;> simp

@[simp] theorem Part.modifyEntry_frame (p : Part) (t : TrainKey) (f : Entry → Entry) :
    (p.modifyEntry t f).lineTime = p.lineTime ∧ (p.modifyEntry t f).supply = p.supply
      ∧ (p.modifyEntry t f).retained = p.retained ∧ (p.modifyEntry t f).start = p.start
      ∧ (p.modifyEntry t f).clock = p.clock ∧ (p.modifyEntry t f).page = p.page
      ∧ (p.modifyEntry t f).fares = p.fares ∧ (p.modifyEntry t f).sales = p.sales
      ∧ (p.modifyEntry t f).quota = p.quota ∧ (p.modifyEntry t f).peers = p.peers
      ∧ (p.modifyEntry t f).line = p.line ∧ (p.modifyEntry t f).notices = p.notices
      ∧ (p.modifyEntry t f).port = p.port ∧ (p.modifyEntry t f).doze = p.doze
      ∧ (p.modifyEntry t f).draws = p.draws := by
  simp only [Part.modifyEntry]; (repeat' split) <;> simp

@[simp] theorem Part.reportLeft_frame (p : Part) (e : Entry) (c : ResultCode) :
    (p.reportLeft e c).lineTime = p.lineTime ∧ (p.reportLeft e c).supply = p.supply
      ∧ (p.reportLeft e c).retained = p.retained ∧ (p.reportLeft e c).start = p.start
      ∧ (p.reportLeft e c).clock = p.clock ∧ (p.reportLeft e c).board = p.board
      ∧ (p.reportLeft e c).fares = p.fares ∧ (p.reportLeft e c).peers = p.peers
      ∧ (p.reportLeft e c).port = p.port := by
  simp only [Part.reportLeft]; (repeat' split) <;> simp

@[simp] theorem Part.enterGone_frame (p : Part) (e : Entry) :
    (p.enterGone e).lineTime = p.lineTime ∧ (p.enterGone e).supply = p.supply
      ∧ (p.enterGone e).retained = p.retained ∧ (p.enterGone e).start = p.start
      ∧ (p.enterGone e).clock = p.clock ∧ (p.enterGone e).fares = p.fares ∧ (p.enterGone e).peers = p.peers
      ∧ (p.enterGone e).port = p.port := by
  simp only [Part.enterGone]; (repeat' split) <;> simp

@[simp] theorem Part.enterCancelled_frame (p : Part) (e : Entry) :
    (p.enterCancelled e).lineTime = p.lineTime ∧ (p.enterCancelled e).supply = p.supply
      ∧ (p.enterCancelled e).retained = p.retained ∧ (p.enterCancelled e).start = p.start
      ∧ (p.enterCancelled e).clock = p.clock ∧ (p.enterCancelled e).fares = p.fares
      ∧ (p.enterCancelled e).peers = p.peers ∧ (p.enterCancelled e).port = p.port := by
  simp only [Part.enterCancelled]; (repeat' split) <;> simp

@[simp] theorem Part.evaluateEntry_frame (p : Part) (e : Entry) (m : Nat) (b : Bool) :
    (p.evaluateEntry e m b).1.lineTime = p.lineTime ∧ (p.evaluateEntry e m b).1.supply = p.supply
      ∧ (p.evaluateEntry e m b).1.retained = p.retained ∧ (p.evaluateEntry e m b).1.start = p.start
      ∧ (p.evaluateEntry e m b).1.clock = p.clock ∧ (p.evaluateEntry e m b).1.fares = p.fares
      ∧ (p.evaluateEntry e m b).1.peers = p.peers ∧ (p.evaluateEntry e m b).1.port = p.port := by
  simp only [Part.evaluateEntry]; (repeat' split) <;> simp

@[simp] theorem Part.evaluateNow_frame (p : Part) (t : TrainKey) (b : Bool) :
    (p.evaluateNow t b).lineTime = p.lineTime ∧ (p.evaluateNow t b).supply = p.supply
      ∧ (p.evaluateNow t b).retained = p.retained ∧ (p.evaluateNow t b).start = p.start
      ∧ (p.evaluateNow t b).clock = p.clock ∧ (p.evaluateNow t b).fares = p.fares
      ∧ (p.evaluateNow t b).peers = p.peers ∧ (p.evaluateNow t b).port = p.port := by
  simp only [Part.evaluateNow]; (repeat' split) <;> simp

@[simp] theorem Part.evaluateAll_frame (p : Part) (m : Nat) (l : List TrainKey) :
    (p.evaluateAll m l).1.lineTime = p.lineTime ∧ (p.evaluateAll m l).1.supply = p.supply
      ∧ (p.evaluateAll m l).1.retained = p.retained ∧ (p.evaluateAll m l).1.start = p.start
      ∧ (p.evaluateAll m l).1.clock = p.clock ∧ (p.evaluateAll m l).1.fares = p.fares
      ∧ (p.evaluateAll m l).1.peers = p.peers ∧ (p.evaluateAll m l).1.port = p.port := by
  induction l generalizing p with
  | nil => simp [Part.evaluateAll]
  | cons t l ih => simp only [Part.evaluateAll]; split <;> simp [ih]

@[simp] theorem Part.boardMinute_frame (p : Part) (m : Nat) :
    (p.boardMinute m).lineTime = p.lineTime ∧ (p.boardMinute m).supply = p.supply
      ∧ (p.boardMinute m).retained = p.retained ∧ (p.boardMinute m).start = p.start
      ∧ (p.boardMinute m).clock = p.clock ∧ (p.boardMinute m).fares = p.fares
      ∧ (p.boardMinute m).peers = p.peers ∧ (p.boardMinute m).port = p.port := by
  simp only [Part.boardMinute]; (repeat' split) <;> simp

@[simp] theorem Part.withdrawTrain_frame (p : Part) (t : TrainKey) :
    (p.withdrawTrain t).lineTime = p.lineTime ∧ (p.withdrawTrain t).supply = p.supply
      ∧ (p.withdrawTrain t).retained = p.retained ∧ (p.withdrawTrain t).start = p.start
      ∧ (p.withdrawTrain t).clock = p.clock ∧ (p.withdrawTrain t).page = p.page
      ∧ (p.withdrawTrain t).fares = p.fares ∧ (p.withdrawTrain t).sales = p.sales
      ∧ (p.withdrawTrain t).quota = p.quota ∧ (p.withdrawTrain t).peers = p.peers
      ∧ (p.withdrawTrain t).notices = p.notices ∧ (p.withdrawTrain t).port = p.port
      ∧ (p.withdrawTrain t).doze = p.doze := by
  simp only [Part.withdrawTrain]; (repeat' split) <;> simp

@[simp] theorem Part.queueTrain_frame (p : Part) (e : Entry) (k : EntryFrame) (c : FrameClass) :
    (p.queueTrain e k c).1.lineTime = p.lineTime ∧ (p.queueTrain e k c).1.supply = p.supply
      ∧ (p.queueTrain e k c).1.retained = p.retained ∧ (p.queueTrain e k c).1.start = p.start
      ∧ (p.queueTrain e k c).1.clock = p.clock ∧ (p.queueTrain e k c).1.page = p.page
      ∧ (p.queueTrain e k c).1.fares = p.fares ∧ (p.queueTrain e k c).1.sales = p.sales
      ∧ (p.queueTrain e k c).1.quota = p.quota ∧ (p.queueTrain e k c).1.peers = p.peers
      ∧ (p.queueTrain e k c).1.notices = p.notices ∧ (p.queueTrain e k c).1.port = p.port
      ∧ (p.queueTrain e k c).1.doze = p.doze := by
  simp only [Part.queueTrain]; (repeat' split) <;> simp

@[simp] theorem Part.trainReported_frame (p : Part) (f : Nat) :
    (p.trainReported f).lineTime = p.lineTime ∧ (p.trainReported f).supply = p.supply
      ∧ (p.trainReported f).retained = p.retained ∧ (p.trainReported f).start = p.start
      ∧ (p.trainReported f).clock = p.clock ∧ (p.trainReported f).page = p.page
      ∧ (p.trainReported f).fares = p.fares ∧ (p.trainReported f).sales = p.sales
      ∧ (p.trainReported f).quota = p.quota ∧ (p.trainReported f).peers = p.peers
      ∧ (p.trainReported f).line = p.line ∧ (p.trainReported f).notices = p.notices
      ∧ (p.trainReported f).port = p.port ∧ (p.trainReported f).doze = p.doze
      ∧ (p.trainReported f).draws = p.draws := by
  simp only [Part.trainReported]; (repeat' split) <;> simp

@[simp] theorem Part.restartRefresh_frame (p : Part) (t : TrainKey) :
    (p.restartRefresh t).lineTime = p.lineTime ∧ (p.restartRefresh t).supply = p.supply
      ∧ (p.restartRefresh t).retained = p.retained ∧ (p.restartRefresh t).start = p.start
      ∧ (p.restartRefresh t).clock = p.clock ∧ (p.restartRefresh t).page = p.page
      ∧ (p.restartRefresh t).fares = p.fares ∧ (p.restartRefresh t).sales = p.sales
      ∧ (p.restartRefresh t).quota = p.quota ∧ (p.restartRefresh t).peers = p.peers
      ∧ (p.restartRefresh t).line = p.line ∧ (p.restartRefresh t).notices = p.notices
      ∧ (p.restartRefresh t).port = p.port ∧ (p.restartRefresh t).doze = p.doze
      ∧ (p.restartRefresh t).draws = p.draws := by
  simp only [Part.restartRefresh]; (repeat' split) <;> simp

@[simp] theorem Part.updateFrames_frame (p : Part) (s : Option Nat) (t : TrainKey) :
    (p.updateFrames s t).1.lineTime = p.lineTime ∧ (p.updateFrames s t).1.supply = p.supply
      ∧ (p.updateFrames s t).1.retained = p.retained ∧ (p.updateFrames s t).1.start = p.start
      ∧ (p.updateFrames s t).1.clock = p.clock ∧ (p.updateFrames s t).1.page = p.page
      ∧ (p.updateFrames s t).1.fares = p.fares ∧ (p.updateFrames s t).1.sales = p.sales
      ∧ (p.updateFrames s t).1.quota = p.quota ∧ (p.updateFrames s t).1.peers = p.peers
      ∧ (p.updateFrames s t).1.notices = p.notices ∧ (p.updateFrames s t).1.port = p.port
      ∧ (p.updateFrames s t).1.doze = p.doze := by
  simp only [Part.updateFrames]; (repeat' split) <;> simp

@[simp] theorem Part.reportCancelled_frame (p : Part) (t : TrainKey) (b : EntryState) :
    (p.reportCancelled t b).lineTime = p.lineTime ∧ (p.reportCancelled t b).supply = p.supply
      ∧ (p.reportCancelled t b).retained = p.retained ∧ (p.reportCancelled t b).start = p.start
      ∧ (p.reportCancelled t b).clock = p.clock ∧ (p.reportCancelled t b).fares = p.fares
      ∧ (p.reportCancelled t b).peers = p.peers ∧ (p.reportCancelled t b).port = p.port := by
  simp only [Part.reportCancelled]; (repeat' split) <;> simp

@[simp] theorem Part.applyUpdate_frame (p : Part) (s : Option Nat) (u : Update) (e : Entry) :
    (p.applyUpdate s u e).1.lineTime = p.lineTime ∧ (p.applyUpdate s u e).1.supply = p.supply
      ∧ (p.applyUpdate s u e).1.retained = p.retained ∧ (p.applyUpdate s u e).1.start = p.start
      ∧ (p.applyUpdate s u e).1.clock = p.clock ∧ (p.applyUpdate s u e).1.fares = p.fares
      ∧ (p.applyUpdate s u e).1.peers = p.peers ∧ (p.applyUpdate s u e).1.port = p.port := by
  simp only [Part.applyUpdate]; (repeat' split) <;> simp

@[simp] theorem Part.removeEntry_frame (p : Part) (e : Entry) :
    (p.removeEntry e).lineTime = p.lineTime ∧ (p.removeEntry e).supply = p.supply
      ∧ (p.removeEntry e).retained = p.retained ∧ (p.removeEntry e).start = p.start
      ∧ (p.removeEntry e).clock = p.clock ∧ (p.removeEntry e).page = p.page
      ∧ (p.removeEntry e).fares = p.fares ∧ (p.removeEntry e).sales = p.sales
      ∧ (p.removeEntry e).quota = p.quota ∧ (p.removeEntry e).peers = p.peers
      ∧ (p.removeEntry e).notices = p.notices ∧ (p.removeEntry e).port = p.port
      ∧ (p.removeEntry e).doze = p.doze := by
  simp only [Part.removeEntry]; (repeat' split) <;> simp

@[simp] theorem Part.addEntry_frame (p : Part) (e : Entry) :
    (p.addEntry e).lineTime = p.lineTime ∧ (p.addEntry e).supply = p.supply
      ∧ (p.addEntry e).retained = p.retained ∧ (p.addEntry e).start = p.start ∧ (p.addEntry e).clock = p.clock
      ∧ (p.addEntry e).fares = p.fares ∧ (p.addEntry e).sales = p.sales ∧ (p.addEntry e).peers = p.peers
      ∧ (p.addEntry e).line = p.line ∧ (p.addEntry e).port = p.port ∧ (p.addEntry e).draws = p.draws := by
  simp only [Part.addEntry]; (repeat' split) <;> simp

@[simp] theorem Part.createEntry_frame (p : Part) (s : Option Nat) (u : Update) (b : NewTrain) (d : Nat) :
    (p.createEntry s u b d).1.lineTime = p.lineTime ∧ (p.createEntry s u b d).1.supply = p.supply
      ∧ (p.createEntry s u b d).1.retained = p.retained ∧ (p.createEntry s u b d).1.start = p.start
      ∧ (p.createEntry s u b d).1.clock = p.clock ∧ (p.createEntry s u b d).1.fares = p.fares
      ∧ (p.createEntry s u b d).1.peers = p.peers ∧ (p.createEntry s u b d).1.port = p.port := by
  simp only [Part.createEntry]; (repeat' split) <;> simp

@[simp] theorem Part.dropUnknown_frame (p : Part) (s : Option Nat) :
    (p.dropUnknown s).1.lineTime = p.lineTime ∧ (p.dropUnknown s).1.supply = p.supply
      ∧ (p.dropUnknown s).1.retained = p.retained ∧ (p.dropUnknown s).1.start = p.start
      ∧ (p.dropUnknown s).1.clock = p.clock ∧ (p.dropUnknown s).1.page = p.page
      ∧ (p.dropUnknown s).1.fares = p.fares ∧ (p.dropUnknown s).1.sales = p.sales
      ∧ (p.dropUnknown s).1.quota = p.quota ∧ (p.dropUnknown s).1.peers = p.peers
      ∧ (p.dropUnknown s).1.line = p.line ∧ (p.dropUnknown s).1.notices = p.notices
      ∧ (p.dropUnknown s).1.port = p.port ∧ (p.dropUnknown s).1.doze = p.doze
      ∧ (p.dropUnknown s).1.draws = p.draws := by
  simp only [Part.dropUnknown]; (repeat' split) <;> simp

@[simp] theorem Part.dropFull_frame (p : Part) (s : Option Nat) (u : Update) :
    (p.dropFull s u).1.lineTime = p.lineTime ∧ (p.dropFull s u).1.supply = p.supply
      ∧ (p.dropFull s u).1.retained = p.retained ∧ (p.dropFull s u).1.start = p.start
      ∧ (p.dropFull s u).1.clock = p.clock ∧ (p.dropFull s u).1.fares = p.fares
      ∧ (p.dropFull s u).1.sales = p.sales ∧ (p.dropFull s u).1.quota = p.quota
      ∧ (p.dropFull s u).1.peers = p.peers ∧ (p.dropFull s u).1.line = p.line
      ∧ (p.dropFull s u).1.port = p.port ∧ (p.dropFull s u).1.draws = p.draws := by
  simp only [Part.dropFull]; (repeat' split) <;> simp

@[simp] theorem Part.newUpdate_frame (p : Part) (s : Option Nat) (u : Update) :
    (p.newUpdate s u).1.lineTime = p.lineTime ∧ (p.newUpdate s u).1.supply = p.supply
      ∧ (p.newUpdate s u).1.retained = p.retained ∧ (p.newUpdate s u).1.start = p.start
      ∧ (p.newUpdate s u).1.clock = p.clock ∧ (p.newUpdate s u).1.fares = p.fares
      ∧ (p.newUpdate s u).1.peers = p.peers ∧ (p.newUpdate s u).1.port = p.port := by
  simp only [Part.newUpdate]; (repeat' split) <;> simp

@[simp] theorem Part.repeatUpdate_frame (p : Part) (s : Option Nat) (u : Update) :
    (p.repeatUpdate s u).1.lineTime = p.lineTime ∧ (p.repeatUpdate s u).1.supply = p.supply
      ∧ (p.repeatUpdate s u).1.retained = p.retained ∧ (p.repeatUpdate s u).1.start = p.start
      ∧ (p.repeatUpdate s u).1.clock = p.clock ∧ (p.repeatUpdate s u).1.page = p.page
      ∧ (p.repeatUpdate s u).1.fares = p.fares ∧ (p.repeatUpdate s u).1.sales = p.sales
      ∧ (p.repeatUpdate s u).1.quota = p.quota ∧ (p.repeatUpdate s u).1.peers = p.peers
      ∧ (p.repeatUpdate s u).1.notices = p.notices ∧ (p.repeatUpdate s u).1.port = p.port
      ∧ (p.repeatUpdate s u).1.doze = p.doze := by
  simp only [Part.repeatUpdate]; (repeat' split) <;> simp

@[simp] theorem Part.olderUpdate_frame (p : Part) (s : Option Nat) (e : Entry) :
    (p.olderUpdate s e).1.lineTime = p.lineTime ∧ (p.olderUpdate s e).1.supply = p.supply
      ∧ (p.olderUpdate s e).1.retained = p.retained ∧ (p.olderUpdate s e).1.start = p.start
      ∧ (p.olderUpdate s e).1.clock = p.clock ∧ (p.olderUpdate s e).1.page = p.page
      ∧ (p.olderUpdate s e).1.fares = p.fares ∧ (p.olderUpdate s e).1.sales = p.sales
      ∧ (p.olderUpdate s e).1.quota = p.quota ∧ (p.olderUpdate s e).1.peers = p.peers
      ∧ (p.olderUpdate s e).1.notices = p.notices ∧ (p.olderUpdate s e).1.port = p.port
      ∧ (p.olderUpdate s e).1.doze = p.doze := by
  simp only [Part.olderUpdate]; (repeat' split) <;> simp

@[simp] theorem Part.takeUpdate_frame (p : Part) (s : Option Nat) (u : Update) :
    (p.takeUpdate s u).1.lineTime = p.lineTime ∧ (p.takeUpdate s u).1.supply = p.supply
      ∧ (p.takeUpdate s u).1.retained = p.retained ∧ (p.takeUpdate s u).1.start = p.start
      ∧ (p.takeUpdate s u).1.clock = p.clock ∧ (p.takeUpdate s u).1.fares = p.fares
      ∧ (p.takeUpdate s u).1.peers = p.peers ∧ (p.takeUpdate s u).1.port = p.port := by
  simp only [Part.takeUpdate]; (repeat' split) <;> simp

@[simp] theorem Part.refreshEntry_frame (p : Part) (e : Entry) :
    (p.refreshEntry e).lineTime = p.lineTime ∧ (p.refreshEntry e).supply = p.supply
      ∧ (p.refreshEntry e).retained = p.retained ∧ (p.refreshEntry e).start = p.start
      ∧ (p.refreshEntry e).clock = p.clock ∧ (p.refreshEntry e).page = p.page
      ∧ (p.refreshEntry e).fares = p.fares ∧ (p.refreshEntry e).sales = p.sales
      ∧ (p.refreshEntry e).quota = p.quota ∧ (p.refreshEntry e).peers = p.peers
      ∧ (p.refreshEntry e).notices = p.notices ∧ (p.refreshEntry e).port = p.port
      ∧ (p.refreshEntry e).doze = p.doze := by
  simp only [Part.refreshEntry]; (repeat' split) <;> simp

@[simp] theorem Part.purgeBoard_frame (p : Part) (d : Nat) :
    (p.purgeBoard d).lineTime = p.lineTime ∧ (p.purgeBoard d).supply = p.supply
      ∧ (p.purgeBoard d).retained = p.retained ∧ (p.purgeBoard d).start = p.start
      ∧ (p.purgeBoard d).clock = p.clock ∧ (p.purgeBoard d).fares = p.fares ∧ (p.purgeBoard d).sales = p.sales
      ∧ (p.purgeBoard d).quota = p.quota ∧ (p.purgeBoard d).peers = p.peers ∧ (p.purgeBoard d).port = p.port
      ∧ (p.purgeBoard d).doze = p.doze := by
  simp only [Part.purgeBoard]; (repeat' split) <;> simp

@[simp] theorem Part.loadEntry_frame (p : Part) (r : TrainRecord) :
    (p.loadEntry r).lineTime = p.lineTime ∧ (p.loadEntry r).supply = p.supply
      ∧ (p.loadEntry r).retained = p.retained ∧ (p.loadEntry r).start = p.start
      ∧ (p.loadEntry r).clock = p.clock ∧ (p.loadEntry r).fares = p.fares ∧ (p.loadEntry r).peers = p.peers
      ∧ (p.loadEntry r).port = p.port := by
  simp only [Part.loadEntry]; (repeat' split) <;> simp

@[simp] theorem Part.withClock_frame (p : Part) (f : HaltClock → HaltClock) :
    (p.withClock f).lineTime = p.lineTime ∧ (p.withClock f).supply = p.supply
      ∧ (p.withClock f).retained = p.retained ∧ (p.withClock f).start = p.start
      ∧ (p.withClock f).board = p.board ∧ (p.withClock f).page = p.page ∧ (p.withClock f).fares = p.fares
      ∧ (p.withClock f).sales = p.sales ∧ (p.withClock f).quota = p.quota ∧ (p.withClock f).peers = p.peers
      ∧ (p.withClock f).line = p.line ∧ (p.withClock f).notices = p.notices ∧ (p.withClock f).port = p.port
      ∧ (p.withClock f).doze = p.doze ∧ (p.withClock f).draws = p.draws := by
  simp only [Part.withClock]; (repeat' split) <;> simp

@[simp] theorem Part.drawOrder_frame (p : Part) :
    (p.drawOrder).lineTime = p.lineTime ∧ (p.drawOrder).supply = p.supply
      ∧ (p.drawOrder).retained = p.retained ∧ (p.drawOrder).start = p.start ∧ (p.drawOrder).clock = p.clock
      ∧ (p.drawOrder).board = p.board ∧ (p.drawOrder).page = p.page ∧ (p.drawOrder).fares = p.fares
      ∧ (p.drawOrder).sales = p.sales ∧ (p.drawOrder).quota = p.quota ∧ (p.drawOrder).peers = p.peers
      ∧ (p.drawOrder).line = p.line ∧ (p.drawOrder).notices = p.notices ∧ (p.drawOrder).port = p.port
      ∧ (p.drawOrder).doze = p.doze := by
  simp only [Part.drawOrder]; (repeat' split) <;> simp

@[simp] theorem Part.dozeMinute_frame (p : Part) :
    (p.dozeMinute).lineTime = p.lineTime ∧ (p.dozeMinute).supply = p.supply
      ∧ (p.dozeMinute).retained = p.retained ∧ (p.dozeMinute).start = p.start ∧ (p.dozeMinute).clock = p.clock
      ∧ (p.dozeMinute).board = p.board ∧ (p.dozeMinute).fares = p.fares ∧ (p.dozeMinute).sales = p.sales
      ∧ (p.dozeMinute).quota = p.quota ∧ (p.dozeMinute).peers = p.peers ∧ (p.dozeMinute).line = p.line
      ∧ (p.dozeMinute).port = p.port ∧ (p.dozeMinute).draws = p.draws := by
  simp only [Part.dozeMinute]; (repeat' split) <;> simp

@[simp] theorem Part.handRollover_frame (p : Part) (n o d : Nat) :
    (p.handRollover n o d).lineTime = p.lineTime ∧ (p.handRollover n o d).supply = p.supply
      ∧ (p.handRollover n o d).retained = p.retained ∧ (p.handRollover n o d).start = p.start
      ∧ (p.handRollover n o d).clock = p.clock ∧ (p.handRollover n o d).fares = p.fares
      ∧ (p.handRollover n o d).peers = p.peers ∧ (p.handRollover n o d).port = p.port := by
  simp only [Part.handRollover, threeInOrder]; split <;> simp

@[simp] theorem Part.rollover_frame (p : Part) (o d : Nat) :
    (p.rollover o d).lineTime = p.lineTime ∧ (p.rollover o d).supply = p.supply
      ∧ (p.rollover o d).retained = p.retained ∧ (p.rollover o d).start = p.start
      ∧ (p.rollover o d).fares = p.fares ∧ (p.rollover o d).peers = p.peers ∧ (p.rollover o d).port = p.port := by
  simp only [Part.rollover]; (repeat' split) <;> simp

@[simp] theorem Part.salesDayCheck_frame (p : Part) :
    (p.salesDayCheck).lineTime = p.lineTime ∧ (p.salesDayCheck).supply = p.supply
      ∧ (p.salesDayCheck).retained = p.retained ∧ (p.salesDayCheck).start = p.start
      ∧ (p.salesDayCheck).fares = p.fares ∧ (p.salesDayCheck).peers = p.peers
      ∧ (p.salesDayCheck).port = p.port := by
  simp only [Part.salesDayCheck]; (repeat' split) <;> simp

@[simp] theorem Part.handMinute_frame (p : Part) (n m : Nat) :
    (p.handMinute n m).lineTime = p.lineTime ∧ (p.handMinute n m).supply = p.supply
      ∧ (p.handMinute n m).retained = p.retained ∧ (p.handMinute n m).start = p.start
      ∧ (p.handMinute n m).clock = p.clock ∧ (p.handMinute n m).fares = p.fares
      ∧ (p.handMinute n m).peers = p.peers ∧ (p.handMinute n m).port = p.port := by
  simp only [Part.handMinute, threeInOrder]; split <;> simp

@[simp] theorem Part.minuteEvent_frame (p : Part) :
    (p.minuteEvent).lineTime = p.lineTime ∧ (p.minuteEvent).supply = p.supply
      ∧ (p.minuteEvent).retained = p.retained ∧ (p.minuteEvent).start = p.start
      ∧ (p.minuteEvent).fares = p.fares ∧ (p.minuteEvent).peers = p.peers ∧ (p.minuteEvent).port = p.port := by
  simp only [Part.minuteEvent]; (repeat' split) <;> simp

@[simp] theorem Part.minuteCheck_frame (p : Part) :
    (p.minuteCheck).lineTime = p.lineTime ∧ (p.minuteCheck).supply = p.supply
      ∧ (p.minuteCheck).retained = p.retained ∧ (p.minuteCheck).start = p.start
      ∧ (p.minuteCheck).fares = p.fares ∧ (p.minuteCheck).peers = p.peers ∧ (p.minuteCheck).port = p.port := by
  simp only [Part.minuteCheck]; (repeat' split) <;> simp

@[simp] theorem Part.clockCheck_frame (p : Part) :
    (p.clockCheck).lineTime = p.lineTime ∧ (p.clockCheck).supply = p.supply
      ∧ (p.clockCheck).retained = p.retained ∧ (p.clockCheck).start = p.start ∧ (p.clockCheck).fares = p.fares
      ∧ (p.clockCheck).peers = p.peers ∧ (p.clockCheck).port = p.port := by
  simp only [Part.clockCheck]; (repeat' split) <;> simp

@[simp] theorem Part.slewPeriod_frame (p : Part) :
    (p.slewPeriod).lineTime = p.lineTime ∧ (p.slewPeriod).supply = p.supply
      ∧ (p.slewPeriod).retained = p.retained ∧ (p.slewPeriod).start = p.start ∧ (p.slewPeriod).fares = p.fares
      ∧ (p.slewPeriod).peers = p.peers ∧ (p.slewPeriod).port = p.port := by
  simp only [Part.slewPeriod]; (repeat' split) <;> simp

@[simp] theorem Part.loseSource_frame (p : Part) :
    (p.loseSource).lineTime = p.lineTime ∧ (p.loseSource).supply = p.supply
      ∧ (p.loseSource).retained = p.retained ∧ (p.loseSource).start = p.start ∧ (p.loseSource).board = p.board
      ∧ (p.loseSource).page = p.page ∧ (p.loseSource).fares = p.fares ∧ (p.loseSource).sales = p.sales
      ∧ (p.loseSource).quota = p.quota ∧ (p.loseSource).peers = p.peers ∧ (p.loseSource).line = p.line
      ∧ (p.loseSource).notices = p.notices ∧ (p.loseSource).port = p.port ∧ (p.loseSource).doze = p.doze
      ∧ (p.loseSource).draws = p.draws := by
  simp only [Part.loseSource]; (repeat' split) <;> simp

@[simp] theorem Part.clockPeerLost_frame (p : Part) (n : Nat) :
    (p.clockPeerLost n).lineTime = p.lineTime ∧ (p.clockPeerLost n).supply = p.supply
      ∧ (p.clockPeerLost n).retained = p.retained ∧ (p.clockPeerLost n).start = p.start
      ∧ (p.clockPeerLost n).board = p.board ∧ (p.clockPeerLost n).page = p.page
      ∧ (p.clockPeerLost n).fares = p.fares ∧ (p.clockPeerLost n).sales = p.sales
      ∧ (p.clockPeerLost n).quota = p.quota ∧ (p.clockPeerLost n).peers = p.peers
      ∧ (p.clockPeerLost n).line = p.line ∧ (p.clockPeerLost n).notices = p.notices
      ∧ (p.clockPeerLost n).port = p.port ∧ (p.clockPeerLost n).doze = p.doze
      ∧ (p.clockPeerLost n).draws = p.draws := by
  simp only [Part.clockPeerLost]; (repeat' split) <;> simp

@[simp] theorem Part.referenceLapse_frame (p : Part) :
    (p.referenceLapse).lineTime = p.lineTime ∧ (p.referenceLapse).supply = p.supply
      ∧ (p.referenceLapse).retained = p.retained ∧ (p.referenceLapse).start = p.start
      ∧ (p.referenceLapse).board = p.board ∧ (p.referenceLapse).page = p.page
      ∧ (p.referenceLapse).fares = p.fares ∧ (p.referenceLapse).sales = p.sales
      ∧ (p.referenceLapse).quota = p.quota ∧ (p.referenceLapse).peers = p.peers
      ∧ (p.referenceLapse).line = p.line ∧ (p.referenceLapse).notices = p.notices
      ∧ (p.referenceLapse).port = p.port ∧ (p.referenceLapse).doze = p.doze
      ∧ (p.referenceLapse).draws = p.draws := by
  simp only [Part.referenceLapse]; (repeat' split) <;> simp

@[simp] theorem Part.correctBy_frame (p : Part) (s n : Nat) (o : Int) :
    (p.correctBy s n o).lineTime = p.lineTime ∧ (p.correctBy s n o).supply = p.supply
      ∧ (p.correctBy s n o).retained = p.retained ∧ (p.correctBy s n o).start = p.start
      ∧ (p.correctBy s n o).fares = p.fares ∧ (p.correctBy s n o).peers = p.peers
      ∧ (p.correctBy s n o).port = p.port := by
  simp only [Part.correctBy]; (repeat' split) <;> simp

@[simp] theorem Part.correct_frame (p : Part) (s : Nat) (b : BeaconPayload) :
    (p.correct s b).lineTime = p.lineTime ∧ (p.correct s b).supply = p.supply
      ∧ (p.correct s b).retained = p.retained ∧ (p.correct s b).start = p.start
      ∧ (p.correct s b).fares = p.fares ∧ (p.correct s b).peers = p.peers ∧ (p.correct s b).port = p.port := by
  simp only [Part.correct]; (repeat' split) <;> simp

@[simp] theorem Part.sourceBeacon_frame (p : Part) (s : Nat) (b : BeaconPayload) :
    (p.sourceBeacon s b).lineTime = p.lineTime ∧ (p.sourceBeacon s b).supply = p.supply
      ∧ (p.sourceBeacon s b).retained = p.retained ∧ (p.sourceBeacon s b).start = p.start
      ∧ (p.sourceBeacon s b).fares = p.fares ∧ (p.sourceBeacon s b).peers = p.peers
      ∧ (p.sourceBeacon s b).port = p.port := by
  simp only [Part.sourceBeacon]; (repeat' split) <;> simp

@[simp] theorem Part.setFromBeacon_frame (p : Part) (s : Nat) (b : BeaconPayload) :
    (p.setFromBeacon s b).lineTime = p.lineTime ∧ (p.setFromBeacon s b).supply = p.supply
      ∧ (p.setFromBeacon s b).retained = p.retained ∧ (p.setFromBeacon s b).start = p.start
      ∧ (p.setFromBeacon s b).fares = p.fares ∧ (p.setFromBeacon s b).peers = p.peers
      ∧ (p.setFromBeacon s b).port = p.port := by
  simp only [Part.setFromBeacon]; (repeat' split) <;> simp

@[simp] theorem Part.follow_frame (p : Part) (s : Nat) (b : BeaconPayload) :
    (p.follow s b).lineTime = p.lineTime ∧ (p.follow s b).supply = p.supply
      ∧ (p.follow s b).retained = p.retained ∧ (p.follow s b).start = p.start ∧ (p.follow s b).fares = p.fares
      ∧ (p.follow s b).peers = p.peers ∧ (p.follow s b).port = p.port := by
  simp only [Part.follow]; (repeat' split) <;> simp

@[simp] theorem Part.hearClock_frame (p : Part) (s : Nat) (b : BeaconPayload) :
    (p.hearClock s b).lineTime = p.lineTime ∧ (p.hearClock s b).supply = p.supply
      ∧ (p.hearClock s b).retained = p.retained ∧ (p.hearClock s b).start = p.start
      ∧ (p.hearClock s b).fares = p.fares ∧ (p.hearClock s b).peers = p.peers
      ∧ (p.hearClock s b).port = p.port := by
  simp only [Part.hearClock]; (repeat' split) <;> simp

@[simp] theorem Part.acceptTime_frame (p : Part) (r : SetTimeRequest) :
    (p.acceptTime r).lineTime = p.lineTime ∧ (p.acceptTime r).supply = p.supply
      ∧ (p.acceptTime r).retained = p.retained ∧ (p.acceptTime r).start = p.start
      ∧ (p.acceptTime r).fares = p.fares ∧ (p.acceptTime r).peers = p.peers ∧ (p.acceptTime r).port = p.port := by
  simp only [Part.acceptTime]; (repeat' split) <;> simp

@[simp] theorem Part.withPeers_frame (p : Part) (f : PeerTable → PeerTable) :
    (p.withPeers f).lineTime = p.lineTime ∧ (p.withPeers f).supply = p.supply
      ∧ (p.withPeers f).retained = p.retained ∧ (p.withPeers f).start = p.start
      ∧ (p.withPeers f).clock = p.clock ∧ (p.withPeers f).board = p.board ∧ (p.withPeers f).page = p.page
      ∧ (p.withPeers f).fares = p.fares ∧ (p.withPeers f).sales = p.sales ∧ (p.withPeers f).quota = p.quota
      ∧ (p.withPeers f).line = p.line ∧ (p.withPeers f).notices = p.notices ∧ (p.withPeers f).port = p.port
      ∧ (p.withPeers f).doze = p.doze ∧ (p.withPeers f).draws = p.draws := by
  simp only [Part.withPeers]; (repeat' split) <;> simp

@[simp] theorem Part.countUnheeded_frame (p : Part) :
    (p.countUnheeded).lineTime = p.lineTime ∧ (p.countUnheeded).supply = p.supply
      ∧ (p.countUnheeded).retained = p.retained ∧ (p.countUnheeded).start = p.start
      ∧ (p.countUnheeded).clock = p.clock ∧ (p.countUnheeded).board = p.board
      ∧ (p.countUnheeded).page = p.page ∧ (p.countUnheeded).fares = p.fares
      ∧ (p.countUnheeded).sales = p.sales ∧ (p.countUnheeded).quota = p.quota
      ∧ (p.countUnheeded).line = p.line ∧ (p.countUnheeded).notices = p.notices
      ∧ (p.countUnheeded).port = p.port ∧ (p.countUnheeded).doze = p.doze ∧ (p.countUnheeded).draws = p.draws := by
  simp only [Part.countUnheeded]; (repeat' split) <;> simp

@[simp] theorem Part.hearOwnNumber_frame (p : Part) (k : FrameKind) :
    (p.hearOwnNumber k).lineTime = p.lineTime ∧ (p.hearOwnNumber k).supply = p.supply
      ∧ (p.hearOwnNumber k).retained = p.retained ∧ (p.hearOwnNumber k).start = p.start
      ∧ (p.hearOwnNumber k).clock = p.clock ∧ (p.hearOwnNumber k).board = p.board
      ∧ (p.hearOwnNumber k).fares = p.fares ∧ (p.hearOwnNumber k).sales = p.sales
      ∧ (p.hearOwnNumber k).quota = p.quota ∧ (p.hearOwnNumber k).line = p.line
      ∧ (p.hearOwnNumber k).port = p.port ∧ (p.hearOwnNumber k).draws = p.draws := by
  simp only [Part.hearOwnNumber]; (repeat' split) <;> simp

@[simp] theorem Part.countDuplicate_frame (p : Part) :
    (p.countDuplicate).lineTime = p.lineTime ∧ (p.countDuplicate).supply = p.supply
      ∧ (p.countDuplicate).retained = p.retained ∧ (p.countDuplicate).start = p.start
      ∧ (p.countDuplicate).clock = p.clock ∧ (p.countDuplicate).board = p.board
      ∧ (p.countDuplicate).page = p.page ∧ (p.countDuplicate).fares = p.fares
      ∧ (p.countDuplicate).sales = p.sales ∧ (p.countDuplicate).quota = p.quota
      ∧ (p.countDuplicate).peers = p.peers ∧ (p.countDuplicate).notices = p.notices
      ∧ (p.countDuplicate).port = p.port ∧ (p.countDuplicate).doze = p.doze
      ∧ (p.countDuplicate).draws = p.draws := by
  simp only [Part.countDuplicate]; (repeat' split) <;> simp

@[simp] theorem Part.acceptFrame_frame (p : Part) (s n : Nat) :
    (p.acceptFrame s n).lineTime = p.lineTime ∧ (p.acceptFrame s n).supply = p.supply
      ∧ (p.acceptFrame s n).retained = p.retained ∧ (p.acceptFrame s n).start = p.start
      ∧ (p.acceptFrame s n).clock = p.clock ∧ (p.acceptFrame s n).board = p.board
      ∧ (p.acceptFrame s n).fares = p.fares ∧ (p.acceptFrame s n).sales = p.sales
      ∧ (p.acceptFrame s n).quota = p.quota ∧ (p.acceptFrame s n).line = p.line
      ∧ (p.acceptFrame s n).port = p.port ∧ (p.acceptFrame s n).draws = p.draws := by
  simp only [Part.acceptFrame]; (repeat' split) <;> simp

@[simp] theorem Part.checkTimetable_frame (p : Part) (s e : Nat) :
    (p.checkTimetable s e).lineTime = p.lineTime ∧ (p.checkTimetable s e).supply = p.supply
      ∧ (p.checkTimetable s e).retained = p.retained ∧ (p.checkTimetable s e).start = p.start
      ∧ (p.checkTimetable s e).clock = p.clock ∧ (p.checkTimetable s e).board = p.board
      ∧ (p.checkTimetable s e).fares = p.fares ∧ (p.checkTimetable s e).sales = p.sales
      ∧ (p.checkTimetable s e).quota = p.quota ∧ (p.checkTimetable s e).line = p.line
      ∧ (p.checkTimetable s e).port = p.port ∧ (p.checkTimetable s e).draws = p.draws := by
  simp only [Part.checkTimetable]; (repeat' split) <;> simp

@[simp] theorem Part.checkFareEdition_frame (p : Part) (s e : Nat) :
    (p.checkFareEdition s e).lineTime = p.lineTime ∧ (p.checkFareEdition s e).supply = p.supply
      ∧ (p.checkFareEdition s e).retained = p.retained ∧ (p.checkFareEdition s e).start = p.start
      ∧ (p.checkFareEdition s e).clock = p.clock ∧ (p.checkFareEdition s e).board = p.board
      ∧ (p.checkFareEdition s e).fares = p.fares ∧ (p.checkFareEdition s e).sales = p.sales
      ∧ (p.checkFareEdition s e).quota = p.quota ∧ (p.checkFareEdition s e).line = p.line
      ∧ (p.checkFareEdition s e).port = p.port ∧ (p.checkFareEdition s e).draws = p.draws := by
  simp only [Part.checkFareEdition]; (repeat' split) <;> simp

@[simp] theorem Part.checkClash_frame (p : Part) (s : Nat) (b : BeaconPayload) :
    (p.checkClash s b).lineTime = p.lineTime ∧ (p.checkClash s b).supply = p.supply
      ∧ (p.checkClash s b).retained = p.retained ∧ (p.checkClash s b).start = p.start
      ∧ (p.checkClash s b).clock = p.clock ∧ (p.checkClash s b).board = p.board
      ∧ (p.checkClash s b).fares = p.fares ∧ (p.checkClash s b).sales = p.sales
      ∧ (p.checkClash s b).quota = p.quota ∧ (p.checkClash s b).line = p.line
      ∧ (p.checkClash s b).port = p.port ∧ (p.checkClash s b).draws = p.draws := by
  simp only [Part.checkClash]; (repeat' split) <;> simp

@[simp] theorem Part.hearBeacon_frame (p : Part) (s : Nat) (b : BeaconPayload) :
    (p.hearBeacon s b).lineTime = p.lineTime ∧ (p.hearBeacon s b).supply = p.supply
      ∧ (p.hearBeacon s b).retained = p.retained ∧ (p.hearBeacon s b).start = p.start
      ∧ (p.hearBeacon s b).fares = p.fares ∧ (p.hearBeacon s b).port = p.port := by
  simp only [Part.hearBeacon]; (repeat' split) <;> simp

@[simp] theorem Part.deliver_frame (p : Part) (f : LineFrame) :
    (p.deliver f).lineTime = p.lineTime ∧ (p.deliver f).supply = p.supply
      ∧ (p.deliver f).retained = p.retained ∧ (p.deliver f).start = p.start ∧ (p.deliver f).port = p.port := by
  simp only [Part.deliver]; (repeat' split) <;> simp

@[simp] theorem Part.receiveGood_frame (p : Part) (f : LineFrame) :
    (p.receiveGood f).lineTime = p.lineTime ∧ (p.receiveGood f).supply = p.supply
      ∧ (p.receiveGood f).retained = p.retained ∧ (p.receiveGood f).start = p.start
      ∧ (p.receiveGood f).port = p.port := by
  simp only [Part.receiveGood]; (repeat' split) <;> simp

@[simp] theorem Part.countBad_frame (p : Part) :
    (p.countBad).lineTime = p.lineTime ∧ (p.countBad).supply = p.supply ∧ (p.countBad).retained = p.retained
      ∧ (p.countBad).start = p.start ∧ (p.countBad).clock = p.clock ∧ (p.countBad).board = p.board
      ∧ (p.countBad).page = p.page ∧ (p.countBad).fares = p.fares ∧ (p.countBad).sales = p.sales
      ∧ (p.countBad).quota = p.quota ∧ (p.countBad).peers = p.peers ∧ (p.countBad).notices = p.notices
      ∧ (p.countBad).port = p.port ∧ (p.countBad).doze = p.doze ∧ (p.countBad).draws = p.draws := by
  simp only [Part.countBad]; (repeat' split) <;> simp

@[simp] theorem Part.countMalformed_frame (p : Part) :
    (p.countMalformed).lineTime = p.lineTime ∧ (p.countMalformed).supply = p.supply
      ∧ (p.countMalformed).retained = p.retained ∧ (p.countMalformed).start = p.start
      ∧ (p.countMalformed).clock = p.clock ∧ (p.countMalformed).board = p.board
      ∧ (p.countMalformed).page = p.page ∧ (p.countMalformed).fares = p.fares
      ∧ (p.countMalformed).sales = p.sales ∧ (p.countMalformed).quota = p.quota
      ∧ (p.countMalformed).peers = p.peers ∧ (p.countMalformed).notices = p.notices
      ∧ (p.countMalformed).port = p.port ∧ (p.countMalformed).doze = p.doze
      ∧ (p.countMalformed).draws = p.draws := by
  simp only [Part.countMalformed]; (repeat' split) <;> simp

@[simp] theorem Part.receiveFrame_frame (p : Part) (f : LineFrame) :
    (p.receiveFrame f).lineTime = p.lineTime ∧ (p.receiveFrame f).supply = p.supply
      ∧ (p.receiveFrame f).retained = p.retained ∧ (p.receiveFrame f).start = p.start
      ∧ (p.receiveFrame f).port = p.port := by
  simp only [Part.receiveFrame]; (repeat' split) <;> simp

@[simp] theorem Part.receiveChars_frame (p : Part) (l : List LineChar) :
    (p.receiveChars l).lineTime = p.lineTime ∧ (p.receiveChars l).supply = p.supply
      ∧ (p.receiveChars l).retained = p.retained ∧ (p.receiveChars l).start = p.start
      ∧ (p.receiveChars l).port = p.port := by
  simp only [Part.receiveChars]; (repeat' split) <;> simp

@[simp] theorem Part.peerSilent_frame (p : Part) (n : Nat) :
    (p.peerSilent n).lineTime = p.lineTime ∧ (p.peerSilent n).supply = p.supply
      ∧ (p.peerSilent n).retained = p.retained ∧ (p.peerSilent n).start = p.start
      ∧ (p.peerSilent n).board = p.board ∧ (p.peerSilent n).fares = p.fares ∧ (p.peerSilent n).sales = p.sales
      ∧ (p.peerSilent n).quota = p.quota ∧ (p.peerSilent n).line = p.line ∧ (p.peerSilent n).port = p.port
      ∧ (p.peerSilent n).draws = p.draws := by
  simp only [Part.peerSilent]; (repeat' split) <;> simp

@[simp] theorem Part.peerGone_frame (p : Part) (n : Nat) :
    (p.peerGone n).lineTime = p.lineTime ∧ (p.peerGone n).supply = p.supply
      ∧ (p.peerGone n).retained = p.retained ∧ (p.peerGone n).start = p.start ∧ (p.peerGone n).board = p.board
      ∧ (p.peerGone n).fares = p.fares ∧ (p.peerGone n).sales = p.sales ∧ (p.peerGone n).line = p.line
      ∧ (p.peerGone n).port = p.port ∧ (p.peerGone n).draws = p.draws := by
  simp only [Part.peerGone]; (repeat' split) <;> simp

@[simp] theorem Part.skipBeacon_frame (p : Part) :
    (p.skipBeacon).lineTime = p.lineTime ∧ (p.skipBeacon).supply = p.supply
      ∧ (p.skipBeacon).retained = p.retained ∧ (p.skipBeacon).start = p.start ∧ (p.skipBeacon).clock = p.clock
      ∧ (p.skipBeacon).board = p.board ∧ (p.skipBeacon).page = p.page ∧ (p.skipBeacon).fares = p.fares
      ∧ (p.skipBeacon).sales = p.sales ∧ (p.skipBeacon).quota = p.quota ∧ (p.skipBeacon).line = p.line
      ∧ (p.skipBeacon).notices = p.notices ∧ (p.skipBeacon).port = p.port ∧ (p.skipBeacon).doze = p.doze
      ∧ (p.skipBeacon).draws = p.draws := by
  simp only [Part.skipBeacon]; (repeat' split) <;> simp

@[simp] theorem Part.offerBeacon_frame (p : Part) :
    (p.offerBeacon).lineTime = p.lineTime ∧ (p.offerBeacon).supply = p.supply
      ∧ (p.offerBeacon).retained = p.retained ∧ (p.offerBeacon).start = p.start
      ∧ (p.offerBeacon).clock = p.clock ∧ (p.offerBeacon).board = p.board ∧ (p.offerBeacon).page = p.page
      ∧ (p.offerBeacon).fares = p.fares ∧ (p.offerBeacon).sales = p.sales ∧ (p.offerBeacon).quota = p.quota
      ∧ (p.offerBeacon).notices = p.notices ∧ (p.offerBeacon).port = p.port ∧ (p.offerBeacon).doze = p.doze := by
  simp only [Part.offerBeacon]; (repeat' split) <;> simp

@[simp] theorem Part.beaconDue_frame (p : Part) :
    (p.beaconDue).lineTime = p.lineTime ∧ (p.beaconDue).supply = p.supply
      ∧ (p.beaconDue).retained = p.retained ∧ (p.beaconDue).start = p.start ∧ (p.beaconDue).clock = p.clock
      ∧ (p.beaconDue).board = p.board ∧ (p.beaconDue).page = p.page ∧ (p.beaconDue).fares = p.fares
      ∧ (p.beaconDue).sales = p.sales ∧ (p.beaconDue).quota = p.quota ∧ (p.beaconDue).notices = p.notices
      ∧ (p.beaconDue).port = p.port ∧ (p.beaconDue).doze = p.doze := by
  simp only [Part.beaconDue]; (repeat' split) <;> simp

@[simp] theorem Part.acceptClock_frame (p : Part) :
    (p.acceptClock).lineTime = p.lineTime ∧ (p.acceptClock).supply = p.supply
      ∧ (p.acceptClock).retained = p.retained ∧ (p.acceptClock).start = p.start
      ∧ (p.acceptClock).fares = p.fares ∧ (p.acceptClock).peers = p.peers ∧ (p.acceptClock).port = p.port := by
  simp only [Part.acceptClock]; (repeat' split) <;> simp

@[simp] theorem Part.reportHeld_frame (p : Part) (k : Key) :
    (p.reportHeld k).lineTime = p.lineTime ∧ (p.reportHeld k).supply = p.supply
      ∧ (p.reportHeld k).retained = p.retained ∧ (p.reportHeld k).start = p.start
      ∧ (p.reportHeld k).clock = p.clock ∧ (p.reportHeld k).board = p.board ∧ (p.reportHeld k).fares = p.fares
      ∧ (p.reportHeld k).sales = p.sales ∧ (p.reportHeld k).quota = p.quota ∧ (p.reportHeld k).peers = p.peers
      ∧ (p.reportHeld k).line = p.line ∧ (p.reportHeld k).port = p.port ∧ (p.reportHeld k).draws = p.draws := by
  simp only [Part.reportHeld]; (repeat' split) <;> simp

@[simp] theorem Part.withLine_frame (p : Part) (f : LineInterface → LineInterface) :
    (p.withLine f).lineTime = p.lineTime ∧ (p.withLine f).supply = p.supply
      ∧ (p.withLine f).retained = p.retained ∧ (p.withLine f).start = p.start ∧ (p.withLine f).clock = p.clock
      ∧ (p.withLine f).board = p.board ∧ (p.withLine f).page = p.page ∧ (p.withLine f).fares = p.fares
      ∧ (p.withLine f).sales = p.sales ∧ (p.withLine f).quota = p.quota ∧ (p.withLine f).peers = p.peers
      ∧ (p.withLine f).notices = p.notices ∧ (p.withLine f).port = p.port ∧ (p.withLine f).doze = p.doze
      ∧ (p.withLine f).draws = p.draws := by
  simp only [Part.withLine]; (repeat' split) <;> simp

@[simp] theorem Part.withKey_frame (p : Part) (k : Key) (f : KeyState → KeyState) :
    (p.withKey k f).lineTime = p.lineTime ∧ (p.withKey k f).supply = p.supply
      ∧ (p.withKey k f).retained = p.retained ∧ (p.withKey k f).start = p.start
      ∧ (p.withKey k f).clock = p.clock ∧ (p.withKey k f).board = p.board ∧ (p.withKey k f).page = p.page
      ∧ (p.withKey k f).fares = p.fares ∧ (p.withKey k f).sales = p.sales ∧ (p.withKey k f).quota = p.quota
      ∧ (p.withKey k f).peers = p.peers ∧ (p.withKey k f).line = p.line ∧ (p.withKey k f).notices = p.notices
      ∧ (p.withKey k f).port = p.port ∧ (p.withKey k f).draws = p.draws := by
  simp only [Part.withKey]; (repeat' split) <;> simp

@[simp] theorem Part.countPress_frame (p : Part) (k : Key) :
    (p.countPress k).lineTime = p.lineTime ∧ (p.countPress k).supply = p.supply
      ∧ (p.countPress k).retained = p.retained ∧ (p.countPress k).start = p.start
      ∧ (p.countPress k).clock = p.clock ∧ (p.countPress k).board = p.board ∧ (p.countPress k).fares = p.fares
      ∧ (p.countPress k).sales = p.sales ∧ (p.countPress k).quota = p.quota ∧ (p.countPress k).peers = p.peers
      ∧ (p.countPress k).line = p.line ∧ (p.countPress k).port = p.port ∧ (p.countPress k).draws = p.draws := by
  simp only [Part.countPress]; (repeat' split) <;> simp

@[simp] theorem Part.pressed_frame (p : Part) (k : Key) :
    (p.pressed k).lineTime = p.lineTime ∧ (p.pressed k).supply = p.supply
      ∧ (p.pressed k).retained = p.retained ∧ (p.pressed k).start = p.start ∧ (p.pressed k).clock = p.clock
      ∧ (p.pressed k).board = p.board ∧ (p.pressed k).fares = p.fares ∧ (p.pressed k).sales = p.sales
      ∧ (p.pressed k).quota = p.quota ∧ (p.pressed k).peers = p.peers ∧ (p.pressed k).line = p.line
      ∧ (p.pressed k).port = p.port ∧ (p.pressed k).draws = p.draws := by
  simp only [Part.pressed]; (repeat' split) <;> simp

@[simp] theorem Part.settleKey_frame (p : Part) (k : Key) :
    (p.settleKey k).lineTime = p.lineTime ∧ (p.settleKey k).supply = p.supply
      ∧ (p.settleKey k).retained = p.retained ∧ (p.settleKey k).start = p.start
      ∧ (p.settleKey k).clock = p.clock ∧ (p.settleKey k).board = p.board ∧ (p.settleKey k).fares = p.fares
      ∧ (p.settleKey k).sales = p.sales ∧ (p.settleKey k).quota = p.quota ∧ (p.settleKey k).peers = p.peers
      ∧ (p.settleKey k).line = p.line ∧ (p.settleKey k).port = p.port ∧ (p.settleKey k).draws = p.draws := by
  simp only [Part.settleKey]; (repeat' split) <;> simp

@[simp] theorem Part.turnPage_frame (p : Part) :
    (p.turnPage).lineTime = p.lineTime ∧ (p.turnPage).supply = p.supply ∧ (p.turnPage).retained = p.retained
      ∧ (p.turnPage).start = p.start ∧ (p.turnPage).clock = p.clock ∧ (p.turnPage).board = p.board
      ∧ (p.turnPage).fares = p.fares ∧ (p.turnPage).sales = p.sales ∧ (p.turnPage).quota = p.quota
      ∧ (p.turnPage).peers = p.peers ∧ (p.turnPage).line = p.line ∧ (p.turnPage).port = p.port
      ∧ (p.turnPage).doze = p.doze ∧ (p.turnPage).draws = p.draws := by
  simp only [Part.turnPage]; (repeat' split) <;> simp

@[simp] theorem Part.askAgain_frame (p : Part) (i : IssueRecord) :
    (p.askAgain i).lineTime = p.lineTime ∧ (p.askAgain i).supply = p.supply
      ∧ (p.askAgain i).retained = p.retained ∧ (p.askAgain i).start = p.start ∧ (p.askAgain i).clock = p.clock
      ∧ (p.askAgain i).board = p.board ∧ (p.askAgain i).page = p.page ∧ (p.askAgain i).fares = p.fares
      ∧ (p.askAgain i).peers = p.peers ∧ (p.askAgain i).notices = p.notices ∧ (p.askAgain i).port = p.port
      ∧ (p.askAgain i).doze = p.doze := by
  simp only [Part.askAgain]; (repeat' split) <;> simp

@[simp] theorem Part.expireWatch_frame (p : Part) (a n : Nat) :
    (p.expireWatch a n).lineTime = p.lineTime ∧ (p.expireWatch a n).supply = p.supply
      ∧ (p.expireWatch a n).retained = p.retained ∧ (p.expireWatch a n).start = p.start
      ∧ (p.expireWatch a n).clock = p.clock ∧ (p.expireWatch a n).board = p.board
      ∧ (p.expireWatch a n).page = p.page ∧ (p.expireWatch a n).fares = p.fares
      ∧ (p.expireWatch a n).sales = p.sales ∧ (p.expireWatch a n).peers = p.peers
      ∧ (p.expireWatch a n).line = p.line ∧ (p.expireWatch a n).notices = p.notices
      ∧ (p.expireWatch a n).port = p.port ∧ (p.expireWatch a n).doze = p.doze
      ∧ (p.expireWatch a n).draws = p.draws := by
  simp only [Part.expireWatch]; (repeat' split) <;> simp

@[simp] theorem Part.lineBusy_frame (p : Part) :
    (p.lineBusy).lineTime = p.lineTime ∧ (p.lineBusy).supply = p.supply ∧ (p.lineBusy).retained = p.retained
      ∧ (p.lineBusy).start = p.start ∧ (p.lineBusy).clock = p.clock ∧ (p.lineBusy).board = p.board
      ∧ (p.lineBusy).page = p.page ∧ (p.lineBusy).fares = p.fares ∧ (p.lineBusy).sales = p.sales
      ∧ (p.lineBusy).quota = p.quota ∧ (p.lineBusy).peers = p.peers ∧ (p.lineBusy).notices = p.notices
      ∧ (p.lineBusy).port = p.port ∧ (p.lineBusy).doze = p.doze ∧ (p.lineBusy).draws = p.draws := by
  simp only [Part.lineBusy]; (repeat' split) <;> simp

@[simp] theorem Part.lineQuiet_frame (p : Part) :
    (p.lineQuiet).lineTime = p.lineTime ∧ (p.lineQuiet).supply = p.supply
      ∧ (p.lineQuiet).retained = p.retained ∧ (p.lineQuiet).start = p.start ∧ (p.lineQuiet).clock = p.clock
      ∧ (p.lineQuiet).board = p.board ∧ (p.lineQuiet).page = p.page ∧ (p.lineQuiet).fares = p.fares
      ∧ (p.lineQuiet).sales = p.sales ∧ (p.lineQuiet).quota = p.quota ∧ (p.lineQuiet).peers = p.peers
      ∧ (p.lineQuiet).notices = p.notices ∧ (p.lineQuiet).port = p.port ∧ (p.lineQuiet).doze = p.doze := by
  simp only [Part.lineQuiet]; (repeat' split) <;> simp

@[simp] theorem Part.slotEnd_frame (p : Part) :
    (p.slotEnd).lineTime = p.lineTime ∧ (p.slotEnd).supply = p.supply ∧ (p.slotEnd).retained = p.retained
      ∧ (p.slotEnd).start = p.start ∧ (p.slotEnd).clock = p.clock ∧ (p.slotEnd).board = p.board
      ∧ (p.slotEnd).page = p.page ∧ (p.slotEnd).fares = p.fares ∧ (p.slotEnd).sales = p.sales
      ∧ (p.slotEnd).quota = p.quota ∧ (p.slotEnd).peers = p.peers ∧ (p.slotEnd).notices = p.notices
      ∧ (p.slotEnd).port = p.port ∧ (p.slotEnd).doze = p.doze ∧ (p.slotEnd).draws = p.draws := by
  simp only [Part.slotEnd]; (repeat' split) <;> simp

@[simp] theorem Part.tellSent_frame (p : Part) (sl : Slot) :
    (p.tellSent sl).lineTime = p.lineTime ∧ (p.tellSent sl).supply = p.supply
      ∧ (p.tellSent sl).retained = p.retained ∧ (p.tellSent sl).start = p.start
      ∧ (p.tellSent sl).clock = p.clock ∧ (p.tellSent sl).fares = p.fares ∧ (p.tellSent sl).sales = p.sales
      ∧ (p.tellSent sl).peers = p.peers ∧ (p.tellSent sl).line = p.line ∧ (p.tellSent sl).port = p.port
      ∧ (p.tellSent sl).draws = p.draws := by
  simp only [Part.tellSent]; (repeat' split) <;> simp

@[simp] theorem Part.sentWhole_frame (p : Part) :
    (p.sentWhole).lineTime = p.lineTime ∧ (p.sentWhole).supply = p.supply
      ∧ (p.sentWhole).retained = p.retained ∧ (p.sentWhole).start = p.start ∧ (p.sentWhole).clock = p.clock
      ∧ (p.sentWhole).fares = p.fares ∧ (p.sentWhole).sales = p.sales ∧ (p.sentWhole).peers = p.peers
      ∧ (p.sentWhole).port = p.port ∧ (p.sentWhole).draws = p.draws := by
  simp only [Part.sentWhole]; (repeat' split) <;> simp

@[simp] theorem Part.collide_frame (p : Part) :
    (p.collide).lineTime = p.lineTime ∧ (p.collide).supply = p.supply ∧ (p.collide).retained = p.retained
      ∧ (p.collide).start = p.start ∧ (p.collide).clock = p.clock ∧ (p.collide).board = p.board
      ∧ (p.collide).page = p.page ∧ (p.collide).fares = p.fares ∧ (p.collide).sales = p.sales
      ∧ (p.collide).quota = p.quota ∧ (p.collide).peers = p.peers ∧ (p.collide).notices = p.notices
      ∧ (p.collide).port = p.port ∧ (p.collide).doze = p.doze ∧ (p.collide).draws = p.draws := by
  simp only [Part.collide]; (repeat' split) <;> simp

@[simp] theorem Part.tellGivenUp_frame (p : Part) (sl : Slot) :
    (p.tellGivenUp sl).lineTime = p.lineTime ∧ (p.tellGivenUp sl).supply = p.supply
      ∧ (p.tellGivenUp sl).retained = p.retained ∧ (p.tellGivenUp sl).start = p.start
      ∧ (p.tellGivenUp sl).clock = p.clock ∧ (p.tellGivenUp sl).fares = p.fares
      ∧ (p.tellGivenUp sl).sales = p.sales ∧ (p.tellGivenUp sl).peers = p.peers
      ∧ (p.tellGivenUp sl).line = p.line ∧ (p.tellGivenUp sl).port = p.port
      ∧ (p.tellGivenUp sl).draws = p.draws := by
  simp only [Part.tellGivenUp]; (repeat' split) <;> simp

@[simp] theorem Part.giveUp_frame (p : Part) (sl : Slot) :
    (p.giveUp sl).lineTime = p.lineTime ∧ (p.giveUp sl).supply = p.supply
      ∧ (p.giveUp sl).retained = p.retained ∧ (p.giveUp sl).start = p.start ∧ (p.giveUp sl).clock = p.clock
      ∧ (p.giveUp sl).fares = p.fares ∧ (p.giveUp sl).sales = p.sales ∧ (p.giveUp sl).peers = p.peers
      ∧ (p.giveUp sl).port = p.port ∧ (p.giveUp sl).draws = p.draws := by
  simp only [Part.giveUp]; (repeat' split) <;> simp

@[simp] theorem Part.keepFrame_frame (p : Part) (sl : Slot) :
    (p.keepFrame sl).lineTime = p.lineTime ∧ (p.keepFrame sl).supply = p.supply
      ∧ (p.keepFrame sl).retained = p.retained ∧ (p.keepFrame sl).start = p.start
      ∧ (p.keepFrame sl).clock = p.clock ∧ (p.keepFrame sl).board = p.board ∧ (p.keepFrame sl).page = p.page
      ∧ (p.keepFrame sl).fares = p.fares ∧ (p.keepFrame sl).sales = p.sales ∧ (p.keepFrame sl).peers = p.peers
      ∧ (p.keepFrame sl).notices = p.notices ∧ (p.keepFrame sl).port = p.port ∧ (p.keepFrame sl).doze = p.doze := by
  simp only [Part.keepFrame]; (repeat' split) <;> simp

@[simp] theorem Part.endBreak_frame (p : Part) :
    (p.endBreak).lineTime = p.lineTime ∧ (p.endBreak).supply = p.supply ∧ (p.endBreak).retained = p.retained
      ∧ (p.endBreak).start = p.start ∧ (p.endBreak).clock = p.clock ∧ (p.endBreak).fares = p.fares
      ∧ (p.endBreak).sales = p.sales ∧ (p.endBreak).peers = p.peers ∧ (p.endBreak).port = p.port := by
  simp only [Part.endBreak]; (repeat' split) <;> simp

end Sys2Proof.Machine
end

