-- ==== Sys2Proof/Laws/State.lean ====
section
/-! SUPPORT. One lemma a field for each named update of the state, true by unfolding. -/

namespace Sys2Proof.Machine

/-! `Part.withClock`: the clock alone. -/

@[simp] theorem Part.withClock_lineTime (p : Part) (f : HaltClock → HaltClock) :
    (p.withClock f).lineTime = p.lineTime := rfl
@[simp] theorem Part.withClock_supply (p : Part) (f : HaltClock → HaltClock) :
    (p.withClock f).supply = p.supply := rfl
@[simp] theorem Part.withClock_retained (p : Part) (f : HaltClock → HaltClock) :
    (p.withClock f).retained = p.retained := rfl
@[simp] theorem Part.withClock_start (p : Part) (f : HaltClock → HaltClock) :
    (p.withClock f).start = p.start := rfl
@[simp] theorem Part.withClock_clock (p : Part) (f : HaltClock → HaltClock) :
    (p.withClock f).clock = f p.clock := rfl
@[simp] theorem Part.withClock_board (p : Part) (f : HaltClock → HaltClock) :
    (p.withClock f).board = p.board := rfl
@[simp] theorem Part.withClock_page (p : Part) (f : HaltClock → HaltClock) :
    (p.withClock f).page = p.page := rfl
@[simp] theorem Part.withClock_fares (p : Part) (f : HaltClock → HaltClock) :
    (p.withClock f).fares = p.fares := rfl
@[simp] theorem Part.withClock_sales (p : Part) (f : HaltClock → HaltClock) :
    (p.withClock f).sales = p.sales := rfl
@[simp] theorem Part.withClock_quota (p : Part) (f : HaltClock → HaltClock) :
    (p.withClock f).quota = p.quota := rfl
@[simp] theorem Part.withClock_peers (p : Part) (f : HaltClock → HaltClock) :
    (p.withClock f).peers = p.peers := rfl
@[simp] theorem Part.withClock_line (p : Part) (f : HaltClock → HaltClock) :
    (p.withClock f).line = p.line := rfl
@[simp] theorem Part.withClock_notices (p : Part) (f : HaltClock → HaltClock) :
    (p.withClock f).notices = p.notices := rfl
@[simp] theorem Part.withClock_port (p : Part) (f : HaltClock → HaltClock) :
    (p.withClock f).port = p.port := rfl
@[simp] theorem Part.withClock_doze (p : Part) (f : HaltClock → HaltClock) :
    (p.withClock f).doze = p.doze := rfl
@[simp] theorem Part.withClock_draws (p : Part) (f : HaltClock → HaltClock) :
    (p.withClock f).draws = p.draws := rfl

/-! `Part.withPeers`: the peer table alone. -/

@[simp] theorem Part.withPeers_lineTime (p : Part) (f : PeerTable → PeerTable) :
    (p.withPeers f).lineTime = p.lineTime := rfl
@[simp] theorem Part.withPeers_supply (p : Part) (f : PeerTable → PeerTable) :
    (p.withPeers f).supply = p.supply := rfl
@[simp] theorem Part.withPeers_retained (p : Part) (f : PeerTable → PeerTable) :
    (p.withPeers f).retained = p.retained := rfl
@[simp] theorem Part.withPeers_start (p : Part) (f : PeerTable → PeerTable) :
    (p.withPeers f).start = p.start := rfl
@[simp] theorem Part.withPeers_clock (p : Part) (f : PeerTable → PeerTable) :
    (p.withPeers f).clock = p.clock := rfl
@[simp] theorem Part.withPeers_board (p : Part) (f : PeerTable → PeerTable) :
    (p.withPeers f).board = p.board := rfl
@[simp] theorem Part.withPeers_page (p : Part) (f : PeerTable → PeerTable) :
    (p.withPeers f).page = p.page := rfl
@[simp] theorem Part.withPeers_fares (p : Part) (f : PeerTable → PeerTable) :
    (p.withPeers f).fares = p.fares := rfl
@[simp] theorem Part.withPeers_sales (p : Part) (f : PeerTable → PeerTable) :
    (p.withPeers f).sales = p.sales := rfl
@[simp] theorem Part.withPeers_quota (p : Part) (f : PeerTable → PeerTable) :
    (p.withPeers f).quota = p.quota := rfl
@[simp] theorem Part.withPeers_peers (p : Part) (f : PeerTable → PeerTable) :
    (p.withPeers f).peers = f p.peers := rfl
@[simp] theorem Part.withPeers_line (p : Part) (f : PeerTable → PeerTable) :
    (p.withPeers f).line = p.line := rfl
@[simp] theorem Part.withPeers_notices (p : Part) (f : PeerTable → PeerTable) :
    (p.withPeers f).notices = p.notices := rfl
@[simp] theorem Part.withPeers_port (p : Part) (f : PeerTable → PeerTable) :
    (p.withPeers f).port = p.port := rfl
@[simp] theorem Part.withPeers_doze (p : Part) (f : PeerTable → PeerTable) :
    (p.withPeers f).doze = p.doze := rfl
@[simp] theorem Part.withPeers_draws (p : Part) (f : PeerTable → PeerTable) :
    (p.withPeers f).draws = p.draws := rfl

/-! `Part.withLine`: the line interface alone. -/

@[simp] theorem Part.withLine_lineTime (p : Part) (f : LineInterface → LineInterface) :
    (p.withLine f).lineTime = p.lineTime := rfl
@[simp] theorem Part.withLine_supply (p : Part) (f : LineInterface → LineInterface) :
    (p.withLine f).supply = p.supply := rfl
@[simp] theorem Part.withLine_retained (p : Part) (f : LineInterface → LineInterface) :
    (p.withLine f).retained = p.retained := rfl
@[simp] theorem Part.withLine_start (p : Part) (f : LineInterface → LineInterface) :
    (p.withLine f).start = p.start := rfl
@[simp] theorem Part.withLine_clock (p : Part) (f : LineInterface → LineInterface) :
    (p.withLine f).clock = p.clock := rfl
@[simp] theorem Part.withLine_board (p : Part) (f : LineInterface → LineInterface) :
    (p.withLine f).board = p.board := rfl
@[simp] theorem Part.withLine_page (p : Part) (f : LineInterface → LineInterface) :
    (p.withLine f).page = p.page := rfl
@[simp] theorem Part.withLine_fares (p : Part) (f : LineInterface → LineInterface) :
    (p.withLine f).fares = p.fares := rfl
@[simp] theorem Part.withLine_sales (p : Part) (f : LineInterface → LineInterface) :
    (p.withLine f).sales = p.sales := rfl
@[simp] theorem Part.withLine_quota (p : Part) (f : LineInterface → LineInterface) :
    (p.withLine f).quota = p.quota := rfl
@[simp] theorem Part.withLine_peers (p : Part) (f : LineInterface → LineInterface) :
    (p.withLine f).peers = p.peers := rfl
@[simp] theorem Part.withLine_line (p : Part) (f : LineInterface → LineInterface) :
    (p.withLine f).line = f p.line := rfl
@[simp] theorem Part.withLine_notices (p : Part) (f : LineInterface → LineInterface) :
    (p.withLine f).notices = p.notices := rfl
@[simp] theorem Part.withLine_port (p : Part) (f : LineInterface → LineInterface) :
    (p.withLine f).port = p.port := rfl
@[simp] theorem Part.withLine_doze (p : Part) (f : LineInterface → LineInterface) :
    (p.withLine f).doze = p.doze := rfl
@[simp] theorem Part.withLine_draws (p : Part) (f : LineInterface → LineInterface) :
    (p.withLine f).draws = p.draws := rfl

/-! `Part.withPort`: the unit port alone. -/

@[simp] theorem Part.withPort_lineTime (p : Part) (f : UnitPort → UnitPort) :
    (p.withPort f).lineTime = p.lineTime := rfl
@[simp] theorem Part.withPort_supply (p : Part) (f : UnitPort → UnitPort) :
    (p.withPort f).supply = p.supply := rfl
@[simp] theorem Part.withPort_retained (p : Part) (f : UnitPort → UnitPort) :
    (p.withPort f).retained = p.retained := rfl
@[simp] theorem Part.withPort_start (p : Part) (f : UnitPort → UnitPort) :
    (p.withPort f).start = p.start := rfl
@[simp] theorem Part.withPort_clock (p : Part) (f : UnitPort → UnitPort) :
    (p.withPort f).clock = p.clock := rfl
@[simp] theorem Part.withPort_board (p : Part) (f : UnitPort → UnitPort) :
    (p.withPort f).board = p.board := rfl
@[simp] theorem Part.withPort_page (p : Part) (f : UnitPort → UnitPort) :
    (p.withPort f).page = p.page := rfl
@[simp] theorem Part.withPort_fares (p : Part) (f : UnitPort → UnitPort) :
    (p.withPort f).fares = p.fares := rfl
@[simp] theorem Part.withPort_sales (p : Part) (f : UnitPort → UnitPort) :
    (p.withPort f).sales = p.sales := rfl
@[simp] theorem Part.withPort_quota (p : Part) (f : UnitPort → UnitPort) :
    (p.withPort f).quota = p.quota := rfl
@[simp] theorem Part.withPort_peers (p : Part) (f : UnitPort → UnitPort) :
    (p.withPort f).peers = p.peers := rfl
@[simp] theorem Part.withPort_line (p : Part) (f : UnitPort → UnitPort) :
    (p.withPort f).line = p.line := rfl
@[simp] theorem Part.withPort_notices (p : Part) (f : UnitPort → UnitPort) :
    (p.withPort f).notices = p.notices := rfl
@[simp] theorem Part.withPort_port (p : Part) (f : UnitPort → UnitPort) :
    (p.withPort f).port = f p.port := rfl
@[simp] theorem Part.withPort_doze (p : Part) (f : UnitPort → UnitPort) :
    (p.withPort f).doze = p.doze := rfl
@[simp] theorem Part.withPort_draws (p : Part) (f : UnitPort → UnitPort) :
    (p.withPort f).draws = p.draws := rfl

/-! `Part.withKey`: one key's debouncer alone. -/

@[simp] theorem Part.withKey_lineTime (p : Part) (k : Key) (f : KeyState → KeyState) :
    (p.withKey k f).lineTime = p.lineTime := rfl
@[simp] theorem Part.withKey_supply (p : Part) (k : Key) (f : KeyState → KeyState) :
    (p.withKey k f).supply = p.supply := rfl
@[simp] theorem Part.withKey_retained (p : Part) (k : Key) (f : KeyState → KeyState) :
    (p.withKey k f).retained = p.retained := rfl
@[simp] theorem Part.withKey_start (p : Part) (k : Key) (f : KeyState → KeyState) :
    (p.withKey k f).start = p.start := rfl
@[simp] theorem Part.withKey_clock (p : Part) (k : Key) (f : KeyState → KeyState) :
    (p.withKey k f).clock = p.clock := rfl
@[simp] theorem Part.withKey_board (p : Part) (k : Key) (f : KeyState → KeyState) :
    (p.withKey k f).board = p.board := rfl
@[simp] theorem Part.withKey_page (p : Part) (k : Key) (f : KeyState → KeyState) :
    (p.withKey k f).page = p.page := rfl
@[simp] theorem Part.withKey_fares (p : Part) (k : Key) (f : KeyState → KeyState) :
    (p.withKey k f).fares = p.fares := rfl
@[simp] theorem Part.withKey_sales (p : Part) (k : Key) (f : KeyState → KeyState) :
    (p.withKey k f).sales = p.sales := rfl
@[simp] theorem Part.withKey_quota (p : Part) (k : Key) (f : KeyState → KeyState) :
    (p.withKey k f).quota = p.quota := rfl
@[simp] theorem Part.withKey_peers (p : Part) (k : Key) (f : KeyState → KeyState) :
    (p.withKey k f).peers = p.peers := rfl
@[simp] theorem Part.withKey_line (p : Part) (k : Key) (f : KeyState → KeyState) :
    (p.withKey k f).line = p.line := rfl
@[simp] theorem Part.withKey_notices (p : Part) (k : Key) (f : KeyState → KeyState) :
    (p.withKey k f).notices = p.notices := rfl
@[simp] theorem Part.withKey_port (p : Part) (k : Key) (f : KeyState → KeyState) :
    (p.withKey k f).port = p.port := rfl
@[simp] theorem Part.withKey_doze (p : Part) (k : Key) (f : KeyState → KeyState) :
    (p.withKey k f).doze = p.doze.setKey k (f (p.doze.key k)) := rfl
@[simp] theorem Part.withKey_draws (p : Part) (k : Key) (f : KeyState → KeyState) :
    (p.withKey k f).draws = p.draws := rfl

/-! `Part.setLoad`: the load transfer alone. -/

@[simp] theorem Part.setLoad_lineTime (p : Part) (x : Option LoadTransfer) :
    (p.setLoad x).lineTime = p.lineTime := rfl
@[simp] theorem Part.setLoad_supply (p : Part) (x : Option LoadTransfer) :
    (p.setLoad x).supply = p.supply := rfl
@[simp] theorem Part.setLoad_retained (p : Part) (x : Option LoadTransfer) :
    (p.setLoad x).retained = p.retained := rfl
@[simp] theorem Part.setLoad_start (p : Part) (x : Option LoadTransfer) :
    (p.setLoad x).start = p.start := rfl
@[simp] theorem Part.setLoad_clock (p : Part) (x : Option LoadTransfer) :
    (p.setLoad x).clock = p.clock := rfl
@[simp] theorem Part.setLoad_board (p : Part) (x : Option LoadTransfer) :
    (p.setLoad x).board = { p.board with load := x } := rfl
@[simp] theorem Part.setLoad_page (p : Part) (x : Option LoadTransfer) :
    (p.setLoad x).page = p.page := rfl
@[simp] theorem Part.setLoad_fares (p : Part) (x : Option LoadTransfer) :
    (p.setLoad x).fares = p.fares := rfl
@[simp] theorem Part.setLoad_sales (p : Part) (x : Option LoadTransfer) :
    (p.setLoad x).sales = p.sales := rfl
@[simp] theorem Part.setLoad_quota (p : Part) (x : Option LoadTransfer) :
    (p.setLoad x).quota = p.quota := rfl
@[simp] theorem Part.setLoad_peers (p : Part) (x : Option LoadTransfer) :
    (p.setLoad x).peers = p.peers := rfl
@[simp] theorem Part.setLoad_line (p : Part) (x : Option LoadTransfer) :
    (p.setLoad x).line = p.line := rfl
@[simp] theorem Part.setLoad_notices (p : Part) (x : Option LoadTransfer) :
    (p.setLoad x).notices = p.notices := rfl
@[simp] theorem Part.setLoad_port (p : Part) (x : Option LoadTransfer) :
    (p.setLoad x).port = p.port := rfl
@[simp] theorem Part.setLoad_doze (p : Part) (x : Option LoadTransfer) :
    (p.setLoad x).doze = p.doze := rfl
@[simp] theorem Part.setLoad_draws (p : Part) (x : Option LoadTransfer) :
    (p.setLoad x).draws = p.draws := rfl

/-! `Part.setTransfer`: the fare transfer alone. -/

@[simp] theorem Part.setTransfer_lineTime (p : Part) (x : Option FareTransfer) :
    (p.setTransfer x).lineTime = p.lineTime := rfl
@[simp] theorem Part.setTransfer_supply (p : Part) (x : Option FareTransfer) :
    (p.setTransfer x).supply = p.supply := rfl
@[simp] theorem Part.setTransfer_retained (p : Part) (x : Option FareTransfer) :
    (p.setTransfer x).retained = p.retained := rfl
@[simp] theorem Part.setTransfer_start (p : Part) (x : Option FareTransfer) :
    (p.setTransfer x).start = p.start := rfl
@[simp] theorem Part.setTransfer_clock (p : Part) (x : Option FareTransfer) :
    (p.setTransfer x).clock = p.clock := rfl
@[simp] theorem Part.setTransfer_board (p : Part) (x : Option FareTransfer) :
    (p.setTransfer x).board = p.board := rfl
@[simp] theorem Part.setTransfer_page (p : Part) (x : Option FareTransfer) :
    (p.setTransfer x).page = p.page := rfl
@[simp] theorem Part.setTransfer_fares (p : Part) (x : Option FareTransfer) :
    (p.setTransfer x).fares = { p.fares with transfer := x } := rfl
@[simp] theorem Part.setTransfer_sales (p : Part) (x : Option FareTransfer) :
    (p.setTransfer x).sales = p.sales := rfl
@[simp] theorem Part.setTransfer_quota (p : Part) (x : Option FareTransfer) :
    (p.setTransfer x).quota = p.quota := rfl
@[simp] theorem Part.setTransfer_peers (p : Part) (x : Option FareTransfer) :
    (p.setTransfer x).peers = p.peers := rfl
@[simp] theorem Part.setTransfer_line (p : Part) (x : Option FareTransfer) :
    (p.setTransfer x).line = p.line := rfl
@[simp] theorem Part.setTransfer_notices (p : Part) (x : Option FareTransfer) :
    (p.setTransfer x).notices = p.notices := rfl
@[simp] theorem Part.setTransfer_port (p : Part) (x : Option FareTransfer) :
    (p.setTransfer x).port = p.port := rfl
@[simp] theorem Part.setTransfer_doze (p : Part) (x : Option FareTransfer) :
    (p.setTransfer x).doze = p.doze := rfl
@[simp] theorem Part.setTransfer_draws (p : Part) (x : Option FareTransfer) :
    (p.setTransfer x).draws = p.draws := rfl

/-! `Part.clearIssue`: the issue record alone. -/

@[simp] theorem Part.clearIssue_lineTime (p : Part) :
    (p.clearIssue).lineTime = p.lineTime := rfl
@[simp] theorem Part.clearIssue_supply (p : Part) :
    (p.clearIssue).supply = p.supply := rfl
@[simp] theorem Part.clearIssue_retained (p : Part) :
    (p.clearIssue).retained = p.retained := rfl
@[simp] theorem Part.clearIssue_start (p : Part) :
    (p.clearIssue).start = p.start := rfl
@[simp] theorem Part.clearIssue_clock (p : Part) :
    (p.clearIssue).clock = p.clock := rfl
@[simp] theorem Part.clearIssue_board (p : Part) :
    (p.clearIssue).board = p.board := rfl
@[simp] theorem Part.clearIssue_page (p : Part) :
    (p.clearIssue).page = p.page := rfl
@[simp] theorem Part.clearIssue_fares (p : Part) :
    (p.clearIssue).fares = p.fares := rfl
@[simp] theorem Part.clearIssue_sales (p : Part) :
    (p.clearIssue).sales = { p.sales with issue := none } := rfl
@[simp] theorem Part.clearIssue_quota (p : Part) :
    (p.clearIssue).quota = p.quota := rfl
@[simp] theorem Part.clearIssue_peers (p : Part) :
    (p.clearIssue).peers = p.peers := rfl
@[simp] theorem Part.clearIssue_line (p : Part) :
    (p.clearIssue).line = p.line := rfl
@[simp] theorem Part.clearIssue_notices (p : Part) :
    (p.clearIssue).notices = p.notices := rfl
@[simp] theorem Part.clearIssue_port (p : Part) :
    (p.clearIssue).port = p.port := rfl
@[simp] theorem Part.clearIssue_doze (p : Part) :
    (p.clearIssue).doze = p.doze := rfl
@[simp] theorem Part.clearIssue_draws (p : Part) :
    (p.clearIssue).draws = p.draws := rfl

/-! `Part.gatherFlags`: the sticky fare flags alone (R82). -/

@[simp] theorem Part.gatherFlags_lineTime (p : Part) (f : FareFlags) :
    (p.gatherFlags f).lineTime = p.lineTime := rfl
@[simp] theorem Part.gatherFlags_supply (p : Part) (f : FareFlags) :
    (p.gatherFlags f).supply = p.supply := rfl
@[simp] theorem Part.gatherFlags_retained (p : Part) (f : FareFlags) :
    (p.gatherFlags f).retained = p.retained := rfl
@[simp] theorem Part.gatherFlags_start (p : Part) (f : FareFlags) :
    (p.gatherFlags f).start = p.start := rfl
@[simp] theorem Part.gatherFlags_clock (p : Part) (f : FareFlags) :
    (p.gatherFlags f).clock = p.clock := rfl
@[simp] theorem Part.gatherFlags_board (p : Part) (f : FareFlags) :
    (p.gatherFlags f).board = p.board := rfl
@[simp] theorem Part.gatherFlags_page (p : Part) (f : FareFlags) :
    (p.gatherFlags f).page = p.page := rfl
@[simp] theorem Part.gatherFlags_fares (p : Part) (f : FareFlags) :
    (p.gatherFlags f).fares = { p.fares with sticky := p.fares.sticky.union f } := rfl
@[simp] theorem Part.gatherFlags_sales (p : Part) (f : FareFlags) :
    (p.gatherFlags f).sales = p.sales := rfl
@[simp] theorem Part.gatherFlags_quota (p : Part) (f : FareFlags) :
    (p.gatherFlags f).quota = p.quota := rfl
@[simp] theorem Part.gatherFlags_peers (p : Part) (f : FareFlags) :
    (p.gatherFlags f).peers = p.peers := rfl
@[simp] theorem Part.gatherFlags_line (p : Part) (f : FareFlags) :
    (p.gatherFlags f).line = p.line := rfl
@[simp] theorem Part.gatherFlags_notices (p : Part) (f : FareFlags) :
    (p.gatherFlags f).notices = p.notices := rfl
@[simp] theorem Part.gatherFlags_port (p : Part) (f : FareFlags) :
    (p.gatherFlags f).port = p.port := rfl
@[simp] theorem Part.gatherFlags_doze (p : Part) (f : FareFlags) :
    (p.gatherFlags f).doze = p.doze := rfl
@[simp] theorem Part.gatherFlags_draws (p : Part) (f : FareFlags) :
    (p.gatherFlags f).draws = p.draws := rfl

/-! `Part.modifyEntry`: the departure list alone. -/

@[simp] theorem Part.modifyEntry_lineTime (p : Part) (k : TrainKey) (f : Entry → Entry) :
    (p.modifyEntry k f).lineTime = p.lineTime := rfl
@[simp] theorem Part.modifyEntry_supply (p : Part) (k : TrainKey) (f : Entry → Entry) :
    (p.modifyEntry k f).supply = p.supply := rfl
@[simp] theorem Part.modifyEntry_retained (p : Part) (k : TrainKey) (f : Entry → Entry) :
    (p.modifyEntry k f).retained = p.retained := rfl
@[simp] theorem Part.modifyEntry_start (p : Part) (k : TrainKey) (f : Entry → Entry) :
    (p.modifyEntry k f).start = p.start := rfl
@[simp] theorem Part.modifyEntry_clock (p : Part) (k : TrainKey) (f : Entry → Entry) :
    (p.modifyEntry k f).clock = p.clock := rfl
@[simp] theorem Part.modifyEntry_board (p : Part) (k : TrainKey) (f : Entry → Entry) :
    (p.modifyEntry k f).board = p.board.modify k f := rfl
@[simp] theorem Part.modifyEntry_page (p : Part) (k : TrainKey) (f : Entry → Entry) :
    (p.modifyEntry k f).page = p.page := rfl
@[simp] theorem Part.modifyEntry_fares (p : Part) (k : TrainKey) (f : Entry → Entry) :
    (p.modifyEntry k f).fares = p.fares := rfl
@[simp] theorem Part.modifyEntry_sales (p : Part) (k : TrainKey) (f : Entry → Entry) :
    (p.modifyEntry k f).sales = p.sales := rfl
@[simp] theorem Part.modifyEntry_quota (p : Part) (k : TrainKey) (f : Entry → Entry) :
    (p.modifyEntry k f).quota = p.quota := rfl
@[simp] theorem Part.modifyEntry_peers (p : Part) (k : TrainKey) (f : Entry → Entry) :
    (p.modifyEntry k f).peers = p.peers := rfl
@[simp] theorem Part.modifyEntry_line (p : Part) (k : TrainKey) (f : Entry → Entry) :
    (p.modifyEntry k f).line = p.line := rfl
@[simp] theorem Part.modifyEntry_notices (p : Part) (k : TrainKey) (f : Entry → Entry) :
    (p.modifyEntry k f).notices = p.notices := rfl
@[simp] theorem Part.modifyEntry_port (p : Part) (k : TrainKey) (f : Entry → Entry) :
    (p.modifyEntry k f).port = p.port := rfl
@[simp] theorem Part.modifyEntry_doze (p : Part) (k : TrainKey) (f : Entry → Entry) :
    (p.modifyEntry k f).doze = p.doze := rfl
@[simp] theorem Part.modifyEntry_draws (p : Part) (k : TrainKey) (f : Entry → Entry) :
    (p.modifyEntry k f).draws = p.draws := rfl

/-! `Part.drawOrder`: one draw. -/

@[simp] theorem Part.drawOrder_lineTime (p : Part) :
    (p.drawOrder).lineTime = p.lineTime := rfl
@[simp] theorem Part.drawOrder_supply (p : Part) :
    (p.drawOrder).supply = p.supply := rfl
@[simp] theorem Part.drawOrder_retained (p : Part) :
    (p.drawOrder).retained = p.retained := rfl
@[simp] theorem Part.drawOrder_start (p : Part) :
    (p.drawOrder).start = p.start := rfl
@[simp] theorem Part.drawOrder_clock (p : Part) :
    (p.drawOrder).clock = p.clock := rfl
@[simp] theorem Part.drawOrder_board (p : Part) :
    (p.drawOrder).board = p.board := rfl
@[simp] theorem Part.drawOrder_page (p : Part) :
    (p.drawOrder).page = p.page := rfl
@[simp] theorem Part.drawOrder_fares (p : Part) :
    (p.drawOrder).fares = p.fares := rfl
@[simp] theorem Part.drawOrder_sales (p : Part) :
    (p.drawOrder).sales = p.sales := rfl
@[simp] theorem Part.drawOrder_quota (p : Part) :
    (p.drawOrder).quota = p.quota := rfl
@[simp] theorem Part.drawOrder_peers (p : Part) :
    (p.drawOrder).peers = p.peers := rfl
@[simp] theorem Part.drawOrder_line (p : Part) :
    (p.drawOrder).line = p.line := rfl
@[simp] theorem Part.drawOrder_notices (p : Part) :
    (p.drawOrder).notices = p.notices := rfl
@[simp] theorem Part.drawOrder_port (p : Part) :
    (p.drawOrder).port = p.port := rfl
@[simp] theorem Part.drawOrder_doze (p : Part) :
    (p.drawOrder).doze = p.doze := rfl
@[simp] theorem Part.drawOrder_draws (p : Part) :
    (p.drawOrder).draws = p.draws + 1 := rfl

/-! `Part.note`: the notice queue alone (R166). -/

@[simp] theorem Part.note_lineTime (p : Part) (n : Notice) :
    (p.note n).lineTime = p.lineTime := rfl
@[simp] theorem Part.note_supply (p : Part) (n : Notice) :
    (p.note n).supply = p.supply := rfl
@[simp] theorem Part.note_retained (p : Part) (n : Notice) :
    (p.note n).retained = p.retained := rfl
@[simp] theorem Part.note_start (p : Part) (n : Notice) :
    (p.note n).start = p.start := rfl
@[simp] theorem Part.note_clock (p : Part) (n : Notice) :
    (p.note n).clock = p.clock := rfl
@[simp] theorem Part.note_board (p : Part) (n : Notice) :
    (p.note n).board = p.board := rfl
@[simp] theorem Part.note_page (p : Part) (n : Notice) :
    (p.note n).page = p.page := rfl
@[simp] theorem Part.note_fares (p : Part) (n : Notice) :
    (p.note n).fares = p.fares := rfl
@[simp] theorem Part.note_sales (p : Part) (n : Notice) :
    (p.note n).sales = p.sales := rfl
@[simp] theorem Part.note_quota (p : Part) (n : Notice) :
    (p.note n).quota = p.quota := rfl
@[simp] theorem Part.note_peers (p : Part) (n : Notice) :
    (p.note n).peers = p.peers := rfl
@[simp] theorem Part.note_line (p : Part) (n : Notice) :
    (p.note n).line = p.line := rfl
@[simp] theorem Part.note_notices (p : Part) (n : Notice) :
    (p.note n).notices = p.notices.store p.doze.state p.holdOff p.lineTime n := rfl
@[simp] theorem Part.note_port (p : Part) (n : Notice) :
    (p.note n).port = p.port := rfl
@[simp] theorem Part.note_doze (p : Part) (n : Notice) :
    (p.note n).doze = p.doze := rfl
@[simp] theorem Part.note_draws (p : Part) (n : Notice) :
    (p.note n).draws = p.draws := rfl

/-! `Part.write`: the journal alone (R102). -/

@[simp] theorem Part.write_lineTime (p : Part) (n : Nat) (b : JournalBody) :
    (p.write n b).lineTime = p.lineTime := rfl
@[simp] theorem Part.write_supply (p : Part) (n : Nat) (b : JournalBody) :
    (p.write n b).supply = p.supply := rfl
@[simp] theorem Part.write_retained (p : Part) (n : Nat) (b : JournalBody) :
    (p.write n b).retained = p.retained := rfl
@[simp] theorem Part.write_start (p : Part) (n : Nat) (b : JournalBody) :
    (p.write n b).start = p.start := rfl
@[simp] theorem Part.write_clock (p : Part) (n : Nat) (b : JournalBody) :
    (p.write n b).clock = p.clock := rfl
@[simp] theorem Part.write_board (p : Part) (n : Nat) (b : JournalBody) :
    (p.write n b).board = p.board := rfl
@[simp] theorem Part.write_page (p : Part) (n : Nat) (b : JournalBody) :
    (p.write n b).page = p.page := rfl
@[simp] theorem Part.write_fares (p : Part) (n : Nat) (b : JournalBody) :
    (p.write n b).fares = p.fares := rfl
@[simp] theorem Part.write_quota (p : Part) (n : Nat) (b : JournalBody) :
    (p.write n b).quota = p.quota := rfl
@[simp] theorem Part.write_peers (p : Part) (n : Nat) (b : JournalBody) :
    (p.write n b).peers = p.peers := rfl
@[simp] theorem Part.write_line (p : Part) (n : Nat) (b : JournalBody) :
    (p.write n b).line = p.line := rfl
@[simp] theorem Part.write_notices (p : Part) (n : Nat) (b : JournalBody) :
    (p.write n b).notices = p.notices := rfl
@[simp] theorem Part.write_port (p : Part) (n : Nat) (b : JournalBody) :
    (p.write n b).port = p.port := rfl
@[simp] theorem Part.write_doze (p : Part) (n : Nat) (b : JournalBody) :
    (p.write n b).doze = p.doze := rfl
@[simp] theorem Part.write_draws (p : Part) (n : Nat) (b : JournalBody) :
    (p.write n b).draws = p.draws := rfl

/-! `Part.putReply`: the reply store alone. -/

@[simp] theorem Part.putReply_lineTime (p : Part) (k : Nat) (a : Answer) :
    (p.putReply k a).lineTime = p.lineTime := rfl
@[simp] theorem Part.putReply_supply (p : Part) (k : Nat) (a : Answer) :
    (p.putReply k a).supply = p.supply := rfl
@[simp] theorem Part.putReply_retained (p : Part) (k : Nat) (a : Answer) :
    (p.putReply k a).retained = p.retained := rfl
@[simp] theorem Part.putReply_start (p : Part) (k : Nat) (a : Answer) :
    (p.putReply k a).start = p.start := rfl
@[simp] theorem Part.putReply_clock (p : Part) (k : Nat) (a : Answer) :
    (p.putReply k a).clock = p.clock := rfl
@[simp] theorem Part.putReply_board (p : Part) (k : Nat) (a : Answer) :
    (p.putReply k a).board = p.board := rfl
@[simp] theorem Part.putReply_page (p : Part) (k : Nat) (a : Answer) :
    (p.putReply k a).page = p.page := rfl
@[simp] theorem Part.putReply_fares (p : Part) (k : Nat) (a : Answer) :
    (p.putReply k a).fares = p.fares := rfl
@[simp] theorem Part.putReply_sales (p : Part) (k : Nat) (a : Answer) :
    (p.putReply k a).sales = p.sales := rfl
@[simp] theorem Part.putReply_quota (p : Part) (k : Nat) (a : Answer) :
    (p.putReply k a).quota = p.quota := rfl
@[simp] theorem Part.putReply_peers (p : Part) (k : Nat) (a : Answer) :
    (p.putReply k a).peers = p.peers := rfl
@[simp] theorem Part.putReply_line (p : Part) (k : Nat) (a : Answer) :
    (p.putReply k a).line = p.line := rfl
@[simp] theorem Part.putReply_notices (p : Part) (k : Nat) (a : Answer) :
    (p.putReply k a).notices = p.notices := rfl
@[simp] theorem Part.putReply_port (p : Part) (k : Nat) (a : Answer) :
    (p.putReply k a).port = { p.port with reply := some ⟨k, a.result, a.body⟩ } := rfl
@[simp] theorem Part.putReply_doze (p : Part) (k : Nat) (a : Answer) :
    (p.putReply k a).doze = p.doze := rfl
@[simp] theorem Part.putReply_draws (p : Part) (k : Nat) (a : Answer) :
    (p.putReply k a).draws = p.draws := rfl

/-! `Part.clearWindow`: the void window alone (R101). -/

@[simp] theorem Part.clearWindow_lineTime (p : Part) :
    (p.clearWindow).lineTime = p.lineTime := rfl
@[simp] theorem Part.clearWindow_supply (p : Part) :
    (p.clearWindow).supply = p.supply := rfl
@[simp] theorem Part.clearWindow_retained (p : Part) :
    (p.clearWindow).retained = p.retained := rfl
@[simp] theorem Part.clearWindow_start (p : Part) :
    (p.clearWindow).start = p.start := rfl
@[simp] theorem Part.clearWindow_clock (p : Part) :
    (p.clearWindow).clock = p.clock := rfl
@[simp] theorem Part.clearWindow_board (p : Part) :
    (p.clearWindow).board = p.board := rfl
@[simp] theorem Part.clearWindow_page (p : Part) :
    (p.clearWindow).page = p.page := rfl
@[simp] theorem Part.clearWindow_fares (p : Part) :
    (p.clearWindow).fares = p.fares := rfl
@[simp] theorem Part.clearWindow_sales (p : Part) :
    (p.clearWindow).sales = { p.sales with voidWindow := none } := rfl
@[simp] theorem Part.clearWindow_quota (p : Part) :
    (p.clearWindow).quota = p.quota := rfl
@[simp] theorem Part.clearWindow_peers (p : Part) :
    (p.clearWindow).peers = p.peers := rfl
@[simp] theorem Part.clearWindow_line (p : Part) :
    (p.clearWindow).line = p.line := rfl
@[simp] theorem Part.clearWindow_notices (p : Part) :
    (p.clearWindow).notices = p.notices := rfl
@[simp] theorem Part.clearWindow_port (p : Part) :
    (p.clearWindow).port = p.port := rfl
@[simp] theorem Part.clearWindow_doze (p : Part) :
    (p.clearWindow).doze = p.doze := rfl
@[simp] theorem Part.clearWindow_draws (p : Part) :
    (p.clearWindow).draws = p.draws := rfl

/-! `Part.withSupply`: the supplies, and the retained store with them (R193). -/

@[simp] theorem Part.withSupply_lineTime (p : Part) (s : Supply) :
    (p.withSupply s).lineTime = p.lineTime := rfl
@[simp] theorem Part.withSupply_supply (p : Part) (s : Supply) :
    (p.withSupply s).supply = s := rfl
@[simp] theorem Part.withSupply_retained (p : Part) (s : Supply) :
    (p.withSupply s).retained = p.retained.under s := rfl
@[simp] theorem Part.withSupply_start (p : Part) (s : Supply) :
    (p.withSupply s).start = p.start := rfl
@[simp] theorem Part.withSupply_clock (p : Part) (s : Supply) :
    (p.withSupply s).clock = p.clock := rfl
@[simp] theorem Part.withSupply_board (p : Part) (s : Supply) :
    (p.withSupply s).board = p.board := rfl
@[simp] theorem Part.withSupply_page (p : Part) (s : Supply) :
    (p.withSupply s).page = p.page := rfl
@[simp] theorem Part.withSupply_fares (p : Part) (s : Supply) :
    (p.withSupply s).fares = p.fares := rfl
@[simp] theorem Part.withSupply_sales (p : Part) (s : Supply) :
    (p.withSupply s).sales = p.sales := rfl
@[simp] theorem Part.withSupply_quota (p : Part) (s : Supply) :
    (p.withSupply s).quota = p.quota := rfl
@[simp] theorem Part.withSupply_peers (p : Part) (s : Supply) :
    (p.withSupply s).peers = p.peers := rfl
@[simp] theorem Part.withSupply_line (p : Part) (s : Supply) :
    (p.withSupply s).line = p.line := rfl
@[simp] theorem Part.withSupply_notices (p : Part) (s : Supply) :
    (p.withSupply s).notices = p.notices := rfl
@[simp] theorem Part.withSupply_port (p : Part) (s : Supply) :
    (p.withSupply s).port = p.port := rfl
@[simp] theorem Part.withSupply_doze (p : Part) (s : Supply) :
    (p.withSupply s).doze = p.doze := rfl
@[simp] theorem Part.withSupply_draws (p : Part) (s : Supply) :
    (p.withSupply s).draws = p.draws := rfl

/-! `Part.shiftStatus`: the record of the transfer alone (R178). -/

@[simp] theorem Part.shiftStatus_lineTime (p : Part) :
    (p.shiftStatus).lineTime = p.lineTime := rfl
@[simp] theorem Part.shiftStatus_supply (p : Part) :
    (p.shiftStatus).supply = p.supply := rfl
@[simp] theorem Part.shiftStatus_retained (p : Part) :
    (p.shiftStatus).retained = p.retained := rfl
@[simp] theorem Part.shiftStatus_start (p : Part) :
    (p.shiftStatus).start = p.start := rfl
@[simp] theorem Part.shiftStatus_clock (p : Part) :
    (p.shiftStatus).clock = p.clock := rfl
@[simp] theorem Part.shiftStatus_board (p : Part) :
    (p.shiftStatus).board = p.board := rfl
@[simp] theorem Part.shiftStatus_page (p : Part) :
    (p.shiftStatus).page = p.page := rfl
@[simp] theorem Part.shiftStatus_fares (p : Part) :
    (p.shiftStatus).fares = p.fares := rfl
@[simp] theorem Part.shiftStatus_sales (p : Part) :
    (p.shiftStatus).sales = p.sales := rfl
@[simp] theorem Part.shiftStatus_quota (p : Part) :
    (p.shiftStatus).quota = p.quota := rfl
@[simp] theorem Part.shiftStatus_peers (p : Part) :
    (p.shiftStatus).peers = p.peers := rfl
@[simp] theorem Part.shiftStatus_line (p : Part) :
    (p.shiftStatus).line = p.line := rfl
@[simp] theorem Part.shiftStatus_notices (p : Part) :
    (p.shiftStatus).notices = p.notices := rfl
@[simp] theorem Part.shiftStatus_port (p : Part) :
    (p.shiftStatus).port = { p.port with lastTransfer := some ⟨p.portStatus, none⟩ } := rfl
@[simp] theorem Part.shiftStatus_doze (p : Part) :
    (p.shiftStatus).doze = p.doze := rfl
@[simp] theorem Part.shiftStatus_draws (p : Part) :
    (p.shiftStatus).draws = p.draws := rfl

/-! `Part.fetch`: the unit port alone (R180). -/

@[simp] theorem Part.fetch_lineTime (p : Part) (n : Nat) :
    (p.fetch n).lineTime = p.lineTime := rfl
@[simp] theorem Part.fetch_supply (p : Part) (n : Nat) :
    (p.fetch n).supply = p.supply := rfl
@[simp] theorem Part.fetch_retained (p : Part) (n : Nat) :
    (p.fetch n).retained = p.retained := rfl
@[simp] theorem Part.fetch_start (p : Part) (n : Nat) :
    (p.fetch n).start = p.start := rfl
@[simp] theorem Part.fetch_clock (p : Part) (n : Nat) :
    (p.fetch n).clock = p.clock := rfl
@[simp] theorem Part.fetch_board (p : Part) (n : Nat) :
    (p.fetch n).board = p.board := rfl
@[simp] theorem Part.fetch_page (p : Part) (n : Nat) :
    (p.fetch n).page = p.page := rfl
@[simp] theorem Part.fetch_fares (p : Part) (n : Nat) :
    (p.fetch n).fares = p.fares := rfl
@[simp] theorem Part.fetch_sales (p : Part) (n : Nat) :
    (p.fetch n).sales = p.sales := rfl
@[simp] theorem Part.fetch_quota (p : Part) (n : Nat) :
    (p.fetch n).quota = p.quota := rfl
@[simp] theorem Part.fetch_peers (p : Part) (n : Nat) :
    (p.fetch n).peers = p.peers := rfl
@[simp] theorem Part.fetch_line (p : Part) (n : Nat) :
    (p.fetch n).line = p.line := rfl
@[simp] theorem Part.fetch_notices (p : Part) (n : Nat) :
    (p.fetch n).notices = p.notices := rfl
@[simp] theorem Part.fetch_doze (p : Part) (n : Nat) :
    (p.fetch n).doze = p.doze := rfl
@[simp] theorem Part.fetch_draws (p : Part) (n : Nat) :
    (p.fetch n).draws = p.draws := rfl

/-! `DepartureList.modify`: the entries alone. -/

@[simp] theorem DepartureList.modify_load (b : DepartureList) (k : TrainKey) (f : Entry → Entry) :
    (b.modify k f).load = b.load := rfl
@[simp] theorem DepartureList.modify_edition (b : DepartureList) (k : TrainKey) (f : Entry → Entry) :
    (b.modify k f).edition = b.edition := rfl
@[simp] theorem DepartureList.modify_fullCount (b : DepartureList) (k : TrainKey) (f : Entry → Entry) :
    (b.modify k f).fullCount = b.fullCount := rfl
@[simp] theorem DepartureList.modify_unknownCount (b : DepartureList) (k : TrainKey) (f : Entry → Entry) :
    (b.modify k f).unknownCount = b.unknownCount := rfl
@[simp] theorem DepartureList.modify_staleCount (b : DepartureList) (k : TrainKey) (f : Entry → Entry) :
    (b.modify k f).staleCount = b.staleCount := rfl

/-! `QuotaUnit.modify`: the ledger alone. -/

@[simp] theorem QuotaUnit.modify_watch (q : QuotaUnit) (k : TrainKey) (f : LedgerRecord → LedgerRecord) :
    (q.modify k f).watch = q.watch := rfl
@[simp] theorem QuotaUnit.modify_asks (q : QuotaUnit) (k : TrainKey) (f : LedgerRecord → LedgerRecord) :
    (q.modify k f).asks = q.asks := rfl
@[simp] theorem QuotaUnit.modify_blind (q : QuotaUnit) (k : TrainKey) (f : LedgerRecord → LedgerRecord) :
    (q.modify k f).blind = q.blind := rfl
@[simp] theorem QuotaUnit.modify_ignoredGrants (q : QuotaUnit) (k : TrainKey) (f : LedgerRecord → LedgerRecord) :
    (q.modify k f).ignoredGrants = q.ignoredGrants := rfl
@[simp] theorem QuotaUnit.modify_unmatchedTaken (q : QuotaUnit) (k : TrainKey) (f : LedgerRecord → LedgerRecord) :
    (q.modify k f).unmatchedTaken = q.unmatchedTaken := rfl
@[simp] theorem QuotaUnit.modify_ledgerFull (q : QuotaUnit) (k : TrainKey) (f : LedgerRecord → LedgerRecord) :
    (q.modify k f).ledgerFull = q.ledgerFull := rfl
@[simp] theorem QuotaUnit.modify_forgoneGrants (q : QuotaUnit) (k : TrainKey) (f : LedgerRecord → LedgerRecord) :
    (q.modify k f).forgoneGrants = q.forgoneGrants := rfl

/-! `PeerTable.modify`: the peer records alone. -/

@[simp] theorem PeerTable.modify_beaconDeadline (x : PeerTable) (n : Nat) (f : PeerRecord → PeerRecord) :
    (x.modify n f).beaconDeadline = x.beaconDeadline := rfl
@[simp] theorem PeerTable.modify_noticedTimetable (x : PeerTable) (n : Nat) (f : PeerRecord → PeerRecord) :
    (x.modify n f).noticedTimetable = x.noticedTimetable := rfl
@[simp] theorem PeerTable.modify_noticedFare (x : PeerTable) (n : Nat) (f : PeerRecord → PeerRecord) :
    (x.modify n f).noticedFare = x.noticedFare := rfl
@[simp] theorem PeerTable.modify_duplicateNodeTime (x : PeerTable) (n : Nat) (f : PeerRecord → PeerRecord) :
    (x.modify n f).duplicateNodeTime = x.duplicateNodeTime := rfl
@[simp] theorem PeerTable.modify_skipped (x : PeerTable) (n : Nat) (f : PeerRecord → PeerRecord) :
    (x.modify n f).skipped = x.skipped := rfl
@[simp] theorem PeerTable.modify_duplicateNode (x : PeerTable) (n : Nat) (f : PeerRecord → PeerRecord) :
    (x.modify n f).duplicateNode = x.duplicateNode := rfl
@[simp] theorem PeerTable.modify_unheeded (x : PeerTable) (n : Nat) (f : PeerRecord → PeerRecord) :
    (x.modify n f).unheeded = x.unheeded := rfl
@[simp] theorem PeerTable.modify_peerGone (x : PeerTable) (n : Nat) (f : PeerRecord → PeerRecord) :
    (x.modify n f).peerGone = x.peerGone := rfl

/-! `LineInterface.modify`: the slots alone. -/

@[simp] theorem LineInterface.modify_busy (l : LineInterface) (i : Nat) (f : Slot → Slot) :
    (l.modify i f).busy = l.busy := rfl
@[simp] theorem LineInterface.modify_changedAt (l : LineInterface) (i : Nat) (f : Slot → Slot) :
    (l.modify i f).changedAt = l.changedAt := rfl
@[simp] theorem LineInterface.modify_tx (l : LineInterface) (i : Nat) (f : Slot → Slot) :
    (l.modify i f).tx = l.tx := rfl
@[simp] theorem LineInterface.modify_nextSeq (l : LineInterface) (i : Nat) (f : Slot → Slot) :
    (l.modify i f).nextSeq = l.nextSeq := rfl
@[simp] theorem LineInterface.modify_nextFrame (l : LineInterface) (i : Nat) (f : Slot → Slot) :
    (l.modify i f).nextFrame = l.nextFrame := rfl
@[simp] theorem LineInterface.modify_counts (l : LineInterface) (i : Nat) (f : Slot → Slot) :
    (l.modify i f).counts = l.counts := rfl
@[simp] theorem LineInterface.modify_onLine (l : LineInterface) (i : Nat) (f : Slot → Slot) :
    (l.modify i f).onLine = l.onLine := rfl

/-! `LineInterface.push`: a slot at the tail, and the next numbers (R152). -/

@[simp] theorem LineInterface.push_busy (l : LineInterface) (c : FrameClass) (b : FrameBody) :
    (l.push c b).busy = l.busy := rfl
@[simp] theorem LineInterface.push_changedAt (l : LineInterface) (c : FrameClass) (b : FrameBody) :
    (l.push c b).changedAt = l.changedAt := rfl
@[simp] theorem LineInterface.push_tx (l : LineInterface) (c : FrameClass) (b : FrameBody) :
    (l.push c b).tx = l.tx := rfl
@[simp] theorem LineInterface.push_nextSeq (l : LineInterface) (c : FrameClass) (b : FrameBody) :
    (l.push c b).nextSeq = (l.nextSeq + 1) % 256 := rfl
@[simp] theorem LineInterface.push_nextFrame (l : LineInterface) (c : FrameClass) (b : FrameBody) :
    (l.push c b).nextFrame = l.nextFrame + 1 := rfl
@[simp] theorem LineInterface.push_counts (l : LineInterface) (c : FrameClass) (b : FrameBody) :
    (l.push c b).counts = l.counts := rfl
@[simp] theorem LineInterface.push_onLine (l : LineInterface) (c : FrameClass) (b : FrameBody) :
    (l.push c b).onLine = l.onLine := rfl

/-! `LineInterface.drop`: slots freed, and a chosen one let go (R153). -/

@[simp] theorem LineInterface.drop_busy (l : LineInterface) (ids : List Nat) :
    (l.drop ids).busy = l.busy := rfl
@[simp] theorem LineInterface.drop_changedAt (l : LineInterface) (ids : List Nat) :
    (l.drop ids).changedAt = l.changedAt := rfl
@[simp] theorem LineInterface.drop_nextSeq (l : LineInterface) (ids : List Nat) :
    (l.drop ids).nextSeq = l.nextSeq := rfl
@[simp] theorem LineInterface.drop_nextFrame (l : LineInterface) (ids : List Nat) :
    (l.drop ids).nextFrame = l.nextFrame := rfl
@[simp] theorem LineInterface.drop_counts (l : LineInterface) (ids : List Nat) :
    (l.drop ids).counts = l.counts := rfl
@[simp] theorem LineInterface.drop_onLine (l : LineInterface) (ids : List Nat) :
    (l.drop ids).onLine = l.onLine := rfl

/-! `HaltClock.lost`: the source lost (R9). -/

@[simp] theorem HaltClock.lost_reading (c : HaltClock) :
    (c.lost).reading = c.reading := rfl
@[simp] theorem HaltClock.lost_stratum (c : HaltClock) :
    (c.lost).stratum = 8 := rfl
@[simp] theorem HaltClock.lost_source (c : HaltClock) :
    (c.lost).source = none := rfl
@[simp] theorem HaltClock.lost_sourceDeadline (c : HaltClock) :
    (c.lost).sourceDeadline = none := rfl
@[simp] theorem HaltClock.lost_pending (c : HaltClock) :
    (c.lost).pending = c.pending := rfl
@[simp] theorem HaltClock.lost_periodStart (c : HaltClock) :
    (c.lost).periodStart = c.periodStart := rfl
@[simp] theorem HaltClock.lost_referenceDeadline (c : HaltClock) :
    (c.lost).referenceDeadline = c.referenceDeadline := rfl
@[simp] theorem HaltClock.lost_salesDay (c : HaltClock) :
    (c.lost).salesDay = c.salesDay := rfl
@[simp] theorem HaltClock.lost_rolloverMinute (c : HaltClock) :
    (c.lost).rolloverMinute = c.rolloverMinute := rfl
@[simp] theorem HaltClock.lost_disagree (c : HaltClock) :
    (c.lost).disagree = false := rfl
@[simp] theorem HaltClock.lost_lastEventMinute (c : HaltClock) :
    (c.lost).lastEventMinute = c.lastEventMinute := rfl



@[simp] theorem HaltClock.tick_reading (c : HaltClock) :
    c.tick = { c with reading := if c.pending = 0 then c.reading.advance 1 else c.reading } := by
  simp only [HaltClock.tick]; split <;> rfl

/-! `DozeKeys.setKey` and `DozeKeys.key`: a key's debouncer reads back as it was set, the other one stands. -/

@[simp] theorem DozeKeys.key_setKey (d : DozeKeys) (k : Key) (v : KeyState) : (d.setKey k v).key k = v := by
  cases k <;> rfl

theorem DozeKeys.key_setKey_other (d : DozeKeys) (j k : Key) (v : KeyState) (h : j ≠ k) :
    (d.setKey k v).key j = d.key j := by
  cases j <;> cases k <;> first | rfl | exact absurd rfl h

@[simp] theorem DozeKeys.setKey_setKey (d : DozeKeys) (k : Key) (v w : KeyState) :
    (d.setKey k v).setKey k w = d.setKey k w := by
  cases k <;> rfl

@[simp] theorem DozeKeys.setKey_state (d : DozeKeys) (k : Key) (v : KeyState) : (d.setKey k v).state = d.state := by
  cases k <;> rfl

@[simp] theorem DozeKeys.setKey_dozeStart (d : DozeKeys) (k : Key) (v : KeyState) :
    (d.setKey k v).dozeStart = d.dozeStart := by
  cases k <;> rfl

@[simp] theorem DozeKeys.setKey_dozeCount (d : DozeKeys) (k : Key) (v : KeyState) :
    (d.setKey k v).dozeCount = d.dozeCount := by
  cases k <;> rfl

@[simp] theorem DozeKeys.setKey_lastWake (d : DozeKeys) (k : Key) (v : KeyState) :
    (d.setKey k v).lastWake = d.lastWake := by
  cases k <;> rfl

/-! The queue of commands: a command's effect leaves it (R181; 95). -/

@[simp] theorem State.became_pending (s : State) (p : Part) : s.became p = .next ⟨p, s.pending⟩ := rfl

end Sys2Proof.Machine
end

