-- ==== Sys2Proof/Laws/Records.lean ====
section
/-! SUPPORT. Records found by their key after a change: the changed one reads as changed, every other as before. -/

namespace Sys2Proof.Machine

/-- What a keyed change of a list does to a search by another property that the change keeps. -/
theorem find_map_if {α : Type} (l : List α) (hit pick : α → Bool) (f : α → α)
    (keeps : ∀ x, pick (f x) = pick x) :
    (l.map (fun x => if hit x then f x else x)).find? pick
      = (l.find? pick).map (fun x => if hit x then f x else x) := by
  induction l with
  | nil => rfl
  | cons x xs ih =>
    have same : pick (if hit x then f x else x) = pick x := by split <;> simp [keeps]
    simp only [List.map_cons, List.find?_cons, same]
    cases pick x <;> simp [ih]

/-- An entry changed without its train: its train finds it changed (R20). -/
theorem DepartureList.find_modify (b : DepartureList) (k : TrainKey) (f : Entry → Entry)
    (keeps : ∀ e, (f e).train = e.train) : (b.modify k f).find k = (b.find k).map f := by
  have h := find_map_if b.entries (fun e => decide (e.train = k)) (fun e => decide (e.train = k)) f
    (by simp [keeps])
  simp only [decide_eq_true_eq] at h
  simp only [DepartureList.find, DepartureList.modify, h]
  cases hf : b.entries.find? (fun e => decide (e.train = k)) with
  | none => rfl
  | some e => have := List.find?_some hf; simp at this; simp [this]

/-- Every other train finds its entry as it was. -/
theorem DepartureList.find_modify_other (b : DepartureList) (j k : TrainKey) (f : Entry → Entry)
    (keeps : ∀ e, (f e).train = e.train) (other : j ≠ k) : (b.modify k f).find j = b.find j := by
  have h := find_map_if b.entries (fun e => decide (e.train = k)) (fun e => decide (e.train = j)) f
    (by simp [keeps])
  simp only [decide_eq_true_eq] at h
  simp only [DepartureList.find, DepartureList.modify, h]
  cases hf : b.entries.find? (fun e => decide (e.train = j)) with
  | none => rfl
  | some e => have := List.find?_some hf; simp at this; simp [this, other]

/-- A ledger record changed without its train: its train finds it changed (R110). -/
theorem QuotaUnit.find_modify (q : QuotaUnit) (k : TrainKey) (f : LedgerRecord → LedgerRecord)
    (keeps : ∀ r, (f r).train = r.train) : (q.modify k f).find k = (q.find k).map f := by
  have h := find_map_if q.ledger (fun r => decide (r.train = k)) (fun r => decide (r.train = k)) f
    (by simp [keeps])
  simp only [decide_eq_true_eq] at h
  simp only [QuotaUnit.find, QuotaUnit.modify, h]
  cases hf : q.ledger.find? (fun r => decide (r.train = k)) with
  | none => rfl
  | some r => have := List.find?_some hf; simp at this; simp [this]

/-- Every other train finds its ledger record as it was. -/
theorem QuotaUnit.find_modify_other (q : QuotaUnit) (j k : TrainKey) (f : LedgerRecord → LedgerRecord)
    (keeps : ∀ r, (f r).train = r.train) (other : j ≠ k) : (q.modify k f).find j = q.find j := by
  have h := find_map_if q.ledger (fun r => decide (r.train = k)) (fun r => decide (r.train = j)) f
    (by simp [keeps])
  simp only [decide_eq_true_eq] at h
  simp only [QuotaUnit.find, QuotaUnit.modify, h]
  cases hf : q.ledger.find? (fun r => decide (r.train = j)) with
  | none => rfl
  | some r => have := List.find?_some hf; simp at this; simp [this, other]

/-- A peer record changed without its node number: its node finds it changed (R135). -/
theorem PeerTable.find_modify (x : PeerTable) (n : Nat) (f : PeerRecord → PeerRecord)
    (keeps : ∀ r, (f r).node = r.node) : (x.modify n f).find n = (x.find n).map f := by
  have h := find_map_if x.records (fun r => decide (r.node = n)) (fun r => decide (r.node = n)) f
    (by simp [keeps])
  simp only [decide_eq_true_eq] at h
  simp only [PeerTable.find, PeerTable.modify, h]
  cases hf : x.records.find? (fun r => decide (r.node = n)) with
  | none => rfl
  | some r => have := List.find?_some hf; simp at this; simp [this]

/-- Every other node finds its record as it was. -/
theorem PeerTable.find_modify_other (x : PeerTable) (m n : Nat) (f : PeerRecord → PeerRecord)
    (keeps : ∀ r, (f r).node = r.node) (other : m ≠ n) : (x.modify n f).find m = x.find m := by
  have h := find_map_if x.records (fun r => decide (r.node = n)) (fun r => decide (r.node = m)) f
    (by simp [keeps])
  simp only [decide_eq_true_eq] at h
  simp only [PeerTable.find, PeerTable.modify, h]
  cases hf : x.records.find? (fun r => decide (r.node = m)) with
  | none => rfl
  | some r => have := List.find?_some hf; simp at this; simp [this, other]

/-- A slot changed without its number: its number finds it changed (R151). -/
theorem LineInterface.find_modify (l : LineInterface) (i : Nat) (f : Slot → Slot)
    (keeps : ∀ x, (f x).id = x.id) : (l.modify i f).find i = (l.find i).map f := by
  have h := find_map_if l.slots (fun x => decide (x.id = i)) (fun x => decide (x.id = i)) f (by simp [keeps])
  simp only [decide_eq_true_eq] at h
  simp only [LineInterface.find, LineInterface.modify, h]
  cases hf : l.slots.find? (fun x => decide (x.id = i)) with
  | none => rfl
  | some x => have := List.find?_some hf; simp at this; simp [this]

/-- Every other slot is found as it was. -/
theorem LineInterface.find_modify_other (l : LineInterface) (i j : Nat) (f : Slot → Slot)
    (keeps : ∀ x, (f x).id = x.id) (other : j ≠ i) : (l.modify i f).find j = l.find j := by
  have h := find_map_if l.slots (fun x => decide (x.id = i)) (fun x => decide (x.id = j)) f (by simp [keeps])
  simp only [decide_eq_true_eq] at h
  simp only [LineInterface.find, LineInterface.modify, h]
  cases hf : l.slots.find? (fun x => decide (x.id = j)) with
  | none => rfl
  | some x => have := List.find?_some hf; simp at this; simp [this, other]

/-- The trains of the departure list stand under a change that keeps them. -/
theorem DepartureList.modify_trains (b : DepartureList) (k : TrainKey) (f : Entry → Entry)
    (keeps : ∀ e, (f e).train = e.train) : (b.modify k f).entries.map Entry.train = b.entries.map Entry.train := by
  simp only [DepartureList.modify, List.map_map]
  apply List.map_congr_left
  intro e _
  simp only [Function.comp]
  split <;> simp [keeps]

/-- The trains of the ledger stand under a change that keeps them. -/
theorem QuotaUnit.modify_trains (q : QuotaUnit) (k : TrainKey) (f : LedgerRecord → LedgerRecord)
    (keeps : ∀ r, (f r).train = r.train) :
    (q.modify k f).ledger.map LedgerRecord.train = q.ledger.map LedgerRecord.train := by
  simp only [QuotaUnit.modify, List.map_map]
  apply List.map_congr_left
  intro r _
  simp only [Function.comp]
  split <;> simp [keeps]

/-- Two changes of one ledger record are one change. -/
theorem QuotaUnit.modify_modify (q : QuotaUnit) (k : TrainKey) (f g : LedgerRecord → LedgerRecord)
    (keeps : ∀ r, (f r).train = r.train) : (q.modify k f).modify k g = q.modify k (fun r => g (f r)) := by
  simp only [QuotaUnit.modify, List.map_map]
  congr 1
  apply List.map_congr_left
  intro r _
  simp only [Function.comp]
  split <;> simp_all

end Sys2Proof.Machine
end

