-- ==== Sys2Proof/Laws/Ledger.lean ====
section
/-! SUPPORT. Each move of places on one ledger record keeps the record's law (R110, R111). -/

namespace Sys2Proof.Machine

/-! ### Places of grant records -/

@[simp] theorem placesOf_nil : placesOf [] = 0 := rfl

@[simp] theorem placesOf_cons (g : GrantRecord) (l : List GrantRecord) :
    placesOf (g :: l) = g.count + placesOf l := by
  simp [placesOf]

@[simp] theorem placesOf_append (l m : List GrantRecord) : placesOf (l ++ m) = placesOf l + placesOf m := by
  simp [placesOf]

/-- The three states tell a list's places apart. -/
def placesIn (pick : GrantRecord → Bool) (l : List GrantRecord) : Nat := placesOf (l.filter pick)

@[simp] theorem placesIn_nil (pick : GrantRecord → Bool) : placesIn pick [] = 0 := rfl

@[simp] theorem placesIn_cons (pick : GrantRecord → Bool) (g : GrantRecord) (l : List GrantRecord) :
    placesIn pick (g :: l) = (if pick g then g.count else 0) + placesIn pick l := by
  simp only [placesIn, List.filter_cons]; split <;> simp

@[simp] theorem placesIn_append (pick : GrantRecord → Bool) (l m : List GrantRecord) :
    placesIn pick (l ++ m) = placesIn pick l + placesIn pick m := by
  simp [placesIn]

/-- One found record's places are among the places of its kind. -/
theorem count_le_placesIn (pick : GrantRecord → Bool) (l : List GrantRecord) (g : GrantRecord) (h : g ∈ l)
    (hp : pick g = true) : g.count ≤ placesIn pick l := by
  induction l with
  | nil => simp at h
  | cons x xs ih =>
    rcases List.mem_cons.mp h with rfl | h
    · simp [hp]
    · have := ih h; simp; omega

/-- Taking the first record that passes a test out of the list takes its places out of those of each kind. -/
theorem placesIn_eraseP (pick hit : GrantRecord → Bool) (l : List GrantRecord) (g : GrantRecord)
    (h : l.find? hit = some g) :
    placesIn pick (l.eraseP hit) + (if pick g then g.count else 0) = placesIn pick l := by
  induction l with
  | nil => simp at h
  | cons x xs ih =>
    rw [List.find?_cons] at h
    cases hx : hit x with
    | true => simp [hx] at h; subst h; simp [hx]; omega
    | false => simp [hx] at h; have := ih h; simp [hx]; omega

/-- Changing the first record that passes a test changes the places of each kind by that record alone. -/
theorem placesIn_modifyFirst (pick hit : GrantRecord → Bool) (f : GrantRecord → GrantRecord) (l : List GrantRecord)
    (g : GrantRecord) (h : l.find? hit = some g) :
    placesIn pick (modifyFirst hit f l) + (if pick g then g.count else 0)
      = placesIn pick l + (if pick (f g) then (f g).count else 0) := by
  induction l with
  | nil => simp at h
  | cons x xs ih =>
    rw [List.find?_cons] at h
    cases hx : hit x with
    | true => simp [hx] at h; subst h; simp [modifyFirst, hx]; omega
    | false => simp [hx] at h; have := ih h; simp [modifyFirst, hx]; omega

@[simp] theorem modifyFirst_length {α : Type} (hit : α → Bool) (f : α → α) (l : List α) :
    (modifyFirst hit f l).length = l.length := by
  induction l with
  | nil => rfl
  | cons x xs ih => simp only [modifyFirst]; split <;> simp [ih]

/-- With no record that passes the test nothing changes. -/
theorem modifyFirst_none {α : Type} (hit : α → Bool) (f : α → α) (l : List α) (h : l.find? hit = none) :
    modifyFirst hit f l = l := by
  induction l with
  | nil => rfl
  | cons x xs ih =>
    rw [List.find?_cons] at h
    cases hx : hit x with
    | true => simp [hx] at h
    | false => simp [hx] at h; simp [modifyFirst, hx, ih (by simpa using h)]

/-- The law of a record, its open grants counted by `placesIn`. -/
theorem LedgerRecord.balanced_iff (r : LedgerRecord) :
    r.Balanced ↔ r.share + r.received = r.counters ∧ r.share + r.received ≤ 99
      ∧ r.lending = placesIn GrantRecord.isLending r.grants
      ∧ r.awaiting = placesIn GrantRecord.isAwaiting r.grants
      ∧ placesIn GrantRecord.isDoubtful r.grants ≤ r.doubtful ∧ r.grants.length ≤ 8 := Iff.rfl

/-! ### The moves of R116 and R117 -/

theorem LedgerRecord.fresh_balanced (k : TrainKey) (total share : Nat) (h : share ≤ 99) :
    (LedgerRecord.fresh k total share).Balanced := by
  simp [LedgerRecord.fresh, LedgerRecord.Balanced, LedgerRecord.counters, h]

theorem LedgerRecord.reserve_balanced (r : LedgerRecord) (k : Nat) (h : r.Balanced) : (r.reserve k).Balanced := by
  simp only [LedgerRecord.Balanced, LedgerRecord.counters, LedgerRecord.reserve] at *
  omega

theorem LedgerRecord.returnReserved_balanced (r : LedgerRecord) (h : r.Balanced) : r.returnReserved.Balanced := by
  simp only [LedgerRecord.Balanced, LedgerRecord.counters, LedgerRecord.returnReserved] at *
  omega

theorem LedgerRecord.lapseReserved_balanced (r : LedgerRecord) (h : r.Balanced) : r.lapseReserved.Balanced := by
  simp only [LedgerRecord.Balanced, LedgerRecord.counters, LedgerRecord.lapseReserved] at *
  omega

theorem LedgerRecord.sellReserved_balanced (r : LedgerRecord) (h : r.Balanced) : r.sellReserved.Balanced := by
  simp only [LedgerRecord.Balanced, LedgerRecord.counters, LedgerRecord.sellReserved] at *
  omega

theorem LedgerRecord.unsell_balanced (r : LedgerRecord) (k : Nat) (toHeld : Bool) (h : r.Balanced) :
    (r.unsell k toHeld).Balanced := by
  cases toHeld <;>
    (simp only [LedgerRecord.Balanced, LedgerRecord.counters, LedgerRecord.unsell] at *
     simp only [if_true, Bool.false_eq_true, if_false]
     omega)

theorem LedgerRecord.receive_balanced (r : LedgerRecord) (count : Nat) (toHeld : Bool) (h : r.Balanced)
    (room : r.share + r.received + count ≤ 99) : (r.receive count toHeld).Balanced := by
  cases toHeld <;>
    (simp only [LedgerRecord.Balanced, LedgerRecord.counters, LedgerRecord.receive] at *
     simp only [if_true, Bool.false_eq_true, if_false]
     omega)

/-! ### The states of one grant -/

theorem GrantRecord.state_lending (g : GrantRecord) (f : Nat) (h : g.state = .lending f) :
    g.isLending = true ∧ g.isAwaiting = false ∧ g.isDoubtful = false := by
  simp [GrantRecord.isLending, GrantRecord.isAwaiting, GrantRecord.isDoubtful, h]

theorem GrantRecord.state_awaiting (g : GrantRecord) (d : Nat) (h : g.state = .awaiting d) :
    g.isLending = false ∧ g.isAwaiting = true ∧ g.isDoubtful = false := by
  simp [GrantRecord.isLending, GrantRecord.isAwaiting, GrantRecord.isDoubtful, h]

theorem GrantRecord.state_doubtful (g : GrantRecord) (h : g.state = .doubtful) :
    g.isLending = false ∧ g.isAwaiting = false ∧ g.isDoubtful = true := by
  simp [GrantRecord.isLending, GrantRecord.isAwaiting, GrantRecord.isDoubtful, h]

/-- A record that lends by a frame is LENDING. -/
theorem GrantRecord.lendsBy_state (g : GrantRecord) (f : Nat) (h : g.lendsBy f = true) : g.state = .lending f := by
  simpa [GrantRecord.lendsBy] using h

/-- A grant made from held, with room for its record (R123). -/
theorem LedgerRecord.lend_balanced (r : LedgerRecord) (g : GrantRecord) (f : Nat) (h : r.Balanced)
    (state : g.state = .lending f) (enough : g.count ≤ r.held) (room : r.grants.length < 8) :
    (r.lend g).Balanced := by
  have hg := g.state_lending f state
  rw [LedgerRecord.balanced_iff] at *
  simp only [LedgerRecord.lend, LedgerRecord.counters, placesIn_append, placesIn_cons, placesIn_nil, hg,
    List.length_append, List.length_cons, List.length_nil] at *
  simp at *
  omega

/-- The first record that passes a test, of which every one is of one kind, goes over to another state. -/
theorem placesIn_toState (pick hit : GrantRecord → Bool) (st : GrantState) (l : List GrantRecord) (g : GrantRecord)
    (h : l.find? hit = some g) :
    placesIn pick (modifyFirst hit (fun g => { g with state := st }) l) + (if pick g then g.count else 0)
      = placesIn pick l + (if pick { g with state := st } then g.count else 0) :=
  placesIn_modifyFirst pick hit (fun g => { g with state := st }) l g h

theorem GrantRecord.to_awaiting (g : GrantRecord) (d : Nat) :
    ({ g with state := .awaiting d } : GrantRecord).isLending = false
      ∧ ({ g with state := .awaiting d } : GrantRecord).isAwaiting = true
      ∧ ({ g with state := .awaiting d } : GrantRecord).isDoubtful = false := ⟨rfl, rfl, rfl⟩

theorem GrantRecord.to_doubtful (g : GrantRecord) :
    ({ g with state := .doubtful } : GrantRecord).isLending = false
      ∧ ({ g with state := .doubtful } : GrantRecord).isAwaiting = false
      ∧ ({ g with state := .doubtful } : GrantRecord).isDoubtful = true := ⟨rfl, rfl, rfl⟩

/-- An own grant sent whole (R125). -/
theorem LedgerRecord.grantSent_balanced (r : LedgerRecord) (frame deadline : Nat) (h : r.Balanced) :
    (r.grantSent frame deadline).Balanced := by
  simp only [LedgerRecord.grantSent]
  split
  · exact h
  · rename_i g hg
    have hk := g.state_lending frame (g.lendsBy_state frame (by simpa using List.find?_some hg))
    have hle := count_le_placesIn GrantRecord.isLending r.grants g (List.mem_of_find?_eq_some hg) hk.1
    have e1 := placesIn_toState GrantRecord.isLending _ (.awaiting deadline) _ g hg
    have e2 := placesIn_toState GrantRecord.isAwaiting _ (.awaiting deadline) _ g hg
    have e3 := placesIn_toState GrantRecord.isDoubtful _ (.awaiting deadline) _ g hg
    simp only [hk, g.to_awaiting deadline, if_true, Bool.false_eq_true, if_false] at e1 e2 e3
    rw [LedgerRecord.balanced_iff] at *
    simp only [LedgerRecord.counters, modifyFirst_length] at *
    omega

/-- An own grant given up (R126). -/
theorem LedgerRecord.grantGivenUp_balanced (r : LedgerRecord) (frame : Nat) (h : r.Balanced) :
    (r.grantGivenUp frame).Balanced := by
  simp only [LedgerRecord.grantGivenUp]
  split
  · exact h
  · rename_i g hg
    have hk := g.state_lending frame (g.lendsBy_state frame (by simpa using List.find?_some hg))
    have hle := count_le_placesIn GrantRecord.isLending r.grants g (List.mem_of_find?_eq_some hg) hk.1
    have e1 := placesIn_toState GrantRecord.isLending _ .doubtful _ g hg
    have e2 := placesIn_toState GrantRecord.isAwaiting _ .doubtful _ g hg
    have e3 := placesIn_toState GrantRecord.isDoubtful _ .doubtful _ g hg
    simp only [hk, g.to_doubtful, if_true, Bool.false_eq_true, if_false] at e1 e2 e3
    rw [LedgerRecord.balanced_iff] at *
    simp only [LedgerRecord.counters, modifyFirst_length] at *
    omega

/-- A TAKEN deadline reached (R128). -/
theorem LedgerRecord.grantOverdue_balanced (r : LedgerRecord) (asker number now : Nat) (h : r.Balanced) :
    (r.grantOverdue asker number now).Balanced := by
  simp only [LedgerRecord.grantOverdue]
  split
  · exact h
  · rename_i g hg
    have hk : g.isLending = false ∧ g.isAwaiting = true ∧ g.isDoubtful = false := by
      have ho := List.find?_some hg
      simp only [GrantRecord.overdue, Bool.and_eq_true] at ho
      cases hst : g.state with
      | awaiting d => exact g.state_awaiting d hst
      | lending f => simp [hst] at ho
      | doubtful => simp [hst] at ho
    have hle := count_le_placesIn GrantRecord.isAwaiting r.grants g (List.mem_of_find?_eq_some hg) hk.2.1
    have e1 := placesIn_toState GrantRecord.isLending _ .doubtful _ g hg
    have e2 := placesIn_toState GrantRecord.isAwaiting _ .doubtful _ g hg
    have e3 := placesIn_toState GrantRecord.isDoubtful _ .doubtful _ g hg
    simp only [hk, g.to_doubtful, if_true, Bool.false_eq_true, if_false] at e1 e2 e3
    rw [LedgerRecord.balanced_iff] at *
    simp only [LedgerRecord.counters, modifyFirst_length] at *
    omega

/-- A collision marked (R124). -/
theorem LedgerRecord.grantCollided_balanced (r : LedgerRecord) (frame : Nat) (h : r.Balanced) :
    (r.grantCollided frame).Balanced := by
  simp only [LedgerRecord.grantCollided]
  cases hf : r.grants.find? (fun g => g.lendsBy frame) with
  | none => rw [modifyFirst_none _ _ _ hf]; exact h
  | some g =>
    have e1 := placesIn_modifyFirst GrantRecord.isLending _ (fun g => { g with collided := true }) _ g hf
    have e2 := placesIn_modifyFirst GrantRecord.isAwaiting _ (fun g => { g with collided := true }) _ g hf
    have e3 := placesIn_modifyFirst GrantRecord.isDoubtful _ (fun g => { g with collided := true }) _ g hf
    have k1 : ({ g with collided := true } : GrantRecord).isLending = g.isLending := rfl
    have k2 : ({ g with collided := true } : GrantRecord).isAwaiting = g.isAwaiting := rfl
    have k3 : ({ g with collided := true } : GrantRecord).isDoubtful = g.isDoubtful := rfl
    simp only [k1, k2, k3] at e1 e2 e3
    rw [LedgerRecord.balanced_iff] at *
    simp only [LedgerRecord.counters, modifyFirst_length] at *
    omega

/-- The first record that passes a test taken out of a list leaves the list no longer. -/
theorem eraseP_length_le (hit : GrantRecord → Bool) (l : List GrantRecord) : (l.eraseP hit).length ≤ l.length :=
  List.length_eraseP_le

/-- An own LENDING grant lapsed (R124). -/
theorem LedgerRecord.grantLapsed_balanced (r : LedgerRecord) (frame : Nat) (h : r.Balanced) :
    (r.grantLapsed frame).Balanced := by
  simp only [LedgerRecord.grantLapsed]
  split
  · exact h
  · rename_i g hg
    have hk := g.state_lending frame (g.lendsBy_state frame (by simpa using List.find?_some hg))
    have hle := count_le_placesIn GrantRecord.isLending r.grants g (List.mem_of_find?_eq_some hg) hk.1
    have e1 := placesIn_eraseP GrantRecord.isLending _ _ g hg
    have e2 := placesIn_eraseP GrantRecord.isAwaiting _ _ g hg
    have e3 := placesIn_eraseP GrantRecord.isDoubtful _ _ g hg
    have hl := eraseP_length_le (fun g => g.lendsBy frame) r.grants
    simp only [hk, if_true, Bool.false_eq_true, if_false] at e1 e2 e3
    rw [LedgerRecord.balanced_iff] at *
    simp only [LedgerRecord.counters] at *
    omega

/-- A TAKEN taken (R127). -/
theorem LedgerRecord.grantTaken_balanced (r : LedgerRecord) (asker number count : Nat) (h : r.Balanced) :
    (r.grantTaken asker number count).Balanced := by
  simp only [LedgerRecord.grantTaken]
  split
  · exact h
  · rename_i g hg
    have hm := List.mem_of_find?_eq_some hg
    have e1 := placesIn_eraseP GrantRecord.isLending _ _ g hg
    have e2 := placesIn_eraseP GrantRecord.isAwaiting _ _ g hg
    have e3 := placesIn_eraseP GrantRecord.isDoubtful _ _ g hg
    have hl := eraseP_length_le (GrantRecord.matchesTaken asker number count) r.grants
    rw [LedgerRecord.balanced_iff] at *
    cases hst : g.state with
    | lending f =>
      have hk := g.state_lending f hst
      have hle := count_le_placesIn GrantRecord.isLending r.grants g hm hk.1
      simp only [hk, if_true, Bool.false_eq_true, if_false] at e1 e2 e3
      simp only [LedgerRecord.counters] at *
      omega
    | awaiting d =>
      have hk := g.state_awaiting d hst
      have hle := count_le_placesIn GrantRecord.isAwaiting r.grants g hm hk.2.1
      simp only [hk, if_true, Bool.false_eq_true, if_false] at e1 e2 e3
      simp only [LedgerRecord.counters] at *
      omega
    | doubtful =>
      have hk := g.state_doubtful hst
      have hle := count_le_placesIn GrantRecord.isDoubtful r.grants g hm hk.2.2
      simp only [hk, if_true, Bool.false_eq_true, if_false] at e1 e2 e3
      simp only [LedgerRecord.counters] at *
      omega

/-- An own LENDING grant cut to fewer places, or withdrawn at none (R124). -/
theorem LedgerRecord.cutGrant_balanced (r : LedgerRecord) (frame left : Nat) (toHeld : Bool) (h : r.Balanced) :
    (r.cutGrant frame left toHeld).Balanced := by
  simp only [LedgerRecord.cutGrant]
  split
  · exact h
  · rename_i g hg
    have hk := g.state_lending frame (g.lendsBy_state frame (by simpa using List.find?_some hg))
    have hle := count_le_placesIn GrantRecord.isLending r.grants g (List.mem_of_find?_eq_some hg) hk.1
    have hl := eraseP_length_le (fun g => g.lendsBy frame) r.grants
    have e1 := placesIn_eraseP GrantRecord.isLending _ _ g hg
    have e2 := placesIn_eraseP GrantRecord.isAwaiting _ _ g hg
    have e3 := placesIn_eraseP GrantRecord.isDoubtful _ _ g hg
    have f1 := placesIn_modifyFirst GrantRecord.isLending _ (fun g => { g with count := min g.count left }) _ g hg
    have f2 := placesIn_modifyFirst GrantRecord.isAwaiting _ (fun g => { g with count := min g.count left }) _ g hg
    have f3 := placesIn_modifyFirst GrantRecord.isDoubtful _ (fun g => { g with count := min g.count left }) _ g hg
    have k1 : ({ g with count := min g.count left } : GrantRecord).isLending = g.isLending := rfl
    have k2 : ({ g with count := min g.count left } : GrantRecord).isAwaiting = g.isAwaiting := rfl
    have k3 : ({ g with count := min g.count left } : GrantRecord).isDoubtful = g.isDoubtful := rfl
    simp only [k1, k2, k3, hk, if_true, Bool.false_eq_true, if_false] at e1 e2 e3 f1 f2 f3
    rw [LedgerRecord.balanced_iff] at *
    by_cases hz : left = 0 <;> cases toHeld <;>
      simp only [LedgerRecord.counters, hz, if_true, if_false, Bool.false_eq_true, modifyFirst_length] at * <;> omega

/-- The places of two kinds that no record is both of are the places of either. -/
theorem placesIn_split (a b c : GrantRecord → Bool) (l : List GrantRecord)
    (h : ∀ g, a g = (b g || c g)) (apart : ∀ g, b g = true → c g = false) :
    placesIn a l = placesIn b l + placesIn c l := by
  induction l with
  | nil => rfl
  | cons g l ih =>
    have hg := h g
    have ha := apart g
    simp only [placesIn_cons, ih, hg]
    cases hb : b g <;> cases hc : c g <;> simp_all <;> omega

/-- The places of a kind in the records that pass a test. -/
theorem placesIn_filter (pick keep : GrantRecord → Bool) (l : List GrantRecord) :
    placesIn pick (l.filter keep) = placesIn (fun g => pick g && keep g) l := by
  simp only [placesIn, List.filter_filter]

/-- The places of a kind after every record is changed without its count. -/
theorem placesIn_map (pick : GrantRecord → Bool) (f : GrantRecord → GrantRecord) (l : List GrantRecord)
    (keeps : ∀ g, (f g).count = g.count) : placesIn pick (l.map f) = placesIn (fun g => pick (f g)) l := by
  induction l with
  | nil => rfl
  | cons g l ih => simp [ih, keeps]

/-- A train's lapse (R130). -/
theorem LedgerRecord.lapse_balanced (r : LedgerRecord) (withdrawn : GrantRecord → Bool) (h : r.Balanced) :
    (r.lapse withdrawn).Balanced := by
  have e1 := placesIn_split GrantRecord.isLending (fun g => g.isLending && withdrawn g)
    (fun g => g.isLending && !(g.isLending && withdrawn g)) r.grants
    (by intro g; cases g.isLending <;> cases withdrawn g <;> rfl)
    (by intro g; cases g.isLending <;> cases withdrawn g <;> simp)
  have e2 : placesIn (fun g => g.isAwaiting && !(g.isLending && withdrawn g)) r.grants
      = placesIn GrantRecord.isAwaiting r.grants := by
    congr 1; funext g
    cases hs : g.state <;> simp [GrantRecord.isAwaiting, GrantRecord.isLending, hs]
  have e3 : placesIn (fun g => g.isDoubtful && !(g.isLending && withdrawn g)) r.grants
      = placesIn GrantRecord.isDoubtful r.grants := by
    congr 1; funext g
    cases hs : g.state <;> simp [GrantRecord.isDoubtful, GrantRecord.isLending, hs]
  have hl := List.length_filter_le (fun g => !(g.isLending && withdrawn g)) r.grants
  rw [LedgerRecord.balanced_iff] at *
  simp only [LedgerRecord.lapse, LedgerRecord.counters, placesIn_filter, e2, e3] at *
  have e4 : placesOf (r.grants.filter (fun g => g.isLending && withdrawn g))
      = placesIn (fun g => g.isLending && withdrawn g) r.grants := rfl
  omega

/-- A peer gone (R129). -/
theorem LedgerRecord.peerGone_balanced (r : LedgerRecord) (asker : Nat) (h : r.Balanced) :
    (r.peerGone asker).Balanced := by
  have keeps : ∀ g : GrantRecord, (if g.awaits asker then { g with state := .doubtful } else g).count = g.count := by
    intro g; split <;> rfl
  have e1 : placesIn (fun g => GrantRecord.isLending (if g.awaits asker then { g with state := .doubtful } else g))
      r.grants = placesIn GrantRecord.isLending r.grants := by
    congr 1; funext g
    split
    · rename_i ha
      cases hs : g.state <;> simp_all [GrantRecord.isLending, GrantRecord.awaits, GrantRecord.isAwaiting]
    · rfl
  have e2 := placesIn_split GrantRecord.isAwaiting (GrantRecord.awaits asker)
    (fun g => GrantRecord.isAwaiting (if g.awaits asker then { g with state := .doubtful } else g)) r.grants
    (by intro g
        cases ha : g.awaits asker with
        | false => simp
        | true =>
          have : g.isAwaiting = true := by
            simp only [GrantRecord.awaits, Bool.and_eq_true] at ha; exact ha.2
          simp [this])
    (by intro g ha; simp [ha, GrantRecord.isAwaiting])
  have e3 := placesIn_split
    (fun g => GrantRecord.isDoubtful (if g.awaits asker then { g with state := .doubtful } else g))
    (GrantRecord.awaits asker) GrantRecord.isDoubtful r.grants
    (by intro g; by_cases ha : g.awaits asker = true <;> simp [ha, GrantRecord.isDoubtful])
    (by intro g ha
        cases hs : g.state <;> simp_all [GrantRecord.isDoubtful, GrantRecord.awaits, GrantRecord.isAwaiting])
  rw [LedgerRecord.balanced_iff] at *
  simp only [LedgerRecord.peerGone, LedgerRecord.counters, placesIn_map _ _ _ keeps, List.length_map, e1, e3] at *
  have e4 : placesOf (r.grants.filter (GrantRecord.awaits asker)) = placesIn (GrantRecord.awaits asker) r.grants := rfl
  omega

/-- The repair of a warm start (R134). -/
theorem LedgerRecord.repair_balanced (r : LedgerRecord) (h : r.Balanced) : r.repair.Balanced := by
  have kept : ∀ g : GrantRecord, g.repaired.count = g.count := fun _ => rfl
  have e1 := placesIn_split GrantRecord.isLending (fun g => g.isLending && !g.collided)
    (fun g => g.isLending && g.collided) r.grants
    (by intro g; cases g.isLending <;> cases g.collided <;> rfl)
    (by intro g; cases g.isLending <;> cases g.collided <;> simp)
  have e2 : placesIn (fun g => g.repaired.isLending && !(g.isLending && !g.collided)) r.grants = 0 := by
    simp [GrantRecord.repaired, GrantRecord.isLending, placesIn]
  have e3 : placesIn (fun g => g.repaired.isAwaiting && !(g.isLending && !g.collided)) r.grants = 0 := by
    simp [GrantRecord.repaired, GrantRecord.isAwaiting, placesIn]
  have e4 := placesIn_split (fun g => g.repaired.isDoubtful && !(g.isLending && !g.collided))
    (fun g => g.isLending && g.collided) (fun g => g.isAwaiting || g.isDoubtful) r.grants
    (by intro g
        cases hs : g.state <;> cases hc : g.collided <;>
          simp [GrantRecord.repaired, GrantRecord.isDoubtful, GrantRecord.isAwaiting, GrantRecord.isLending, hs, hc])
    (by intro g
        cases hs : g.state <;>
          simp [GrantRecord.isDoubtful, GrantRecord.isAwaiting, GrantRecord.isLending, hs])
  have e5 := placesIn_split (fun g => g.isAwaiting || g.isDoubtful) GrantRecord.isAwaiting GrantRecord.isDoubtful
    r.grants (fun _ => rfl)
    (by intro g
        cases hs : g.state <;> simp [GrantRecord.isDoubtful, GrantRecord.isAwaiting, hs])
  have hl := List.length_filter_le (fun g => !(g.isLending && !g.collided)) r.grants
  have n1 : placesOf (r.grants.filter (fun g => g.isLending && !g.collided))
      = placesIn (fun g => g.isLending && !g.collided) r.grants := rfl
  have n2 : placesOf (r.grants.filter (fun g => g.isLending && g.collided))
      = placesIn (fun g => g.isLending && g.collided) r.grants := rfl
  have n3 : placesOf (r.grants.filter GrantRecord.isAwaiting) = placesIn GrantRecord.isAwaiting r.grants := rfl
  have m : ∀ pick : GrantRecord → Bool,
      placesIn pick ((r.grants.filter (fun g => !(g.isLending && !g.collided))).map GrantRecord.repaired)
        = placesIn (fun g => pick g.repaired && !(g.isLending && !g.collided)) r.grants := by
    intro pick
    rw [placesIn_map _ _ _ kept, placesIn_filter]
  rw [LedgerRecord.balanced_iff] at *
  simp only [LedgerRecord.repair, LedgerRecord.counters, m, e2, e3, List.length_map] at *
  omega

/-- A DOUBTFUL record dropped for room leaves the counters and one place in the list (R123). -/
theorem doubtfulToDrop_spec (l : List GrantRecord) (g : GrantRecord) (h : doubtfulToDrop l = some g) :
    g ∈ l ∧ g.isDoubtful = true := by
  induction l generalizing g with
  | nil => simp [doubtfulToDrop] at h
  | cons x xs ih =>
    simp only [doubtfulToDrop] at h
    split at h
    · split at h
      · rename_i hx; simp at h; subst h; exact ⟨by simp, hx⟩
      · simp at h
    · rename_i y hy
      have := ih y hy
      split at h
      · rename_i hx; simp at h hx; subst h; exact ⟨by simp, hx.1⟩
      · simp at h; subst h; exact ⟨by simp [this.1], this.2⟩

/-- Taking one record out by name takes no places of another kind. -/
theorem placesIn_erase_le (pick : GrantRecord → Bool) (l : List GrantRecord) (g : GrantRecord) :
    placesIn pick (l.erase g) ≤ placesIn pick l ∧ (pick g = false → placesIn pick (l.erase g) = placesIn pick l) := by
  induction l with
  | nil => simp
  | cons x xs ih =>
    rw [List.erase_cons]
    split
    · rename_i hx
      have : x = g := by simpa using hx
      subst this
      constructor
      · simp
      · intro hp; simp [hp]
    · constructor
      · simp [ih.1]
      · intro hp; simp [ih.2 hp]

/-- Room made for one more grant record keeps the law, and leaves at most seven (R123). -/
theorem LedgerRecord.makeRoom_balanced (r r' : LedgerRecord) (h : r.Balanced) (hr : r.makeRoom = some r') :
    r'.Balanced ∧ r'.grants.length < 8 ∧ r'.train = r.train ∧ r'.held = r.held := by
  simp only [LedgerRecord.makeRoom] at hr
  split at hr
  · simp at hr; subst hr; exact ⟨h, by assumption, rfl, rfl⟩
  · split at hr
    · simp at hr
    · rename_i g hg
      simp at hr; subst hr
      have ⟨hm, hd⟩ := doubtfulToDrop_spec _ _ hg
      have hs : g.isLending = false ∧ g.isAwaiting = false := by
        cases hs : g.state <;> simp_all [GrantRecord.isDoubtful, GrantRecord.isLending, GrantRecord.isAwaiting]
      have e1 := (placesIn_erase_le GrantRecord.isLending r.grants g).2 hs.1
      have e2 := (placesIn_erase_le GrantRecord.isAwaiting r.grants g).2 hs.2
      have e3 := (placesIn_erase_le GrantRecord.isDoubtful r.grants g).1
      have hl := List.length_erase_of_mem hm
      rw [LedgerRecord.balanced_iff] at *
      simp only [LedgerRecord.counters] at *
      simp only [and_true]
      omega

end Sys2Proof.Machine
end

