-- ==== Sys2Proof/Laws/Port.lean ====
section
/-! SUPPORT. A SEND transfer that reaches a request's owner: what the port has noted by then, and what handles it. -/

namespace Sys2Proof.Machine

/-- A request that fits its payload, in a part that is up, holds no reply and is not in self-test: it wakes a dozing
part, and is then judged by the part state (R179, R181, R184). -/
theorem Part.sendRequest_eq_judgeState (p : Part) (r : Request) (up : p.up = true) (free : p.port.reply = none)
    (awake : p.doze.state ≠ .selfTest) (fits : r.fits = true) :
    p.sendRequest r = (p.afterTaking.wakeFor r.kind).judgeState r := by
  simp [Part.sendRequest, Part.endSend, up, free, Part.takeFrame, Part.takeRequest, Part.withPort, Part.shiftStatus,
    Part.portStatus, UnitPort.found, bump, satAdd, Part.afterTaking, awake, fits]

/-- In RUNNING every request but START reaches its owner as the part stands (R183, R184). -/
theorem Part.sendRequest_eq_handle (p : Part) (r : Request) (up : p.up = true) (free : p.port.reply = none)
    (running : p.doze.state = .running) (fits : r.fits = true) (other : r.kind ≠ .start) :
    p.sendRequest r = p.afterTaking.handle r := by
  rw [p.sendRequest_eq_judgeState r up free (by simp [running]) fits]
  simp [Part.wakeFor, Part.afterTaking, running, Part.judgeState, PartState.refusal, other]

/-- In SELF_TEST every request is answered BUSY (R181, step 1). -/
theorem Part.sendRequest_selfTest (p : Part) (r : Request) (up : p.up = true) (free : p.port.reply = none)
    (testing : p.doze.state = .selfTest) : p.sendRequest r = p.afterTaking.putReply r.kind.code (.bare .busy) := by
  simp [Part.sendRequest, Part.endSend, up, free, Part.takeFrame, Part.takeRequest, Part.withPort, Part.shiftStatus,
    Part.portStatus, UnitPort.found, bump, satAdd, Part.afterTaking, testing]

/-- A transfer of bytes is what its first byte names (R177): 81 a SEND of the rest, 82 a FETCH of as many bytes as follow,
any other a STATUS transfer. -/
theorem Part.transfer_cons (p : Part) (first : Byte) (rest : List Byte) :
    p.transfer (first :: rest) =
      if first = 81#8 then p.sendBytes rest
      else if first = 82#8 then (if p.up then p.fetch rest.length else p)
      else if p.up then p.shiftStatus else p := by
  simp only [Part.transfer, transferType, sendMarker, fetchMarker]
  by_cases h : first = 81#8
  · simp [h]
  · by_cases h' : first = 82#8 <;> simp [h, h']

/-- Every request kind but RESTART is answered by its owner, and the answer put into the reply store (R180, R189). -/
theorem Part.handle_eq_putReply (p : Part) (r : Request) (a : Answer) (h : (p.answer r).2 = some a) :
    p.handle r = (p.answer r).1.putReply r.kind.code a := by
  simp [Part.handle, h]

end Sys2Proof.Machine
end

