-- ==== Sys2Proof/Laws/Running.lean ====
section
/-! SUPPORT. Operations on a part that does not doze: posting wakes nothing, so the doze block stands. -/

namespace Sys2Proof.Machine

/-- Outside DOZING a notice posted is a notice handed to the queue (R166, R174). -/
theorem Part.post_eq_note (p : Part) (n : Notice) (h : p.doze.state ≠ .dozing) : p.post n = p.note n := by
  simp only [Part.post]
  split
  · rfl
  · simp [h]

@[simp] theorem Part.post_running (p : Part) (n : Notice) (awake : p.doze.state ≠ .dozing) :
    (p.post n).doze = p.doze := by
  simp [Part.post_eq_note p n awake]

@[simp] theorem Part.overrunOldest_running (p : Part) (awake : p.doze.state ≠ .dozing) :
    (p.overrunOldest).doze = p.doze := by
  simp only [Part.overrunOldest]; (repeat' split) <;> simp (maxDischargeDepth := 9) [awake]

@[simp] theorem Part.writeAlways_running (p : Part) (b : JournalBody) (awake : p.doze.state ≠ .dozing) :
    (p.writeAlways b).doze = p.doze := by
  simp only [Part.writeAlways]; (repeat' split) <;> simp (maxDischargeDepth := 9) [awake]

@[simp] theorem Part.topUp_running (p : Part) (t : TrainKey) (awake : p.doze.state ≠ .dozing) :
    (p.topUp t).doze = p.doze := by
  simp only [Part.topUp]; (repeat' split) <;> simp (maxDischargeDepth := 9) [awake]

@[simp] theorem Part.endIssue_running (p : Part) (i : IssueRecord) (c : ResultCode) (m : LedgerRecord → LedgerRecord) (awake : p.doze.state ≠ .dozing) :
    (p.endIssue i c m).doze = p.doze := by
  simp only [Part.endIssue]; (repeat' split) <;> simp (maxDischargeDepth := 9) [awake]

@[simp] theorem Part.salesTrainLeft_running (p : Part) (t : TrainKey) (c : ResultCode) (awake : p.doze.state ≠ .dozing) :
    (p.salesTrainLeft t c).doze = p.doze := by
  simp only [Part.salesTrainLeft]; (repeat' split) <;> simp (maxDischargeDepth := 9) [awake]

@[simp] theorem Part.closeDay_running (p : Part) (d : Nat) (awake : p.doze.state ≠ .dozing) :
    (p.closeDay d).doze = p.doze := by
  simp only [Part.closeDay]; (repeat' split) <;> simp (maxDischargeDepth := 9) [awake]

@[simp] theorem Part.linkLedger_running (p : Part) (t : TrainKey) (n : Nat) (awake : p.doze.state ≠ .dozing) :
    ((p.linkLedger t n).1).doze = p.doze := by
  simp only [Part.linkLedger]; (repeat' split) <;> simp (maxDischargeDepth := 9) [awake]

@[simp] theorem Part.acceptGrant_running (p : Part) (s : Nat) (g : GrantPayload) (h : Bool) (awake : p.doze.state ≠ .dozing) :
    (p.acceptGrant s g h).doze = p.doze := by
  simp only [Part.acceptGrant]; (repeat' split) <;> simp (maxDischargeDepth := 9) [awake]

@[simp] theorem Part.takeGrant_running (p : Part) (s : Nat) (g : GrantPayload) (awake : p.doze.state ≠ .dozing) :
    (p.takeGrant s g).doze = p.doze := by
  simp only [Part.takeGrant]; (repeat' split) <;> simp (maxDischargeDepth := 9) [awake]

@[simp] theorem Part.cutOwnGrant_running (p : Part) (t : TrainKey) (a n l : Nat) (awake : p.doze.state ≠ .dozing) :
    (p.cutOwnGrant t a n l).doze = p.doze := by
  simp only [Part.cutOwnGrant]; (repeat' split) <;> simp (maxDischargeDepth := 9) [awake]

@[simp] theorem Part.overhearGrant_running (p : Part) (s : Nat) (g : GrantPayload) (awake : p.doze.state ≠ .dozing) :
    (p.overhearGrant s g).doze = p.doze := by
  simp only [Part.overhearGrant]; (repeat' split) <;> simp (maxDischargeDepth := 9) [awake]

@[simp] theorem Part.hearGrant_running (p : Part) (s : Nat) (g : GrantPayload) (awake : p.doze.state ≠ .dozing) :
    (p.hearGrant s g).doze = p.doze := by
  simp only [Part.hearGrant]; (repeat' split) <;> simp (maxDischargeDepth := 9) [awake]

@[simp] theorem Part.grantSent_running (p : Part) (f : Nat) (awake : p.doze.state ≠ .dozing) :
    (p.grantSent f).doze = p.doze := by
  simp only [Part.grantSent]; (repeat' split) <;> simp (maxDischargeDepth := 9) [awake]

@[simp] theorem Part.grantGivenUp_running (p : Part) (f : Nat) (awake : p.doze.state ≠ .dozing) :
    (p.grantGivenUp f).doze = p.doze := by
  simp only [Part.grantGivenUp]; (repeat' split) <;> simp (maxDischargeDepth := 9) [awake]

@[simp] theorem Part.grantOverdue_running (p : Part) (t : TrainKey) (a n : Nat) (awake : p.doze.state ≠ .dozing) :
    (p.grantOverdue t a n).doze = p.doze := by
  simp only [Part.grantOverdue]; (repeat' split) <;> simp (maxDischargeDepth := 9) [awake]

@[simp] theorem Part.notePeerGone_running (p : Part) (a : Nat) (r : LedgerRecord) (awake : p.doze.state ≠ .dozing) :
    (p.notePeerGone a r).doze = p.doze := by
  simp only [Part.notePeerGone]; (repeat' split) <;> simp (maxDischargeDepth := 9) [awake]

@[simp] theorem Part.notePeersGone_running (p : Part) (a : Nat) (l : List LedgerRecord) (awake : p.doze.state ≠ .dozing) :
    (l.foldl (fun q r => q.notePeerGone a r) p).doze = p.doze := by
  induction l generalizing p with
  | nil => simp
  | cons r l ih => simp [ih, awake]

@[simp] theorem Part.quotaPeerGone_running (p : Part) (a : Nat) (awake : p.doze.state ≠ .dozing) :
    (p.quotaPeerGone a).doze = p.doze := by
  simp only [Part.quotaPeerGone]; (repeat' split) <;> simp (maxDischargeDepth := 9) [awake]

@[simp] theorem Part.lapseTrain_running (p : Part) (t : TrainKey) (awake : p.doze.state ≠ .dozing) :
    (p.lapseTrain t).doze = p.doze := by
  simp only [Part.lapseTrain]; (repeat' split) <;> simp (maxDischargeDepth := 9) [awake]

@[simp] theorem Part.reportLeft_running (p : Part) (e : Entry) (c : ResultCode) (awake : p.doze.state ≠ .dozing) :
    (p.reportLeft e c).doze = p.doze := by
  simp only [Part.reportLeft]; (repeat' split) <;> simp (maxDischargeDepth := 9) [awake]

@[simp] theorem Part.enterGone_running (p : Part) (e : Entry) (awake : p.doze.state ≠ .dozing) :
    (p.enterGone e).doze = p.doze := by
  simp only [Part.enterGone]; (repeat' split) <;> simp (maxDischargeDepth := 9) [awake]

@[simp] theorem Part.enterCancelled_running (p : Part) (e : Entry) (awake : p.doze.state ≠ .dozing) :
    (p.enterCancelled e).doze = p.doze := by
  simp only [Part.enterCancelled]; (repeat' split) <;> simp (maxDischargeDepth := 9) [awake]

@[simp] theorem Part.evaluateEntry_running (p : Part) (e : Entry) (m : Nat) (b : Bool) (awake : p.doze.state ≠ .dozing) :
    ((p.evaluateEntry e m b).1).doze = p.doze := by
  simp only [Part.evaluateEntry]; (repeat' split) <;> simp (maxDischargeDepth := 9) [awake]

@[simp] theorem Part.evaluateNow_running (p : Part) (t : TrainKey) (b : Bool) (awake : p.doze.state ≠ .dozing) :
    (p.evaluateNow t b).doze = p.doze := by
  simp only [Part.evaluateNow]; (repeat' split) <;> simp (maxDischargeDepth := 9) [awake]

@[simp] theorem Part.evaluateAll_running (p : Part) (m : Nat) (l : List TrainKey) (awake : p.doze.state ≠ .dozing) :
    ((p.evaluateAll m l).1).doze = p.doze := by
  induction l generalizing p with
  | nil => simp [Part.evaluateAll]
  | cons t l ih => simp only [Part.evaluateAll]; split <;> simp [ih, awake]

@[simp] theorem Part.boardMinute_running (p : Part) (m : Nat) (awake : p.doze.state ≠ .dozing) :
    (p.boardMinute m).doze = p.doze := by
  simp only [Part.boardMinute]; (repeat' split) <;> simp (maxDischargeDepth := 9) [awake]

@[simp] theorem Part.reportCancelled_running (p : Part) (t : TrainKey) (b : EntryState) (awake : p.doze.state ≠ .dozing) :
    (p.reportCancelled t b).doze = p.doze := by
  simp only [Part.reportCancelled]; (repeat' split) <;> simp (maxDischargeDepth := 9) [awake]

@[simp] theorem Part.applyUpdate_running (p : Part) (s : Option Nat) (u : Update) (e : Entry) (awake : p.doze.state ≠ .dozing) :
    ((p.applyUpdate s u e).1).doze = p.doze := by
  simp only [Part.applyUpdate]; (repeat' split) <;> simp (maxDischargeDepth := 9) [awake]

@[simp] theorem Part.addEntry_running (p : Part) (e : Entry) (awake : p.doze.state ≠ .dozing) :
    (p.addEntry e).doze = p.doze := by
  simp only [Part.addEntry]; (repeat' split) <;> simp (maxDischargeDepth := 9) [awake]

@[simp] theorem Part.createEntry_running (p : Part) (s : Option Nat) (u : Update) (b : NewTrain) (d : Nat) (awake : p.doze.state ≠ .dozing) :
    ((p.createEntry s u b d).1).doze = p.doze := by
  simp only [Part.createEntry]; (repeat' split) <;> simp (maxDischargeDepth := 9) [awake]

@[simp] theorem Part.dropFull_running (p : Part) (s : Option Nat) (u : Update) (awake : p.doze.state ≠ .dozing) :
    ((p.dropFull s u).1).doze = p.doze := by
  simp only [Part.dropFull]; (repeat' split) <;> simp (maxDischargeDepth := 9) [awake]

@[simp] theorem Part.newUpdate_running (p : Part) (s : Option Nat) (u : Update) (awake : p.doze.state ≠ .dozing) :
    ((p.newUpdate s u).1).doze = p.doze := by
  simp only [Part.newUpdate]; (repeat' split) <;> simp (maxDischargeDepth := 9) [awake]

@[simp] theorem Part.takeUpdate_running (p : Part) (s : Option Nat) (u : Update) (awake : p.doze.state ≠ .dozing) :
    ((p.takeUpdate s u).1).doze = p.doze := by
  simp only [Part.takeUpdate]; (repeat' split) <;> simp (maxDischargeDepth := 9) [awake]

@[simp] theorem Part.loadEntry_running (p : Part) (r : TrainRecord) (awake : p.doze.state ≠ .dozing) :
    (p.loadEntry r).doze = p.doze := by
  simp only [Part.loadEntry]; (repeat' split) <;> simp (maxDischargeDepth := 9) [awake]

@[simp] theorem Part.dozeMinute_running (p : Part) (awake : p.doze.state ≠ .dozing) :
    (p.dozeMinute).doze = p.doze := by
  simp [Part.dozeMinute, awake]

@[simp] theorem Part.handRollover_running (p : Part) (n o d : Nat) (awake : p.doze.state ≠ .dozing) :
    (p.handRollover n o d).doze = p.doze := by
  simp only [Part.handRollover, threeInOrder]; split <;> simp (maxDischargeDepth := 9) [awake]

@[simp] theorem Part.rollover_running (p : Part) (o d : Nat) (awake : p.doze.state ≠ .dozing) :
    (p.rollover o d).doze = p.doze := by
  simp only [Part.rollover]; (repeat' split) <;> simp (maxDischargeDepth := 9) [awake]

@[simp] theorem Part.salesDayCheck_running (p : Part) (awake : p.doze.state ≠ .dozing) :
    (p.salesDayCheck).doze = p.doze := by
  simp only [Part.salesDayCheck]; (repeat' split) <;> simp (maxDischargeDepth := 9) [awake]

@[simp] theorem Part.handMinute_running (p : Part) (n m : Nat) (awake : p.doze.state ≠ .dozing) :
    (p.handMinute n m).doze = p.doze := by
  simp only [Part.handMinute, threeInOrder]; split <;> simp (maxDischargeDepth := 9) [awake]

@[simp] theorem Part.minuteEvent_running (p : Part) (awake : p.doze.state ≠ .dozing) :
    (p.minuteEvent).doze = p.doze := by
  simp only [Part.minuteEvent]; (repeat' split) <;> simp (maxDischargeDepth := 9) [awake]

@[simp] theorem Part.minuteCheck_running (p : Part) (awake : p.doze.state ≠ .dozing) :
    (p.minuteCheck).doze = p.doze := by
  simp only [Part.minuteCheck]; (repeat' split) <;> simp (maxDischargeDepth := 9) [awake]

@[simp] theorem Part.clockCheck_running (p : Part) (awake : p.doze.state ≠ .dozing) :
    (p.clockCheck).doze = p.doze := by
  simp only [Part.clockCheck]; (repeat' split) <;> simp (maxDischargeDepth := 9) [awake]

@[simp] theorem Part.slewPeriod_running (p : Part) (awake : p.doze.state ≠ .dozing) :
    (p.slewPeriod).doze = p.doze := by
  simp only [Part.slewPeriod]; (repeat' split) <;> simp (maxDischargeDepth := 9) [awake]

@[simp] theorem Part.correctBy_running (p : Part) (s n : Nat) (o : Int) (awake : p.doze.state ≠ .dozing) :
    (p.correctBy s n o).doze = p.doze := by
  simp only [Part.correctBy]; (repeat' split) <;> simp (maxDischargeDepth := 9) [awake]

@[simp] theorem Part.correct_running (p : Part) (s : Nat) (b : BeaconPayload) (awake : p.doze.state ≠ .dozing) :
    (p.correct s b).doze = p.doze := by
  simp only [Part.correct]; (repeat' split) <;> simp (maxDischargeDepth := 9) [awake]

@[simp] theorem Part.sourceBeacon_running (p : Part) (s : Nat) (b : BeaconPayload) (awake : p.doze.state ≠ .dozing) :
    (p.sourceBeacon s b).doze = p.doze := by
  simp only [Part.sourceBeacon]; (repeat' split) <;> simp (maxDischargeDepth := 9) [awake]

@[simp] theorem Part.setFromBeacon_running (p : Part) (s : Nat) (b : BeaconPayload) (awake : p.doze.state ≠ .dozing) :
    (p.setFromBeacon s b).doze = p.doze := by
  simp only [Part.setFromBeacon]; (repeat' split) <;> simp (maxDischargeDepth := 9) [awake]

@[simp] theorem Part.follow_running (p : Part) (s : Nat) (b : BeaconPayload) (awake : p.doze.state ≠ .dozing) :
    (p.follow s b).doze = p.doze := by
  simp only [Part.follow]; (repeat' split) <;> simp (maxDischargeDepth := 9) [awake]

@[simp] theorem Part.hearClock_running (p : Part) (s : Nat) (b : BeaconPayload) (awake : p.doze.state ≠ .dozing) :
    (p.hearClock s b).doze = p.doze := by
  simp only [Part.hearClock]; (repeat' split) <;> simp (maxDischargeDepth := 9) [awake]

@[simp] theorem Part.acceptTime_running (p : Part) (r : SetTimeRequest) (awake : p.doze.state ≠ .dozing) :
    (p.acceptTime r).doze = p.doze := by
  simp only [Part.acceptTime]; (repeat' split) <;> simp (maxDischargeDepth := 9) [awake]

@[simp] theorem Part.hearOwnNumber_running (p : Part) (k : FrameKind) (awake : p.doze.state ≠ .dozing) :
    (p.hearOwnNumber k).doze = p.doze := by
  simp only [Part.hearOwnNumber]; (repeat' split) <;> simp (maxDischargeDepth := 9) [awake]

@[simp] theorem Part.acceptFrame_running (p : Part) (s n : Nat) (awake : p.doze.state ≠ .dozing) :
    (p.acceptFrame s n).doze = p.doze := by
  simp only [Part.acceptFrame]; (repeat' split) <;> simp (maxDischargeDepth := 9) [awake]

@[simp] theorem Part.checkTimetable_running (p : Part) (s e : Nat) (awake : p.doze.state ≠ .dozing) :
    (p.checkTimetable s e).doze = p.doze := by
  simp only [Part.checkTimetable]; (repeat' split) <;> simp (maxDischargeDepth := 9) [awake]

@[simp] theorem Part.checkFareEdition_running (p : Part) (s e : Nat) (awake : p.doze.state ≠ .dozing) :
    (p.checkFareEdition s e).doze = p.doze := by
  simp only [Part.checkFareEdition]; (repeat' split) <;> simp (maxDischargeDepth := 9) [awake]

@[simp] theorem Part.checkClash_running (p : Part) (s : Nat) (b : BeaconPayload) (awake : p.doze.state ≠ .dozing) :
    (p.checkClash s b).doze = p.doze := by
  simp only [Part.checkClash]; (repeat' split) <;> simp (maxDischargeDepth := 9) [awake]

@[simp] theorem Part.hearBeacon_running (p : Part) (s : Nat) (b : BeaconPayload) (awake : p.doze.state ≠ .dozing) :
    (p.hearBeacon s b).doze = p.doze := by
  simp only [Part.hearBeacon]; (repeat' split) <;> simp (maxDischargeDepth := 9) [awake]

@[simp] theorem Part.deliver_running (p : Part) (f : LineFrame) (awake : p.doze.state ≠ .dozing) :
    (p.deliver f).doze = p.doze := by
  simp only [Part.deliver]; (repeat' split) <;> simp (maxDischargeDepth := 9) [awake]

@[simp] theorem Part.receiveGood_running (p : Part) (f : LineFrame) (awake : p.doze.state ≠ .dozing) :
    (p.receiveGood f).doze = p.doze := by
  simp only [Part.receiveGood]; (repeat' split) <;> simp (maxDischargeDepth := 9) [awake]

@[simp] theorem Part.receiveFrame_running (p : Part) (f : LineFrame) (awake : p.doze.state ≠ .dozing) :
    (p.receiveFrame f).doze = p.doze := by
  simp only [Part.receiveFrame]; (repeat' split) <;> simp (maxDischargeDepth := 9) [awake]

@[simp] theorem Part.receiveChars_running (p : Part) (l : List LineChar) (awake : p.doze.state ≠ .dozing) :
    (p.receiveChars l).doze = p.doze := by
  simp only [Part.receiveChars]; (repeat' split) <;> simp (maxDischargeDepth := 9) [awake]

@[simp] theorem Part.peerSilent_running (p : Part) (n : Nat) (awake : p.doze.state ≠ .dozing) :
    (p.peerSilent n).doze = p.doze := by
  simp only [Part.peerSilent]; (repeat' split) <;> simp (maxDischargeDepth := 9) [awake]

@[simp] theorem Part.peerGone_running (p : Part) (n : Nat) (awake : p.doze.state ≠ .dozing) :
    (p.peerGone n).doze = p.doze := by
  simp only [Part.peerGone]; (repeat' split) <;> simp (maxDischargeDepth := 9) [awake]

@[simp] theorem Part.acceptClock_running (p : Part) (awake : p.doze.state ≠ .dozing) :
    (p.acceptClock).doze = p.doze := by
  simp only [Part.acceptClock]; (repeat' split) <;> simp (maxDischargeDepth := 9) [awake]

@[simp] theorem Part.reportHeld_running (p : Part) (k : Key) (awake : p.doze.state ≠ .dozing) :
    (p.reportHeld k).doze = p.doze := by
  simp only [Part.reportHeld]; (repeat' split) <;> simp (maxDischargeDepth := 9) [awake]

@[simp] theorem Part.tellSent_running (p : Part) (sl : Slot) (awake : p.doze.state ≠ .dozing) :
    (p.tellSent sl).doze = p.doze := by
  simp only [Part.tellSent]; (repeat' split) <;> simp (maxDischargeDepth := 9) [awake]

@[simp] theorem Part.sentWhole_running (p : Part) (awake : p.doze.state ≠ .dozing) :
    (p.sentWhole).doze = p.doze := by
  simp only [Part.sentWhole]; (repeat' split) <;> simp (maxDischargeDepth := 9) [awake]

@[simp] theorem Part.tellGivenUp_running (p : Part) (sl : Slot) (awake : p.doze.state ≠ .dozing) :
    (p.tellGivenUp sl).doze = p.doze := by
  simp only [Part.tellGivenUp]; (repeat' split) <;> simp (maxDischargeDepth := 9) [awake]

@[simp] theorem Part.giveUp_running (p : Part) (sl : Slot) (awake : p.doze.state ≠ .dozing) :
    (p.giveUp sl).doze = p.doze := by
  simp only [Part.giveUp]; (repeat' split) <;> simp (maxDischargeDepth := 9) [awake]

@[simp] theorem Part.endBreak_running (p : Part) (awake : p.doze.state ≠ .dozing) :
    (p.endBreak).doze = p.doze := by
  simp only [Part.endBreak]; (repeat' split) <;> simp (maxDischargeDepth := 9) [awake]

end Sys2Proof.Machine
end

