-- ==== Sys2Proof/Laws/Wake.lean ====
section
/-! SUPPORT. What a rebuild of the page and a wake do, said once (R49 to R55, R203). -/

namespace Sys2Proof.Machine

/-- The PAGE notice of a page record: its subject is the first shown train (R55). -/
theorem pageNotice_eq (r : PageRecord) (shown : List Entry) :
    pageNotice r shown = mkNotice .page .none none (trainSubject (shown.head?.map Entry.train)) r.number r.count := by
  cases shown <;> rfl

/-- A rebuild in a part with a start record: the page of the shown entries under the index picked, and PAGE exactly if it
differs from the page held (R52, R53, R55). -/
theorem Part.rebuild_of_record (p : Part) (pick : Nat → Nat → Nat) (r : StartRecord) (h : p.port.record = some r) :
    p.rebuild pick =
      (let shown := p.shownEntries r
       let k := pick p.page.index (pageCount r.rows shown.length)
       let record := p.buildPage r k
       { p with
         page := { p.page with index := k, shown := shown.length, held := record }
         notices := if record = p.page.held then p.notices
           else p.notices.store p.doze.state p.holdOff p.lineTime
             (mkNotice .page .none none (trainSubject (shown.head?.map Entry.train)) k record.count) }) := by
  simp only [Part.rebuild, h, Part.holdPage, pageNotice_eq]
  split <;> rfl

/-- A wake is the WAKE notice, RUNNING, the line and the page as R203 lists them. -/
theorem Part.wake_eq_awoken (p : Part) (c : WakeCause) (h : p.doze.state = .dozing) : p.wake c = p.awoken c := by
  cases hr : p.port.record with
  | none => simp [Part.wake, Part.awoken, Part.startPages, Part.pageRunning, Part.roles, Part.dozeLength, hr, h]
  | some r =>
    by_cases hs : r.roles.shows = true
    · have hh : p.holdOff = r.holdOff := by simp [Part.holdOff, hr]
      simp only [Part.wake, Part.startPages, Part.pageRunning, Part.roles, Part.note_port, hr, hs, decide_true,
        Bool.and_true, if_true, Part.awoken]
      rw [Part.rebuild_of_record _ _ r (by simp [hr])]
      simp only [Part.dozeLength, Part.note, h, hh, Part.buildPage, HaltClock.isSet, Part.intervalMs, hr, keepIndex]
      simp only [Part.holdOff, hr]
      rfl
    · simp [Part.wake, Part.awoken, Part.startPages, Part.pageRunning, Part.roles, Part.dozeLength, hr, h, hs]
end Sys2Proof.Machine
end

