-- ==== Sys2Proof/Tests/Slice0.lean ====
section
/-! SUPPORT. The model's own tests: ill-formed operands refused, the manual's worked examples, and for each statement
of the obligations a state and operands that meet its hypotheses. Expected values come from the manual. -/

namespace Sys2Proof.Tests

open Sys2Proof.Machine

/-! ### WellFormed refuses an ill-formed term for each check -/

/-- A start record with every field in range, all roles, two sellers, this one second, every default absent. -/
def startRequest : StartRequest :=
  { node := 3, roles := ⟨true, true, true⟩, sellerCount := 2, sellerIndex := 1, beaconPeriod := none,
    refreshPeriod := none, rolloverMinute := none, holdOff := 20, roundingStep := 10, roundingMode := 0,
    minimumFare := 150, masks := ⟨true, true, false⟩, rows := 4, platformFilter := 0, pageInterval := 10,
    horizon := 120, wakeLead := 15, keyA := true, keyB := false }

/-- The railcard day return of 04, Worked examples. -/
def dayReturn : FareInputs :=
  { destination := 12, fareClass := .standard, product := 2, concession := some 3, adults := 2, children := 1,
    train := none }

/-- A night train of 04, Worked examples: scheduled 25:30, EXPECTED at 25:42. -/
def nightTrain : TrainKey := ⟨7, 100⟩

/-- One adult on the quota saver, on the night train. -/
def quotaSaver : FareInputs :=
  { destination := 12, fareClass := .standard, product := 5, concession := none, adults := 1, children := 0,
    train := some nightTrain }

def newBlock : NewTrain := ⟨12, 1530, 12, [12, 30]⟩

def trainUpdate : Update :=
  { train := ⟨8, 100⟩, serial := 4, estimate := .expected, expected := some 1542, platform := 2, isNew := true,
    announce := false, newTrain := some newBlock }

theorem test_wellformed_accepts : Instr.wellFormed (.start (.clean startRequest)) = true := by decide
theorem test_wellformed_start_short_field :
    Instr.wellFormed (.start (.clean { startRequest with horizon := 65536 })) = false := by decide
theorem test_wellformed_start_byte_field :
    Instr.wellFormed (.start (.clean { startRequest with node := 256 })) = false := by decide
theorem test_wellformed_setTime : Instr.wellFormed (.setTime (.clean ⟨65536, 0, false⟩)) = false := by decide
theorem test_wellformed_loadBegin : Instr.wellFormed (.loadBegin (.clean ⟨0, 256⟩)) = false := by decide
theorem test_wellformed_loadTrain :
    Instr.wellFormed (.loadTrain (.clean ⟨⟨65536, 0⟩, 0, 0, 1, 0, []⟩)) = false := by decide
theorem test_wellformed_trainUpdate_no_minute_65535 :
    Instr.wellFormed (.trainUpdate (.clean { trainUpdate with expected := some 65535 })) = false := by decide
theorem test_wellformed_faresBegin : Instr.wellFormed (.faresBegin (.clean 65536)) = false := by decide
theorem test_wellformed_faresItem : Instr.wellFormed (.faresItem (.clean (.band ⟨65536, 1⟩))) = false := by decide
theorem test_wellformed_quote_no_concession_65535 :
    Instr.wellFormed (.quote (.clean { dayReturn with concession := some 65535 })) = false := by decide
theorem test_wellformed_quote_no_train_0 :
    Instr.wellFormed (.quote (.clean { dayReturn with train := some ⟨0, 0⟩ })) = false := by decide
theorem test_wellformed_issue :
    Instr.wellFormed (.issue (.clean ⟨dayReturn, 4294967296, 0⟩)) = false := by decide
theorem test_wellformed_void : Instr.wellFormed (.void (.clean ⟨0, 0, 0, 65536⟩)) = false := by decide
theorem test_wellformed_readJournal : Instr.wellFormed (.readJournal (.clean 4294967296)) = false := by decide
theorem test_wellformed_releaseJournal : Instr.wellFormed (.releaseJournal (.clean 4294967296)) = false := by decide
theorem test_wellformed_readStatus : Instr.wellFormed (.readStatus (.clean ⟨256, 0⟩)) = false := by decide
theorem test_wellformed_refreshDeadline : Instr.wellFormed (.refreshDeadline ⟨1, 65536⟩) = false := by decide
theorem test_wellformed_watchExpiry : Instr.wellFormed (.watchExpiry 256 0) = false := by decide
theorem test_wellformed_takenDeadline : Instr.wellFormed (.takenDeadline ⟨1, 0⟩ 1 256) = false := by decide
theorem test_wellformed_silentDeadline : Instr.wellFormed (.silentDeadline 256) = false := by decide
theorem test_wellformed_goneDeadline : Instr.wellFormed (.goneDeadline 256) = false := by decide
theorem test_wellformed_beacon :
    Instr.wellFormed (.beacon (.clean 256 0 ⟨0, 0, 0, ⟨true, false, false⟩, 0, 0, 0, 0⟩)) = false := by decide
theorem test_wellformed_train : Instr.wellFormed (.train (.clean 1 256 trainUpdate)) = false := by decide
theorem test_wellformed_ask : Instr.wellFormed (.ask (.clean 1 0 ⟨⟨1, 0⟩, 256⟩)) = false := by decide
theorem test_wellformed_grant : Instr.wellFormed (.grant (.clean 1 0 ⟨256, 0, ⟨1, 0⟩, 1⟩)) = false := by decide
theorem test_wellformed_taken : Instr.wellFormed (.taken (.clean 1 0 ⟨1, 256, ⟨1, 0⟩, 1⟩)) = false := by decide

/-! ### The manual's worked examples -/

/-- The check of the nine ASCII digits 1 to 9 under the generator, start value and order of R205. -/
theorem test_crc_of_nine_digits :
    crc [0x31#8, 0x32#8, 0x33#8, 0x34#8, 0x35#8, 0x36#8, 0x37#8, 0x38#8, 0x39#8] = 0x29B1#16 := by
  decide +kernel

/-- The tables of 04, Worked examples. -/
def exampleTables : TableSet :=
  { destinations := [⟨12, 1240, 1980, 3000⟩, ⟨30, 180, 0, 0⟩]
    products := [⟨1, 1000, 500, false⟩, ⟨2, 1800, 500, false⟩, ⟨5, 700, 500, true⟩]
    concessions := [⟨3, 34, [1, 2]⟩]
    bands := [⟨360, 1300⟩, ⟨570, 700⟩, ⟨960, 1300⟩, ⟨1140, 700⟩] }

/-- Its settings, at 10:15 with no train. -/
def exampleContext : FareContext :=
  { active := some exampleTables, edition := 1, settings := ⟨10, .halfUp, 150, ⟨true, true, false⟩⟩,
    clockMinute := some 615, trainMinute := none }

def flagsOf (f : FareOutcome) : FareFlags := f.flags

/-- 04, A day return with a railcard: 2,580, band 1, INEXACT and ROUNDED_UP. -/
theorem test_fare_day_return :
    fareOf exampleContext dayReturn
      = ⟨.fare ⟨2580, ⟨false, false, false, true, true, false, false, false⟩, some 1, 2, 1, 0, 1⟩,
          ⟨false, false, false, true, true, false, false, false⟩⟩ := by decide

/-- 04, A night train and a quota product: 610, band 3, one place, though the clock reads 23:50. -/
theorem test_fare_night_train :
    (fareOf { exampleContext with clockMinute := some 1430, trainMinute := some (1542 % 1440) } quotaSaver).verdict
      = .fare ⟨610, ⟨false, false, false, true, true, false, false, false⟩, some 3, 1, 0, 1, 1⟩ := by decide

/-- 04, Overflow at the limit: 7,199,900, over the range of money. -/
theorem test_fare_largest_total :
    exactTotal (personWeight 9 0 500) 99999 4000 2000 0 = 719992800000000000
      ∧ roundFare .halfUp 100 719992800000000000 = (7199900, true, false) := by decide

/-- 04, The same exact total under each step and mode: step 50. -/
theorem test_rounding_step_50 :
    roundFare .halfUp 50 257796000000000 = (2600, true, true)
      ∧ roundFare .down 50 257796000000000 = (2550, true, false)
      ∧ roundFare .up 50 257796000000000 = (2600, true, true) := by decide

/-- 04, An exact half goes up. -/
theorem test_rounding_exact_half : roundFare .halfUp 10 100500000000000 = (1010, true, true) := by decide

/-- 04, Counts out of range: 12 and 3 become 9 and 0, 0 and 0 become 1 and 0. -/
theorem test_counts_corrected :
    correctCounts 12 3 = (9, 0) ∧ correctCounts 0 0 = (1, 0) ∧ correctCounts 5 5 = (5, 4)
      ∧ countsValid 0 9 = true := by decide

/-- 04, Zero, floor and cap at the bottom: floored to 150, then capped to 100. -/
theorem test_floor_then_cap :
    floorThenCap 150 0 60 = (150, true, false) ∧ floorThenCap 150 100 60 = (100, true, true)
      ∧ floorThenCap 150 0 0 = (0, false, false) := by decide

/-- R114: 12 places among 5 sellers, and 2 among 5. -/
theorem test_shares :
    (List.range 5).map (shareOf 12 5) = [3, 3, 2, 2, 2] ∧ (List.range 5).map (shareOf 2 5) = [1, 1, 0, 0, 0] := by
  decide

/-- R49: four rows, nine shown: three pages. -/
theorem test_page_count : pageCount 4 9 = 3 ∧ pageCount 4 4 = 1 ∧ pageCount 1 9 = 1 := by decide

/-- R155: the base waits. -/
theorem test_base_waits : FrameClass.baseWait .urgent = 0 ∧ FrameClass.baseWait .normal = 2
    ∧ FrameClass.baseWait .bulk = 5 := by decide

/-- R3: 02:29 belongs to the sales day before, 02:30 to its own. -/
theorem test_sales_day :
    computedSalesDay 150 ⟨100, 8999999⟩ = 99 ∧ computedSalesDay 150 ⟨100, 9000000⟩ = 100 := by decide

/-! ### The statements' hypotheses are met -/

/-- The part in WAITING_START after a warm start, its clock set to 10:15 of day 100. -/
def waitingPart : Part :=
  { Part.reset with
    retained := ⟨false, true⟩
    start := ⟨.powerOn, some .pass, some .kept⟩
    clock := { HaltClock.cold with reading := ⟨100, 36900000⟩, stratum := 8, salesDay := some 100 }
    doze := { Part.reset.doze with state := .waitingStart } }

def waiting : State := ⟨waitingPart, []⟩

/-- The night train's entry: linked, DUE. -/
def nightEntry : Entry :=
  { train := nightTrain, destination := 12, scheduled := 1530, estimate := .expected, expected := some 1542,
    platform := 2, platformChanged := false, calling := [12, 30], serial := 3, clamped := false, quotaTotal := 12,
    linked := true, refreshDeadline := some 5000, frame := none, state := .due }

/-- Its ledger record: a share of 6, 5 held, one lent by a GRANT that waits for its TAKEN. -/
def nightRecord : LedgerRecord :=
  { LedgerRecord.fresh nightTrain 12 6 with
    held := 5, awaiting := 1, grants := [⟨5, 9, 1, .awaiting 4000, false, some 2000⟩] }

/-- The part in RUNNING at line time 5,000 with the example's tables, the night train and its ledger record. -/
def runningPart : Part :=
  { waitingPart with
    lineTime := 5000
    clock := { waitingPart.clock with lastEventMinute := some 144615 }
    board := { DepartureList.reset with entries := [nightEntry], edition := 2 }
    fares := { FareCalculator.reset with active := some exampleTables, edition := 1 }
    quota := { QuotaUnit.cold with ledger := [nightRecord], blind := false }
    peers := { PeerTable.reset with beaconDeadline := some 5000 }
    page := { PageBuilder.reset with deadline := some 5000 }
    line := { LineInterface.reset with nextSeq := 255, nextFrame := 40 }
    port := { UnitPort.reset with record := some startRequest.clamped }
    doze := { Part.reset.doze with state := .running } }

def running : State := ⟨runningPart, []⟩

def dozing : State :=
  ⟨{ runningPart with doze := { runningPart.doze with state := .dozing, dozeStart := some 2000 } }, []⟩

def testing : State := ⟨Part.reset, []⟩

/-- The part in FAULT. -/
def failed : State := ⟨{ waitingPart with doze := { waitingPart.doze with state := .fault } }, []⟩

/-- The same state holding a reply. -/
def holding (s : State) : State :=
  { s with part := { s.part with port := { s.part.port with reply := some ⟨2, .done, .empty⟩ } } }

/-- A part with another start record's roles. -/
def withRoles (s : State) (roles : Roles) : State :=
  ⟨{ s.part with port := { s.part.port with record := some { startRequest.clamped with roles } } }, s.pending⟩

theorem test_running_is_attentive : running.part.Attentive := by decide
theorem test_running_is_lawful : running.part.Lawful :=
  ⟨by decide, by decide, by decide, by decide, by decide, by decide, by decide, by decide, by decide, by decide⟩
theorem test_running_steps : ∃ t, step running = .next t := ⟨_, rfl⟩
theorem test_running_takes_a_command :
    ∃ t, step { running with pending := [.clearFlags (.clean ())] } = .next t := ⟨_, rfl⟩

/-- StepTakesTheFrontCommand, MillisecondPasses: an empty queue and a valid reading, at rest, in a slew, with the supply
off, at the clock's last reading and at the end of line time. -/
theorem test_witness_millisecond :
    (running.pending = [] ∧ running.part.clock.reading.Valid ∧ running.part.up = true)
      ∧ (∃ s : State, s.pending = [] ∧ s.part.clock.reading.Valid ∧ s.part.up = true ∧ s.part.clock.pending ≠ 0)
      ∧ (∃ s : State, s.pending = [] ∧ s.part.clock.reading.Valid ∧ s.part.up = false)
      ∧ (∃ s : State, s.pending = [] ∧ s.part.clock.reading.Valid ∧ s.part.clock.reading = ⟨65535, 86399999⟩)
      ∧ (∃ s : State, s.pending = [] ∧ s.part.clock.reading.Valid ∧ s.part.lineTime = 4294967295) :=
  ⟨by decide,
   ⟨{ running with part := { runningPart with clock := { runningPart.clock with pending := -60000 } } }, by decide⟩,
   ⟨{ running with part := { runningPart with supply := ⟨false, true, false⟩ } }, by decide⟩,
   ⟨{ running with part := { runningPart with clock := { runningPart.clock with reading := ⟨65535, 86399999⟩ } } },
     by decide⟩,
   ⟨{ running with part := { runningPart with lineTime := 4294967295 } }, by decide⟩⟩

/-- FrameBytesAreHeard: good frames of sender 15 and sequence number 255, one of each kind. -/
theorem test_witness_good_frames :
    (LineFrame.mk 15 255 (.beacon ⟨65535, 86399999, 15, ⟨true, false, false⟩, 14, 65535, 65535, 24⟩)).ok = true
      ∧ (LineFrame.mk 1 0 (.train trainUpdate)).ok = true ∧ (LineFrame.mk 1 0 (.ask ⟨nightTrain, 9⟩)).ok = true
      ∧ (LineFrame.mk 1 0 (.grant ⟨15, 255, nightTrain, 1⟩)).ok = true
      ∧ (LineFrame.mk 1 0 (.taken ⟨1, 0, nightTrain, 9⟩)).ok = true := by decide

/-- RequestBytesAreRead: a train record with a full calling list, an update with a block, a concession. -/
theorem test_witness_spellable :
    (Request.loadTrain ⟨⟨8, 100⟩, 47, 1799, 4, 99, [1, 2, 3, 4, 5, 6, 7, 8]⟩).Spellable
      ∧ (Request.trainUpdate (some trainUpdate)).Spellable
      ∧ (Request.faresItem (some (.concession ⟨8, 100, [0, 1, 2, 3, 4, 5, 6, 7]⟩))).Spellable
      ∧ Request.doze.Spellable := by
  refine ⟨⟨by decide, by simp, by simp, ?_, by simp, by simp, by simp⟩,
    ⟨by decide, by simp, by simp, by simp, ?_, ?_, by simp⟩, ⟨by decide, by simp, by simp, by simp, by simp, by simp, ?_⟩,
    ⟨by decide, by simp, by simp, by simp, by simp, by simp, by simp⟩⟩
  · rintro t ⟨⟩; decide
  · rintro u b ⟨⟩ ⟨⟩; decide
  · rintro u ⟨⟩; decide
  · rintro c ⟨⟩; decide

/-- ChangedByteFailsTheCheck. -/
theorem test_witness_two_bytes : (0#8 : Byte) ≠ 255#8 := by decide

/-- LedgerStaysBalanced to PeerTableStaysWhole: a lawful state that steps. -/
theorem test_witness_invariants : running.part.Lawful ∧ ∃ t, step running = .next t :=
  ⟨test_running_is_lawful, _, rfl⟩

/-- TimeNeverRunsBack: a known sales day at a command and at a self-test that keeps the store; a set clock at an empty
queue and at a command of the halt. -/
theorem test_witness_time :
    (∃ s t : State, s.part.clock.Agrees ∧ exec (.selfTestEnd true) s = .next t ∧ s.part.clock.salesDay = some 100
        ∧ s.part.selfTesting = true ∧ s.part.retained.good = true)
      ∧ (running.part.clock.Agrees ∧ running.part.clock.isSet = true ∧ running.pending = [])
      ∧ (∃ s : State, s.part.clock.Agrees ∧ s.part.clock.isSet = true
          ∧ ∃ c ∈ s.pending.head?, ofTheHalt c = true) :=
  ⟨⟨⟨{ waitingPart with doze := Part.reset.doze }, []⟩, _, by decide, rfl, by decide, by decide, by decide⟩, by decide,
   ⟨{ running with pending := [.minuteEvent] }, by decide, by decide, by decide⟩⟩

/-- HeldReplyTurnsSendsAway, FetchShiftsOutTheReply: a part that holds a reply, and one that does not; transfers of each
type. -/
theorem test_witness_held_reply :
    (requestOf (.clearFlags (.clean ()))).isSome = true ∧ (sentBytesOf (.clearFlags (.raw [81#8]))).isSome = true
      ∧ (holding running).part.up = true ∧ (holding running).part.port.reply.isSome = true
      ∧ running.part.port.reply = none
      ∧ transferOf (.doze (.raw [82#8, 0#8])) = some [82#8, 0#8] ∧ transferOf (.doze (.raw [83#8])) = some [83#8] := by
  decide

/-- SpoiledSendGetsBadFrame: nothing, a kind byte alone, a length of 121, a check cut short, a check that disagrees. -/
theorem test_witness_spoiled_bytes :
    sentBytesOf (.doze (.raw [81#8])) = some [] ∧ SpoiledBytes [] ∧ SpoiledBytes [23#8] ∧ SpoiledBytes [1#8, 121#8]
      ∧ SpoiledBytes [23#8, 0#8, 0#8] ∧ SpoiledBytes [23#8, 0#8, 0#8, 0#8] ∧ running.part.up = true
      ∧ running.part.port.reply = none := by
  refine ⟨rfl, .inl (by decide), .inl (by decide), .inr ⟨121#8, rfl, .inl (by decide)⟩,
    .inr ⟨0#8, rfl, .inr (.inl (by decide))⟩, .inr ⟨0#8, rfl, .inr (.inr (by decide +kernel))⟩, by decide, by decide⟩

/-- RequestsAreRefusedBeforeTheirOwner: each part state, and an unknown kind and a wrong length. -/
theorem test_witness_refused_states :
    (testing.part.up = true ∧ testing.part.port.reply = none ∧ testing.part.doze.state = .selfTest)
      ∧ (waiting.part.doze.state = .waitingStart
          ∧ Request.kind .doze ∉ [.start, .restart, .setTime, .readStatus, .takeNotices])
      ∧ (running.part.doze.state = .running ∧ (Request.start startRequest).kind = .start
          ∧ (Request.start startRequest).fits = true)
      ∧ (failed.part.doze.state = .fault ∧ Request.kind .doze ∉ [.restart, .readStatus, .takeNotices])
      ∧ RequestKind.ofCode (99#8 : Byte).toNat = none
      ∧ sentBytesOf (.doze (.raw (81#8 :: (envelope 99#8 [] ++ [1#8])))) = some (envelope 99#8 [] ++ [1#8])
      ∧ (RequestKind.ofCode (2#8 : Byte).toNat = some .restart ∧ [0#8].length ∉ RequestKind.restart.lengths) :=
  ⟨by decide, by decide, by decide, by decide, by decide, rfl, by decide⟩

/-- DozingRequestWakesFirst: a RESTART, a START, a DOZE and a QUOTE in DOZING. -/
theorem test_witness_dozing :
    dozing.part.up = true ∧ dozing.part.port.reply = none ∧ dozing.part.doze.state = .dozing
      ∧ requestOf (.restart (.clean ())) = some .restart
      ∧ requestOf (.start (.clean startRequest)) = some (.start startRequest)
      ∧ requestOf (.doze (.clean ())) = some .doze ∧ requestOf (.quote (.clean dayReturn)) = some (.quote dayReturn)
      ∧ (Request.quote dayReturn).fits = true ∧ (Request.quote dayReturn).kind ≠ .readStatus
      ∧ (Request.quote dayReturn).kind ≠ .takeNotices
      ∧ requestOf (.readStatus (.clean ⟨11, 0⟩)) = some (.readStatus ⟨11, 0⟩)
      ∧ (Request.readStatus ⟨11, 0⟩).kind = .readStatus := by decide

/-- DozingRequestWakesFirst: the woken part refuses a DOZE for the departure near, and takes one without it. -/
theorem test_witness_doze_afresh :
    (dozing.part.afterTaking.awoken (.request .doze)).DozeRefusedBy .wakePending .departure (some nightTrain)
      ∧ (let p := dozing.part.afterTaking
         let w := { p with board := DepartureList.reset }.awoken (.request .doze)
         w.sales.issue = none ∧ w.board.load = none ∧ w.fares.transfer = none ∧ w.notices.wakeWaiting = false
          ∧ w.departureNear = none) :=
  ⟨.inr (.inr (.inr (.inr ⟨by decide, by decide, by decide, by decide, ⟨nightEntry, by decide⟩, rfl, rfl⟩))), by decide⟩

/-- StartIsAcceptedOrNamesTheFault: accepted at the greatest seller index, and each fault. -/
theorem test_witness_start :
    (waiting.part.up = true ∧ waiting.part.doze.state = .waitingStart ∧ waiting.part.port.reply = none
        ∧ startRequest.fits = true ∧ startRequest.node ≠ 0 ∧ startRequest.roles.sells = true
        ∧ startRequest.clamped.sellerIndex < startRequest.clamped.sellerCount
        ∧ waiting.part.sales.nextNumber = some 1 ∧ waiting.part.line.slots = []
        ∧ waiting.part.board.entries = [] ∧ waiting.part.notices.entries.length ≤ 50
        ∧ waiting.part.clock.salesDay = some 100 ∧ waiting.part.clock.stratum ≠ 15)
      ∧ ({ startRequest with node := 0 } : StartRequest).fits = true
      ∧ (({ startRequest with roles := ⟨false, false, false⟩ } : StartRequest).node ≠ 0
          ∧ ({ startRequest with roles := ⟨false, false, false⟩ } : StartRequest).roles = ⟨false, false, false⟩)
      ∧ (({ startRequest with sellerIndex := 2 } : StartRequest).roles ≠ ⟨false, false, false⟩
          ∧ ({ startRequest with sellerIndex := 2 } : StartRequest).clamped.sellerCount
            ≤ ({ startRequest with sellerIndex := 2 } : StartRequest).clamped.sellerIndex) := by decide

/-- SetTimeIsCheckedAndTaken: a ms-of-day of 86,400,000; the reference option before a start record; a sales day below
the one held; and accepted ones in WAITING_START and RUNNING, with and without the option. -/
theorem test_witness_setTime :
    ((⟨100, 86400000, false⟩ : SetTimeRequest).fits = true ∧ 86399999 < (⟨100, 86400000, false⟩ : SetTimeRequest).ms)
      ∧ waiting.part.roles.uplink = false
      ∧ (running.part.clock.salesDay = some 100 ∧ computedSalesDay running.part.clock.rolloverMinute ⟨99, 86399999⟩ < 100)
      ∧ (running.part.roles.uplink = true
          ∧ ∀ held, running.part.clock.salesDay = some held →
              held ≤ computedSalesDay running.part.clock.rolloverMinute ⟨101, 0⟩)
      ∧ (testing.part.clock.isSet = false ∧ testing.part.clock.salesDay = none) := by
  refine ⟨by decide, by decide, by decide, ⟨by decide, ?_⟩, by decide⟩
  rintro held ⟨⟩
  decide

/-- The running part with an open load transfer of one record. -/
def loading (declared taken : Nat) : State :=
  { running with part := { runningPart with
      board := { runningPart.board with load := some ⟨9, declared, taken, 0, 0⟩ } } }

/-- TimetableTransferOpensAndCloses: record counts 0, 1, 32 and 33, an open transfer short and complete. -/
theorem test_witness_load :
    running.part.Attentive ∧ running.part.board.load = none ∧ (⟨9, 0⟩ : LoadBeginRequest).fits = true
      ∧ (⟨9, 1⟩ : LoadBeginRequest).fits = true ∧ (⟨9, 32⟩ : LoadBeginRequest).fits = true
      ∧ (⟨9, 33⟩ : LoadBeginRequest).fits = true ∧ (loading 1 0).part.board.load = some ⟨9, 1, 0, 0, 0⟩
      ∧ (loading 1 0).part.Attentive ∧ (loading 1 1).part.board.load = some ⟨9, 1, 1, 0, 0⟩ := by decide

def newTrainRecord : TrainRecord := ⟨⟨8, 100⟩, 47, 1799, 1, 99, [47]⟩

/-- A full departure list. -/
def fullList : State :=
  { loading 1 0 with part := { (loading 1 0).part with board := { (loading 1 0).part.board with
      entries := (List.range 32).map (fun i => { nightEntry with train := ⟨i + 1, 200⟩ }) } } }

/-- LoadTrainJudgesTheRecord: no transfer, every declared record judged, out of range, on the list, list full, taken with and without a quota. -/
theorem test_witness_loadTrain :
    (loading 1 0).part.Attentive ∧ newTrainRecord.fits = true
      ∧ running.part.board.load = none ∧ (loading 1 1).part.board.load = some ⟨9, 1, 1, 0, 0⟩
      ∧ (({ newTrainRecord with scheduled := 1800 } : TrainRecord).fits = true
          ∧ ({ newTrainRecord with scheduled := 1800 } : TrainRecord).inRange = false)
      ∧ (({ newTrainRecord with train := nightTrain } : TrainRecord).inRange = true
          ∧ ((loading 1 0).part.board.find nightTrain).isSome = true)
      ∧ (fullList.part.Attentive ∧ newTrainRecord.inRange = true
          ∧ fullList.part.board.find newTrainRecord.train = none ∧ 32 ≤ fullList.part.board.entries.length)
      ∧ ((loading 1 0).part.board.find newTrainRecord.train = none
          ∧ (loading 1 0).part.board.entries.length < 32 ∧ (loading 1 0).part.quota.find newTrainRecord.train = none
          ∧ (loading 1 0).part.quota.ledger.length < 32) := by decide

def nightUpdate : Update :=
  { train := nightTrain, serial := 4, estimate := .expected, expected := some 1799, platform := 0, isNew := false,
    announce := false, newTrain := none }

/-- TrainUpdateIsApplied, TrainFrameIsComparedBySerial: newer, equal and older serials of the night train, a NEW update
for another train, an update for none, an ill-formed one. -/
theorem test_witness_update :
    running.part.Attentive ∧ running.part.roles.uplink = true ∧ nightUpdate.fits = true ∧ nightUpdate.ok = true
      ∧ running.part.board.find nightUpdate.train = some nightEntry ∧ nightEntry.serial < nightUpdate.serial
      ∧ nightEntry.serial = ({ nightUpdate with serial := 3 } : Update).serial
      ∧ ({ nightUpdate with serial := 2 } : Update).serial < nightEntry.serial ∧ nightEntry.scheduled ≤ 1799
      ∧ ({ nightUpdate with serial := 2 } : Update).ok = true ∧ running.part.Hears 5 0
      ∧ running.part.line.hasRoom .normal = true ∧ nightEntry.state ≠ .gone ∧ nightEntry.frame = none
      ∧ (trainUpdate.fits = true ∧ trainUpdate.ok = true)
      ∧ ({ nightUpdate with train := ⟨0, 100⟩ } : Update).ok = false := by decide

theorem test_witness_update_new :
    running.part.MayCreate trainUpdate newBlock
      ∧ running.part.NoEntryFor { trainUpdate with newTrain := none }
      ∧ running.part.NoEntryFor { trainUpdate with train := ⟨8, 99⟩ }
      ∧ (∀ l ∈ running.part.quota.ledger, ∀ g ∈ l.grants, g.state ≠ .lending running.part.line.nextFrame) := by
  refine ⟨⟨by decide, rfl, ?_, by decide⟩, ⟨by decide, .inl rfl⟩, ⟨by decide, .inr ⟨100, by decide⟩⟩, by decide⟩
  rintro d ⟨⟩
  decide

/-- The running part with a full departure list of LISTED trains, the first in a state of its own. -/
def listOf (first : EntryState) : State :=
  { running with part := { runningPart with board := { runningPart.board with
      entries := { nightEntry with train := ⟨1, 200⟩, state := first, linked := false }
        :: (List.range 31).map (fun i => { nightEntry with train := ⟨i + 2, 200⟩, state := .listed, linked := false }) } } }

/-- TrainUpdateIsApplied, TrainFrameIsComparedBySerial: a full list with no entry to displace, and with one that is
GONE. -/
theorem test_witness_full_list :
    ((listOf .listed).part.MeetsFullList { trainUpdate with train := ⟨40, 100⟩ } newBlock
        ∧ ∀ x ∈ (listOf .listed).part.board.entries, x.state = .listed ∨ x.state = .due)
      ∧ ((listOf .gone).part.MeetsFullList { trainUpdate with train := ⟨40, 100⟩ } newBlock
        ∧ ((listOf .gone).part.board.entries.map Entry.train).Nodup
        ∧ DisplacedFrom (listOf .gone).part.board.entries
            { nightEntry with train := ⟨1, 200⟩, state := .gone, linked := false })
      ∧ (listOf .gone).part.Attentive ∧ (listOf .gone).part.Hears 5 0
      ∧ ({ trainUpdate with train := ⟨40, 100⟩ } : Update).ok = true := by
  refine ⟨⟨⟨by decide, rfl, ?_, by decide⟩, by decide⟩, ⟨⟨by decide, rfl, ?_, by decide⟩, by decide, ?_⟩, by decide,
    by decide, by decide⟩
  · rintro d ⟨⟩; decide
  · rintro d ⟨⟩; decide
  · exact ⟨by decide, .inl rfl, by decide⟩

/-- The running part with an open fare transfer of four bands. -/
def staging : State :=
  { running with part := { runningPart with
      fares := { runningPart.fares with transfer := some ⟨3, exampleTables⟩ } } }

/-- FareTransferStagesAndReplaces: no transfer and no issue, a transfer, an item out of range, a fifth band, a band for
a start minute staged before, and bands in ascending order. -/
theorem test_witness_fares :
    running.part.Attentive ∧ running.part.fares.transfer = none ∧ running.part.sales.issue = none
      ∧ staging.part.Attentive ∧ staging.part.fares.transfer = some ⟨3, exampleTables⟩
      ∧ (FareItem.band ⟨1440, 1⟩).inRange = false ∧ (FareItem.band ⟨1440, 1⟩).fits = true
      ∧ ((FareItem.band ⟨0, 1⟩).inRange = true ∧ (∀ y ∈ exampleTables.bands, y.start ≠ 0)
          ∧ 4 ≤ exampleTables.bands.length)
      ∧ ((FareItem.band ⟨570, 2000⟩).inRange = true ∧ ∃ y ∈ exampleTables.bands, y.start = 570)
      ∧ exampleTables.bands.Pairwise (fun a b => a.start < b.start) := by decide

/-- RoundingTakesTheStep, SharesSumToTheQuota. -/
theorem test_witness_positive : 0 < 1 := by decide

/-- CompletedFareIsInRange: the railcard day return under its cap. -/
theorem test_witness_completed_fare :
    exampleContext.active = some exampleTables
      ∧ exampleTables.destinations.find? (fun d => d.code = dayReturn.destination) = some ⟨12, 1240, 1980, 3000⟩
      ∧ 0 < exampleContext.settings.step ∧ exampleContext.settings.minimum ≤ 99999
      ∧ fareOf exampleContext dayReturn
        = ⟨.fare ⟨2580, ⟨false, false, false, true, true, false, false, false⟩, some 1, 2, 1, 0, 1⟩,
            ⟨false, false, false, true, true, false, false, false⟩⟩ := by decide

/-- The two fares at the running part. -/
def dayReturnFare : FareResult := ⟨2580, ⟨false, false, false, true, true, false, false, false⟩, some 1, 2, 1, 0, 1⟩
def quotaFare (adults : Nat) (amount : Nat) (flags : FareFlags) : FareResult :=
  ⟨amount, flags, some 3, adults, 0, adults, 1⟩
def inexactUp : FareFlags := ⟨false, false, false, true, true, false, false, false⟩

/-- QuoteReportsTheFare: with a train and places on hand, and without. -/
theorem test_witness_quote :
    running.part.Attentive ∧ running.part.roles.sells = true ∧ dayReturn.fits = true ∧ quotaSaver.fits = true
      ∧ running.part.trainSellable nightTrain = true ∧ running.part.trainLinked nightTrain = true
      ∧ fareOf (running.part.fareContext dayReturn) dayReturn = ⟨.fare dayReturnFare, inexactUp⟩
      ∧ fareOf (running.part.fareContext quotaSaver) quotaSaver = ⟨.fare (quotaFare 1 610 inexactUp), inexactUp⟩ := by
  decide

/-- RefusedSaleLeavesOnlyItsFlags: no SELLS role, an unknown destination, a train not on the list, a quota fare for a
train without a link, and each earlier check of ISSUE. -/
theorem test_witness_refused_sale :
    ((withRoles running ⟨false, true, true⟩).part.Attentive
        ∧ (withRoles running ⟨false, true, true⟩).part.roles.sells = false)
      ∧ FareRefusal running.part { dayReturn with destination := 47 } .noFare FareFlags.none
      ∧ FareRefusal running.part { quotaSaver with train := some ⟨9, 100⟩ } .trainNotSellable FareFlags.none
      ∧ (∃ p : Part, FareRefusal p quotaSaver .noQuota inexactUp)
      ∧ (⟨dayReturn, 100000, 0⟩ : IssueRequest).fits = true
      ∧ (∃ s : State, s.part.Attentive ∧ s.part.sales.issue.isSome = true)
      ∧ (∃ s : State, s.part.Attentive ∧ s.part.sales.nextNumber = none)
      ∧ (∃ s : State, s.part.Attentive ∧ 10000 ≤ s.part.sales.nextSerial ∧ s.part.sales.journal.length < 252
          ∧ s.part.sales.nextNumber.isSome = true) := by
  refine ⟨by decide, .inr (.inl ⟨?_, by decide⟩), .inl ⟨⟨_, rfl, by decide⟩, rfl, rfl⟩,
    ⟨{ runningPart with board := { runningPart.board with entries := [{ nightEntry with linked := false }] } },
      .inr (.inr ⟨?_, ⟨quotaFare 1 610 inexactUp, by decide⟩, ?_, rfl⟩)⟩, by decide,
    ⟨{ running with part := { runningPart with sales := { SalesUnit.cold with
        issue := some ⟨⟨quotaSaver, 610, 1⟩, 1, 0, 1, some 500, 1500⟩ } } }, by decide⟩,
    ⟨{ running with part := { runningPart with sales := { SalesUnit.cold with nextNumber := none } } }, by decide⟩,
    ⟨{ running with part := { runningPart with sales := { SalesUnit.cold with nextSerial := 10000 } } }, by decide⟩⟩
  · simp [dayReturn]
  · rintro k ⟨⟩; decide
  · rintro k ⟨⟩; decide

def saleAt (agreed : Nat) : IssueRequest := ⟨dayReturn, agreed, 77⟩
def quotaSaleAt (adults agreed : Nat) : IssueRequest := ⟨{ quotaSaver with adults }, agreed, 78⟩

/-- IssueSellsAtOnce: no places needed at the agreed amount and at another; one place needed, five held. -/
theorem test_witness_issue_at_once :
    running.part.IssuePasses (saleAt 2580) dayReturnFare inexactUp 1
      ∧ running.part.IssuePasses (saleAt 2570) dayReturnFare inexactUp 1 ∧ dayReturnFare.placesNeeded = 0
      ∧ dayReturnFare.amount = (saleAt 2580).agreed ∧ dayReturnFare.amount ≠ (saleAt 2570).agreed
      ∧ running.part.IssuePasses (quotaSaleAt 1 610) (quotaFare 1 610 inexactUp) inexactUp 1
      ∧ running.part.trainLinked nightTrain = true
      ∧ (quotaFare 1 610 inexactUp).placesNeeded ≤ running.part.quota.heldOf nightTrain := by
  refine ⟨⟨by decide, by decide, by decide, by decide, by decide, by decide, by decide, ?_, by decide⟩,
    ⟨by decide, by decide, by decide, by decide, by decide, by decide, by decide, ?_, by decide⟩, rfl, rfl, by decide,
    ⟨by decide, by decide, by decide, by decide, by decide, by decide, by decide, ?_, by decide⟩, by decide, by decide⟩
  · simp [saleAt, dayReturn]
  · simp [saleAt, dayReturn]
  · rintro k ⟨⟩; decide

/-- IssueGoesInFlight: six places needed, five held: N = 6,000 × 1,240 × 700 × 700 × 100, 3,645.60, capped at 3,000. -/
theorem test_witness_issue_in_flight :
    running.part.IssuePasses (quotaSaleAt 6 3000)
        (quotaFare 6 3000 ⟨false, false, false, true, true, false, false, true⟩)
        ⟨false, false, false, true, true, false, false, true⟩ 1
      ∧ (quotaSaleAt 6 3000).inputs.train = some nightTrain ∧ running.part.trainLinked nightTrain = true
      ∧ running.part.quota.heldOf nightTrain < 6 := by
  refine ⟨⟨by decide, by decide, by decide, by decide, by decide, by decide, by decide, ?_, by decide⟩, rfl, by decide,
    by decide⟩
  rintro k ⟨⟩
  decide

/-- The issue in flight for six places, five of them reserved. -/
def waitingIssue : IssueRecord := ⟨quotaSaleAt 6 3000, 6, 5, 1, some 5000, 5000⟩

/-- The running part with that issue in flight. -/
def inFlight : State :=
  { running with part := { runningPart with
      sales := { SalesUnit.cold with issue := some waitingIssue }
      quota := { runningPart.quota with ledger := [{ nightRecord with held := 0, reserved := 5 }] } } }

/-- AbortIssueReturnsThePlaces. -/
theorem test_witness_abort :
    inFlight.part.Attentive ∧ inFlight.part.roles.sells = true ∧ inFlight.part.sales.issue = some waitingIssue
      ∧ running.part.sales.issue = none ∧ (withRoles running ⟨false, false, true⟩).part.roles.sells = false := by decide

/-- LedgerStaysBalanced: an issue in flight with every held place reserved. -/
theorem test_witness_reserved :
    inFlight.part.quota.Balanced ∧ inFlight.part.board.Kept ∧ inFlight.part.ReservedAgrees
      ∧ ∃ t, step inFlight = .next t :=
  ⟨by decide, by decide, by decide, _, rfl⟩

def soldTicket : TicketNumber := ⟨some 100, 3, 1⟩
def soldFields : SaleFields :=
  { ticket := soldTicket, product := 5, destination := 12, fareClass := .standard, concession := none, adults := 1,
    children := 0, train := some nightTrain, amount := 610, flags := inexactUp, band := some 3, placesUsed := 1,
    payment := 78 }

/-- The running part right after that sale, the void window opened so long ago. -/
def sold (ago : Nat) : State :=
  { running with part := { runningPart with
      lineTime := 200000
      sales := { SalesUnit.cold with
        journal := [⟨1, ⟨100, 36900000⟩, true, .sale soldFields⟩], nextNumber := some 2, nextSerial := 2
        totals := ⟨1, 610, 0, 0⟩, voidWindow := some ⟨soldTicket, 200000 - ago⟩ }
      quota := { runningPart.quota with ledger := [{ nightRecord with held := 4, sold := 1 }] } } }

/-- VoidIsCheckedAndTakesTheSaleBack: 120,000 ms after the commit, 120,001 ms after it, another ticket number, and
without the role. -/
theorem test_witness_void :
    (sold 120000).part.Attentive ∧ soldTicket.ref.fits = true ∧ (sold 120000).part.roles.sells = true
      ∧ (sold 120000).part.voidable soldTicket.ref = .inl soldFields
      ∧ (sold 120000).part.sales.journal.length < 252 ∧ (sold 120000).part.sales.nextNumber = some 2
      ∧ (sold 120000).part.sales.issue = none
      ∧ (sold 120001).part.voidable soldTicket.ref = .inr .tooLate
      ∧ (sold 0).part.voidable ⟨100, 1, 3, 2⟩ = .inr .notFound := by decide

/-- The part after that sale with five more places reserved for an issue that needs six. -/
def soldInFlight : State :=
  { sold 0 with part := { (sold 0).part with
      sales := { (sold 0).part.sales with issue := some waitingIssue }
      quota := { runningPart.quota with
        ledger := [{ nightRecord with held := 0, reserved := 5, sold := 1, share := 7 }] } } }

/-- VoidIsCheckedAndTakesTheSaleBack: a VOID that fills the issue in flight. -/
theorem test_witness_void_fills :
    soldInFlight.part.Attentive ∧ soldInFlight.part.voidable soldTicket.ref = .inl soldFields
      ∧ soldInFlight.part.sales.issue = some waitingIssue
      ∧ waitingIssue.request.inputs.train = some nightTrain ∧ 0 < waitingIssue.needed
      ∧ soldFields.train = some nightTrain ∧ soldFields.placesUsed ≠ 0
      ∧ soldInFlight.part.trainSellable nightTrain = true
      ∧ (soldInFlight.part.quota.find nightTrain).isSome = true := by decide

/-- JournalIsReadAndReleased: a number in the journal and one that is not. -/
theorem test_witness_journal :
    (sold 0).part.Attentive ∧ (∃ r ∈ (sold 0).part.sales.journal, r.number = 1)
      ∧ (∀ r ∈ (sold 0).part.sales.journal, r.number ≠ 4294967295) := by decide

/-- A notice that is neither urgent nor of a wake kind. -/
def pageNotice1 : Notice := mkNotice .page .none none .none 0 1

def queueOf (n lost : Nat) : NoticeQueue :=
  { NoticeQueue.reset with
    entries := List.replicate n pageNotice1, lostCount := lost, firstLost := if lost = 0 then none else some .page
    attention := decide (n ≠ 0) }

/-- StoredNoticeDrivesTheLine: an empty queue, 46 and 47 notices, 63 and 64. -/
theorem test_witness_store :
    (queueOf 0 0).entries = [] ∧ (queueOf 0 0).attention = false ∧ (queueOf 46 0).entries.length < 47
      ∧ 47 ≤ (queueOf 47 0).entries.length ∧ (queueOf 63 0).entries.length < 64 ∧ 64 ≤ (queueOf 64 0).entries.length
      ∧ pageNotice1.urgent = false ∧ (mkNotice .sale .done none .none 0 0).urgent = true
      ∧ dozing.part.doze.state = .dozing ∧ (queueOf 64 0).lostCount = 0 ∧ 0 < (queueOf 64 3).lostCount := by decide

/-- TakeNoticesRemovesTheOldest: an empty queue, eight notices, and a full queue with a gap, in RUNNING and in
DOZING. -/
theorem test_witness_take :
    (∀ q ∈ [queueOf 0 0, queueOf 8 0, queueOf 64 3], q.Kept) ∧ (queueOf 64 3).lostCount ≠ 0
      ∧ running.part.doze.state ≠ .dozing ∧ running.part.doze.state ≠ .selfTest ∧ (queueOf 8 0).lostCount = 0
      ∧ dozing.part.doze.state = .dozing ∧ dozing.part.port.reply = none := by
  decide

/-- PageAndStatusAreRead: the first and the last section, and the two next to them. -/
theorem test_witness_status :
    (⟨0, 0⟩ : StatusRequest).fits = true ∧ (⟨1, 0⟩ : StatusRequest).fits = true ∧ (⟨11, 0⟩ : StatusRequest).fits = true
      ∧ (⟨12, 255⟩ : StatusRequest).fits = true ∧ running.part.roles.shows = true := by decide

/-- The running part with no departure near: the night train LISTED, and the clock at 10:15. -/
def quiet : State :=
  { running with part := { runningPart with
      board := { runningPart.board with entries := [{ nightEntry with state := .listed }] } } }

/-- DozeIsRefusedOrEntered: an issue, a load, a fare transfer, a wake kind waiting, a DUE train; and none of them. -/
theorem test_witness_doze :
    (inFlight.part.Attentive ∧ inFlight.part.sales.issue.isSome = true)
      ∧ ((loading 1 0).part.sales.issue = none ∧ (loading 1 0).part.board.load.isSome = true)
      ∧ (staging.part.board.load = none ∧ staging.part.fares.transfer.isSome = true)
      ∧ (({ NoticeQueue.reset with entries := [mkNotice .key .keyA none .none 0 0] } : NoticeQueue).wakeWaiting = true)
      ∧ (running.part.notices.wakeWaiting = false ∧ running.part.departureNear = some nightEntry)
      ∧ (quiet.part.Attentive ∧ quiet.part.departureNear = none) := by decide

/-- ResetsAndSuppliesKeepTheStore: supply on and off, reset held and not, the end of line time and one before it. -/
theorem test_witness_supply :
    running.part.supply.mainOn = true ∧ running.part.supply.resetHeld = false ∧ running.part.up = true
      ∧ running.part.lineTime < 4294967295
      ∧ (∃ s : State, s.part.up = true ∧ 4294967295 ≤ s.part.lineTime)
      ∧ (∃ s : State, s.part.supply.resetHeld = true ∧ s.part.up = false)
      ∧ (∃ s : State, s.part.supply.mainOn = false ∧ s.part.supply.backupLow = true) :=
  ⟨by decide, by decide, by decide, by decide,
   ⟨{ running with part := { runningPart with lineTime := 4294967295 } }, by decide⟩,
   ⟨{ running with part := { runningPart with supply := ⟨true, false, true⟩ } }, by decide⟩,
   ⟨{ running with part := { runningPart with supply := ⟨false, true, false⟩ } }, by decide⟩⟩

/-- SelfTestEndsWarmOrCold: a store that is not good, and a good one with a balanced ledger. -/
theorem test_witness_self_test :
    (testing.part.up = true ∧ testing.part.doze.state = .selfTest ∧ testing.part.retained ≠ ⟨false, true⟩)
      ∧ (∃ s : State, s.part.up = true ∧ s.part.doze.state = .selfTest ∧ s.part.retained = ⟨false, true⟩
          ∧ s.part.quota.Balanced) :=
  ⟨by decide, ⟨running.part.resetWith .restart, []⟩, by decide⟩

/-- The running part at the first minute of a later sales day. -/
def nextMorning : State :=
  { running with part := { runningPart with clock := { runningPart.clock with reading := ⟨101, 9000000⟩ } } }

/-- The same part under a start record that names SHOWS alone. -/
def screenMorning : State :=
  { nextMorning with part := { nextMorning.part with port := { nextMorning.part.port with
      record := some { startRequest.clamped with roles := ⟨false, true, false⟩ } } } }

/-- The sales unit closes a day with the SELLS role alone (R85, R108). -/
theorem test_closeDay_with_and_without_sells :
    (nextMorning.part.closeDay 100).sales.journal.map JournalRecord.body = [.dayClose 100 nextMorning.part.sales.totals]
      ∧ screenMorning.part.closeDay 100 = screenMorning.part := by
  decide

/-- MinuteEventReachesItsReceivers: a new minute of the same sales day, and of the next one, with SELLS and without. -/
theorem test_witness_minute :
    (∃ s : State, s.part.up = true ∧ s.part.awake = true ∧ s.part.clock.isSet = true
        ∧ s.part.clock.lastEventMinute ≠ some s.part.clock.reading.absMinute
        ∧ (s.part.board.entries.map Entry.train).Nodup ∧ s.part.clock.salesDay = some 100
        ∧ s.part.clock.computedDay ≤ 100)
      ∧ (∀ s ∈ [nextMorning, screenMorning], s.part.up = true ∧ s.part.awake = true ∧ s.part.clock.isSet = true
        ∧ s.part.clock.lastEventMinute ≠ some s.part.clock.reading.absMinute
        ∧ (s.part.board.entries.map Entry.train).Nodup ∧ s.part.clock.salesDay = some 100
        ∧ 100 < s.part.clock.computedDay ∧ s.part.sales.nextNumber = some 1)
      ∧ nextMorning.part.roles.sells = true ∧ screenMorning.part.roles.sells = false :=
  ⟨⟨{ running with part := { runningPart with clock := { runningPart.clock with reading := ⟨100, 36960000⟩ } } },
    by decide⟩, by decide, by decide, by decide⟩

/-- The dozing part with the night train LISTED, at a new minute. -/
def dozingAt (reading : Reading) : State :=
  { dozing with part := { dozing.part with
      board := { runningPart.board with entries := [{ nightEntry with state := .listed }] }
      clock := { runningPart.clock with reading } } }

/-- MinuteEventReachesItsReceivers: in DOZING, ten minutes before the night train's sort minute of 1,542, and hours
before it. -/
theorem test_witness_departure_wake :
    let near := dozingAt ⟨101, 5520000⟩
    let far := dozingAt ⟨100, 36960000⟩
    (∀ s ∈ [near, far], s.part.up = true ∧ s.part.awake = true ∧ s.part.clock.isSet = true
        ∧ s.part.clock.lastEventMinute ≠ some s.part.clock.reading.absMinute
        ∧ (s.part.board.entries.map Entry.train).Nodup ∧ s.part.doze.state = .dozing
        ∧ s.part.clock.salesDay = some 100 ∧ s.part.clock.computedDay ≤ 100
        ∧ ∀ e ∈ s.part.board.entries, e.judged s.part.clock.reading.absMinute = e.state)
      ∧ near.part.departureNear = some { nightEntry with state := .listed } ∧ far.part.departureNear = none := by
  decide

/-- The running part with a source, a slew and a reference at their last ms. -/
def following (pending : Int) : State :=
  { running with part := { runningPart with
      clock := { runningPart.clock with
        stratum := 1, source := some 5, sourceDeadline := some 5000, pending, periodStart := 4990 } } }

/-- ClockDeadlinesAct: slews of +1 and −1 ms at the end of a period, a source deadline and a reference deadline. -/
theorem test_witness_clock_deadlines :
    (following 1).part.up = true ∧ (following 1).part.clock.pending ≠ 0 ∧ (following (-1)).part.clock.pending ≠ 0
      ∧ (following 1).part.clock.periodStart + 10 ≤ (following 1).part.lineTime
      ∧ (following 0).part.clock.sourceDeadline = some 5000 ∧ 5000 ≤ (following 0).part.lineTime
      ∧ (∃ s : State, s.part.up = true ∧ s.part.clock.referenceDeadline = some 5000 ∧ 5000 ≤ s.part.lineTime) :=
  ⟨by decide, by decide, by decide, by decide, by decide, by decide,
   ⟨{ running with part := { runningPart with clock := { runningPart.clock with
        stratum := 0, referenceDeadline := some 5000 } } }, by decide⟩⟩

/-- A beacon of the source's reading so many ms off the running part's clock. -/
def beaconOff (offset : Int) (stratum : Nat) : BeaconPayload :=
  { day := 100, ms := (36900000 - 2 + offset).toNat, stratum, roles := ⟨false, false, true⟩, sellerIndex := 0,
    timetable := 2, fare := 1, freeSlots := 24 }

/-- The offset that the follower's clock finds (R10). -/
def offsetOf (s : State) (b : BeaconPayload) : Int :=
  ((b.day * 86400000 + b.ms + 2 : Nat) : Int) - (s.part.clock.reading.toMs : Int)

/-- BeaconCorrectsItsFollower: the offsets at the edges of R11's bands, and strata 7 and 8. -/
theorem test_witness_beacon_bands :
    ((following 0).part.Hears 5 9 ∧ (following 0).part.clock.source = some 5 ∧ (following 0).part.clock.isSet = true
        ∧ ((following 0).part.peers.find 5).isSome = true)
      ∧ (∀ o ∈ [-60001, -60000, -3, -2, 0, 2, 3, 1000, 1001], offsetOf (following 0) (beaconOff o 7) = o
          ∧ (Payload.beacon (beaconOff o 7)).ok = true)
      ∧ (Payload.beacon (beaconOff 0 8)).ok = true := by decide

/-- NearerBeaconIsFollowed: nearer, as near with a lower number, not nearer; the edges of the bands; and an unset
clock. -/
theorem test_witness_beacon_nearer :
    (running.part.Hears 2 0 ∧ running.part.clock.source ≠ some 2 ∧ (running.part.peers.find 2).isSome = true)
      ∧ 6 + 1 < running.part.clock.stratum
      ∧ (7 + 1 = running.part.clock.stratum ∧ 2 < running.part.clock.source.getD running.part.ownNode)
      ∧ ¬ (9 < running.part.clock.source.getD running.part.ownNode)
      ∧ (∀ o ∈ [-60001, -60000, -3, -2, 2, 3, 1000, 1001], offsetOf running (beaconOff o 6) = o)
      ∧ (∃ s : State, s.part.Hears 2 0 ∧ s.part.clock.isSet = false ∧ s.part.clock.source ≠ some 2) :=
  ⟨by decide, by decide, by decide, by decide, by decide,
   ⟨{ running with part := { runningPart with clock := HaltClock.cold } }, by decide⟩⟩

/-- RefreshDeadlineAnnounces: at the deadline, with a frame in the store and without, with room and without. -/
theorem test_witness_refresh :
    running.part.up = true ∧ running.part.awake = true ∧ running.part.board.find nightTrain = some nightEntry
      ∧ nightEntry.refreshDeadline = some 5000 ∧ 5000 ≤ running.part.lineTime ∧ nightEntry.frame = none
      ∧ running.part.line.hasRoom .bulk = true
      ∧ (∃ e : Entry, e.refreshDeadline = some 5000 ∧ e.frame ≠ none)
      ∧ (∃ l : LineInterface, l.hasRoom .bulk = false) :=
  ⟨by decide, by decide, by decide, by decide, by decide, by decide, by decide,
   ⟨{ nightEntry with frame := some ⟨.update, 3⟩ }, by decide⟩,
   ⟨{ LineInterface.reset with slots := List.replicate 22 ⟨0, .bulk, 0, .beacon, 0, none⟩ }, by decide⟩⟩

/-- IntervalDeadlineTurnsThePage. -/
theorem test_witness_interval :
    running.part.up = true ∧ running.part.doze.state = .running
      ∧ running.part.port.record = some startRequest.clamped ∧ startRequest.clamped.roles.shows = true
      ∧ running.part.page.deadline = some 5000 ∧ 5000 ≤ running.part.lineTime := by decide

/-- IssueAndQuotaDeadlinesAct: the ask time and the deadline of the issue in flight, and an AWAITING grant's. -/
theorem test_witness_issue_deadlines :
    inFlight.part.up = true ∧ inFlight.part.awake = true ∧ inFlight.part.sales.issue = some waitingIssue
      ∧ waitingIssue.request.inputs.train = some nightTrain ∧ waitingIssue.askTime = some 5000
      ∧ 5000 ≤ inFlight.part.lineTime ∧ waitingIssue.deadline ≤ inFlight.part.lineTime
      ∧ waitingIssue.reserved < waitingIssue.needed
      ∧ (running.part.quota.find nightTrain = some nightRecord
          ∧ nightRecord.grants = [] ++ ⟨5, 9, 1, .awaiting 4000, false, some 2000⟩ :: []
          ∧ 4000 ≤ running.part.lineTime) := by decide

/-- The running part with node 5 in a state, at its deadlines. -/
def peerIn (state : PeerState) : State :=
  { running with part := { runningPart with peers := { runningPart.peers with
      records := runningPart.peers.records.map (fun r =>
        if r.node = 5 then { r with state, silentDeadline := some 5000, goneDeadline := some 5000 } else r) } } }

/-- PeerDeadlinesAct: a PRESENT and a SILENT peer, a beacon deadline with and without a beacon in the store and with no
room for one. -/
theorem test_witness_peer_deadlines :
    ((peerIn .present).part.peers.find 5).map PeerRecord.state = some .present
      ∧ ((peerIn .silent).part.peers.find 5).map PeerRecord.goneDeadline = some (some 5000)
      ∧ (peerIn .silent).part.quota.Balanced ∧ (peerIn .silent).part.awake = true
      ∧ running.part.peers.beaconDeadline = some 5000 ∧ running.part.line.beaconInStore = false
      ∧ (∃ l : LineInterface, l.beaconInStore = true)
      ∧ (∃ l : LineInterface, l.beaconInStore = false ∧ l.hasRoom .normal = false) :=
  ⟨by decide, by decide, by decide, by decide, by decide, by decide,
   ⟨{ LineInterface.reset with slots := [⟨0, .normal, 0, .beacon, 0, none⟩] }, by decide⟩,
   ⟨{ LineInterface.reset with slots := List.replicate 22 ⟨0, .bulk, 0, .ask ⟨nightTrain, 1⟩, 0, none⟩ }, by decide⟩⟩

/-- A state with KEY A's input and settled level, at its settle deadline. -/
def keyAt (s : State) (inputLow settledLow : Bool) : State :=
  { s with part := { s.part with doze := { s.part.doze with keyA := ⟨inputLow, settledLow, some 5000, 65535⟩ } } }

/-- HoldOffAndKeysAct: a hold-off deadline with a notice waiting; a press of KEY A in RUNNING and in DOZING, its release,
and KEY B, which is not enabled. -/
theorem test_witness_keys :
    (∃ s : State, s.part.up = true ∧ s.part.notices.deadline = some 5000 ∧ 5000 ≤ s.part.lineTime
        ∧ s.part.notices.entries ≠ [])
      ∧ ((keyAt running true false).part.up = true ∧ ((keyAt running true false).part.doze.key .a).inputLow = true
          ∧ ((keyAt running true false).part.doze.key .a).settledLow = false
          ∧ (keyAt running true false).part.keyEnabled .a = true
          ∧ (keyAt running true false).part.doze.state = .running)
      ∧ (keyAt dozing true false).part.doze.state = .dozing
      ∧ ((keyAt running false true).part.doze.key .a).inputLow = false ∧ running.part.keyEnabled .b = false
      ∧ (running.part.doze.key .a).inputLow ≠ true ∧ (keyAt dozing true false).part.notices.entries.length ≤ 60 :=
  ⟨⟨{ running with part := { runningPart with
        notices := { queueOf 1 0 with attention := false, deadline := some 5000 } } }, by decide⟩,
   by decide, by decide, by decide, by decide, by decide, by decide⟩

/-- OfferTakesTheNextNumber: 21 and 22 slots NORMAL or BULK, and 24 in use. -/
theorem test_witness_offer :
    let bulk := fun n => List.replicate n (⟨0, .bulk, 0, .beacon, 0, none⟩ : Slot)
    let used := fun n => ({ LineInterface.reset with slots := bulk n } : LineInterface).used .bulk
    (used 21 < 22 ∧ ¬ used 22 < 22) ∧ (bulk 22).length < 24 ∧ ¬ (bulk 24).length < 24 := by decide

def urgentSlot : Slot := ⟨38, .urgent, 253, .ask ⟨nightTrain, 9⟩, 7, none⟩
def beaconSlot : Slot := ⟨37, .normal, 252, .beacon, 0, some 1⟩

/-- The running part with those two frames in the store, the transmitter in a state. -/
def sendingPart (busy : Bool) (tx : Transmitter) (slots : List Slot) : State :=
  { running with part := { runningPart with line := { runningPart.line with busy, tx, slots } } }

/-- BusyQuietAndSlots: a quiet line, a busy one with nothing to send, one before a start record, one with two classes
waiting, and a last slot. -/
theorem test_witness_line :
    (sendingPart false (.counting 37) [beaconSlot]).part.line.busy = false
      ∧ running.part.line.busy = true ∧ running.part.awake = true ∧ running.part.line.slots = []
      ∧ running.part.line.tx = .idle
      ∧ waiting.part.line.busy = true ∧ waiting.part.awake = false ∧ waiting.part.line.tx = .idle
      ∧ ((sendingPart true .idle [beaconSlot, urgentSlot]).part.line.slots.map Slot.id).Nodup
      ∧ (sendingPart false (.counting 37) [beaconSlot]).part.line.find 37 = some beaconSlot ∧ beaconSlot.wait = some 1 := by
  decide

theorem test_witness_head : HeadOfHighestClass (sendingPart true .idle [beaconSlot, urgentSlot]).part.line urgentSlot :=
  ⟨[beaconSlot], [], rfl, by decide, by decide, by decide⟩

/-- AttemptEnds: a beacon, a TRAIN frame and a GRANT under way, an attempt below and at the eighth. -/
theorem test_witness_attempt :
    let grant : Slot := ⟨36, .urgent, 251, .grant ⟨5, 9, nightTrain, 1⟩, 8, none⟩
    let s := sendingPart true (.breaking 36) [beaconSlot, grant, { urgentSlot with attempts := 8 }]
    s.part.up = true ∧ s.part.line.find 36 = some grant ∧ (s.part.line.slots.map Slot.id).Nodup ∧ 8 ≤ grant.attempts
      ∧ s.part.line.tx = .breaking 36 ∧ urgentSlot.attempts < 8 ∧ s.part.doze.state = .running
      ∧ ({ runningPart.quota with ledger := [{ nightRecord with
            held := 4, lending := 1, grants := [⟨5, 9, 1, .lending 36, false, none⟩] }] } : QuotaUnit).lender 36
          = some ({ nightRecord with held := 4, lending := 1, grants := [⟨5, 9, 1, .lending 36, false, none⟩] },
              ⟨5, 9, 1, .lending 36, false, none⟩) := by decide

/-- The running part lending one place by the GRANT frame 36, whose break is under way after so many attempts. -/
def lendingPart (attempts : Nat) (entries : List Entry) : State :=
  { running with part := { runningPart with
      board := { runningPart.board with entries }
      quota := { runningPart.quota with
        ledger := [{ nightRecord with
          held := 4, lending := 1, awaiting := 1,
          grants := [⟨6, 2, 1, .awaiting 9000, false, some 2000⟩, ⟨5, 9, 1, .lending 36, false, some 3000⟩] }]
        watch := [⟨5, 9, nightTrain, 4, 1, 4000⟩] }
      line := { runningPart.line with
        tx := .breaking 36, slots := [⟨36, .urgent, 251, .grant ⟨5, 9, nightTrain, 1⟩, attempts, none⟩] } } }

/-- AttemptEnds: a GRANT after its first and its eighth attempt, its train sold and no longer. -/
theorem test_witness_grant_cut :
    (∀ s ∈ [lendingPart 1 [nightEntry], lendingPart 1 [], lendingPart 8 []],
        s.part.up = true ∧ s.part.line.tx = .breaking 36 ∧ (s.part.line.find 36).isSome = true
          ∧ (s.part.line.slots.map Slot.id).Nodup ∧ (s.part.quota.ledger.map LedgerRecord.train).Nodup
          ∧ (s.part.quota.lender 36).map Prod.snd = some ⟨5, 9, 1, .lending 36, false, some 3000⟩)
      ∧ (lendingPart 1 [nightEntry]).part.trainSellable nightTrain = true
      ∧ (lendingPart 1 []).part.trainSellable nightTrain = false := by decide

/-- FramesAreJudgedBeforeTheirOwner: an ill-formed frame, a frame before a start record, one under the part's own number,
a duplicate, and one that is accepted; characters of a bad spell and of a malformed one. -/
theorem test_witness_frames :
    (LineFrame.mk 5 0 (.ask ⟨nightTrain, 10⟩)).ok = false ∧ (LineFrame.mk 5 0 (.ask ⟨nightTrain, 9⟩)).ok = true
      ∧ waiting.part.awake = false ∧ running.part.awake = true ∧ running.part.ownNode = 3 ∧ running.part.Hears 5 0
      ∧ (∃ s : State, s.part.awake = true ∧ s.part.isDuplicate 5 0 = true)
      ∧ judgeSpell [] = .bad ∧ judgeSpell [⟨165#8, false⟩, ⟨3#8, false⟩, ⟨5#8, false⟩, ⟨0#8, false⟩, ⟨57#8, false⟩] = .malformed
      ∧ (running.part.peers.find 5).isSome = true
      ∧ (dozing.part.awake = true ∧ dozing.part.doze.state = .dozing ∧ dozing.part.notices.entries.length < 64
          ∧ dozing.part.ownNode = 3 ∧ dozing.part.peers.duplicateNodeTime = none)
      ∧ (LineFrame.mk 5 0 (.beacon (beaconOff 0 7))).ok = true :=
  ⟨by decide, by decide, by decide, by decide, by decide, by decide,
   ⟨{ running with part := { runningPart with peers := { runningPart.peers with
        records := [{ PeerRecord.absent 5 with state := .present, lastHeard := some 4000, lastSeq := some 0 }] } } },
     by decide⟩, by decide, by decide, by decide, by decide, by decide⟩

/-- AskIsAnsweredWithAGrant: an ASK not yet in the watch; two places held, one held, and a train not sold. -/
theorem test_witness_ask :
    running.part.Hears 5 0 ∧ (Payload.ask ⟨nightTrain, 9⟩).ok = true ∧ running.part.roles.sells = true
      ∧ (∀ w ∈ running.part.quota.watch, ¬ (w.asker = 5 ∧ w.number = 0))
      ∧ running.part.quota.find nightTrain = some nightRecord ∧ running.part.trainSellable nightTrain = true
      ∧ running.part.trainLinked nightTrain = true ∧ 2 ≤ nightRecord.held ∧ nightRecord.grants.length < 8
      ∧ running.part.line.hasRoom .urgent = true ∧ ({ nightRecord with held := 1 } : LedgerRecord).held < 2 := by decide

/-- The running part that asked for three places and has taken some from node 6. -/
def asked (takings : List Taking) : State :=
  { running with part := { runningPart with quota := { runningPart.quota with
      asks := [⟨44, nightTrain, 3, 4500, takings⟩]
      watch := [⟨5, 9, nightTrain, 4, 0, 4000⟩] } } }

/-- A ledger record that lends two places by the frame 36. -/
def cuttableRecord : LedgerRecord :=
  { nightRecord with held := 4, lending := 2, awaiting := 0, grants := [⟨5, 9, 2, .lending 36, false, some 3000⟩] }

/-- The running part with that record, its GRANT waiting on the busy line, the ASK of four places heard, one granted. -/
def cuttable : State :=
  { running with part := { runningPart with
      quota := { runningPart.quota with ledger := [cuttableRecord], watch := [⟨5, 9, nightTrain, 4, 1, 4000⟩] }
      line := { runningPart.line with slots := [⟨36, .urgent, 251, .grant ⟨5, 9, nightTrain, 2⟩, 0, none⟩] } } }

/-- GrantIsTakenOnceOrCounted: no ask of that number, a grant taken before, a new one within 99 places and beyond, and a
GRANT between two other nodes. -/
theorem test_witness_grant :
    (asked []).part.Hears 5 0 ∧ (Payload.grant ⟨3, 44, nightTrain, 2⟩).ok = true
      ∧ (⟨3, 44, nightTrain, 2⟩ : GrantPayload).asker = (asked []).part.ownNode ∧ (asked []).part.sales.issue = none
      ∧ (∀ a ∈ (asked []).part.quota.asks, ¬ (a.number = 45 ∧ a.train = nightTrain))
      ∧ (asked [⟨5, 2⟩]).part.quota.asks.find? (fun a => a.number = 44 ∧ a.train = nightTrain)
          = some ⟨44, nightTrain, 3, 4500, [⟨5, 2⟩]⟩
      ∧ [(⟨5, 2⟩ : Taking)].find? (fun x => x.granter = 5) = some ⟨5, 2⟩
      ∧ (asked []).part.quota.find nightTrain = some nightRecord ∧ nightRecord.share + nightRecord.received + 2 ≤ 99
      ∧ 99 < 97 + nightRecord.received + 3
      ∧ ((asked []).part.quota.watch = [] ++ ⟨5, 9, nightTrain, 4, 0, 4000⟩ :: []
          ∧ (⟨5, 9, nightTrain, 2⟩ : GrantPayload).asker ≠ (asked []).part.ownNode ∧ (6 : Nat) ≠ 5
          ∧ (Payload.grant ⟨5, 9, nightTrain, 2⟩).ok = true ∧ (asked []).part.Hears 6 0) := by decide

/-- The part with an issue in flight that asked for the sixth place. -/
def askedInFlight : State :=
  { inFlight with part := { inFlight.part with quota := { inFlight.part.quota with
      asks := [⟨44, nightTrain, 1, 4500, []⟩] } } }

/-- GrantIsTakenOnceOrCounted: a GRANT for the issue in flight; an own grant that a GRANT of two places cuts to 1 and to
none, and one that it leaves. -/
theorem test_witness_grant_fills_and_cuts :
    (askedInFlight.part.Hears 5 0 ∧ askedInFlight.part.trainSellable nightTrain = true
        ∧ askedInFlight.part.trainLinked nightTrain = true ∧ askedInFlight.part.sales.issue = some waitingIssue
        ∧ waitingIssue.request.inputs.train = some nightTrain ∧ 0 < waitingIssue.needed
        ∧ (askedInFlight.part.quota.find nightTrain).isSome = true)
      ∧ (cuttable.part.Hears 7 0 ∧ cuttable.part.line.inTransmission 36 = false
        ∧ cuttable.part.quota.find nightTrain = some cuttableRecord
        ∧ cuttableRecord.grants = [] ++ ⟨5, 9, 2, .lending 36, false, some 3000⟩ :: []
        ∧ (⟨5, 9, 2, .lending 36, false, some 3000⟩ : GrantRecord).count ≤ 4 - min (1 + 1) 99
        ∧ 4 - min (1 + 2) 99 < 2 ∧ 4 - min (1 + 3) 99 = 0 ∧ (cuttable.part.line.find 36).isSome = true) := by decide

/-- TakenSettlesTheGrant: the AWAITING grant to node 5, another count, and a grant still LENDING. -/
theorem test_witness_taken :
    running.part.Hears 5 0 ∧ (Payload.taken ⟨3, 9, nightTrain, 1⟩).ok = true
      ∧ (⟨3, 9, nightTrain, 1⟩ : TakenPayload).granter = running.part.ownNode
      ∧ running.part.quota.find nightTrain = some nightRecord
      ∧ nightRecord.grants = [] ++ ⟨5, 9, 1, .awaiting 4000, false, some 2000⟩ :: []
      ∧ (∀ x ∈ nightRecord.grants, ¬ (x.asker = 5 ∧ x.number = 9 ∧ x.count = 2))
      ∧ (⟨5, 9, 1, .lending 36, false, none⟩ : GrantRecord).state = .lending 36
      ∧ running.part.line.inTransmission 36 = false := by decide

/-! ### One step each, against the manual -/

def outcome (c : Instr) (s : State) : Option Part :=
  match exec c s with
  | .next t => some t.part
  | _ => none

/-- R99, R107: the first ticket of the day is serial 1, and the sum is its amount. -/
theorem test_issue_sells :
    (outcome (.issue (.clean (saleAt 2580))) running).map (fun p => (p.sales.totals, p.sales.nextSerial))
      = some (⟨1, 2580, 0, 0⟩, 2) := by decide

/-- R89, R119: the ASK goes out under the next sequence number, 255, and the number passes to 0. -/
theorem test_issue_asks :
    (outcome (.issue (.clean (quotaSaleAt 6 3000))) running).map
        (fun p => (p.line.slots.map Slot.seq, p.line.nextSeq, p.quota.asks.map AskRecord.wanted))
      = some ([255], 0, [1]) := by decide

/-- R123: half of five held places, rounded down, is lent. -/
theorem test_ask_lends_half :
    (outcome (.ask (.clean 5 0 ⟨nightTrain, 9⟩)) running).map
        (fun p => p.quota.ledger.map (fun r => (r.held, r.lending)))
      = some [(3, 2)] := by decide

/-- R127: awaiting becomes lent. -/
theorem test_taken_settles :
    (outcome (.taken (.clean 5 0 ⟨3, 9, nightTrain, 1⟩)) running).map
        (fun p => p.quota.ledger.map (fun r => (r.awaiting, r.lent, r.grants.length)))
      = some [(0, 1, 0)] := by decide

/-- R13: a forward slew gains 11 ms in a period. -/
theorem test_slew_period :
    (outcome .slewPeriod (following 1)).map (fun p => (p.clock.reading.ms, p.clock.pending)) = some (36900011, 0) := by
  decide

/-- R101: the voided place comes back to held, and the window is cleared. -/
theorem test_void :
    (outcome (.void (.clean soldTicket.ref)) (sold 120000)).map
        (fun p => (p.quota.ledger.map LedgerRecord.held, p.sales.voidWindow, p.sales.totals.voidSum))
      = some ([5], none, 610) := by decide

/-- R90, R101: the voided place fills the issue of six, and the VOID ends with an empty window. -/
theorem test_void_fills_issue :
    (outcome (.void (.clean soldTicket.ref)) soldInFlight).map
        (fun p => (p.quota.ledger.map LedgerRecord.sold, p.sales.issue, p.sales.voidWindow, p.sales.totals.tickets))
      = some ([6], none, none, 2) := by decide

/-- R124: of four places wanted three are granted by others, so the own grant of two is cut to one. -/
theorem test_grant_cut :
    (outcome (.grant (.clean 7 0 ⟨5, 9, nightTrain, 2⟩)) cuttable).map
        (fun p => (p.quota.ledger.map (fun r => (r.held, r.lending)), p.line.slots.map Slot.body))
      = some ([(5, 1)], [.grant ⟨5, 9, nightTrain, 1⟩]) := by decide

/-- R124, R130: after the lapse a grant cut by a collision, and one given up, go to lapsed. -/
theorem test_grant_lapses :
    ∀ attempts ∈ [1, 8], (outcome .breakEnd (lendingPart attempts [])).map
        (fun p => (p.quota.ledger.map (fun r => (r.lending, r.lapsed, r.doubtful)), p.line.slots))
      = some ([(0, 1, 0)], []) := by decide

/-- R193: the backup supply fails first, and the store is lost when the main supply goes; in the other order too. -/
theorem test_supplies_lost :
    ((outcome .backupLoss running).bind (fun p => outcome .mainSupplyLoss ⟨p, []⟩)).map Part.retained = some ⟨true, false⟩
      ∧ ((outcome .mainSupplyLoss running).bind (fun p => outcome .backupLoss ⟨p, []⟩)).map Part.retained
        = some ⟨true, false⟩
      ∧ (outcome .backupLoss running).map Part.retained = some ⟨false, true⟩ := by decide

/-- R177, R178: a transfer that opens with any other byte is a STATUS transfer, and leaves the reply held. -/
theorem test_status_transfer :
    (outcome (.doze (.raw [0#8, 81#8])) (holding running)).map (fun p => p.port.reply.isSome) = some true := by decide

/-- R180, R206: a FETCH of four bytes from an empty store shifts out the absent marker and filler. -/
theorem test_fetch_empty :
    (outcome (.fetch 4) running).map (fun p => p.port.lastTransfer.bind TransferOut.fetched)
      = some (some [0#8, 255#8, 255#8, 255#8]) := by decide

/-- R34: an expected minute past 1,799 is not possible, and platform 0 keeps the platform. -/
theorem test_update :
    (outcome (.trainUpdate (.clean nightUpdate)) running).map
        (fun p => p.board.entries.map (fun e => (e.expected, e.platform, e.serial)))
      = some [(some 1799, 2, 4)] := by decide

end Sys2Proof.Tests
end

section
namespace Sys2Proof.Machine

/-! ### The notice queue's bounds (R166 to R174) -/

/-- The notice queue is within its bounds, and its line is low in DOZING (R166 to R174). -/
structure Part.QueueKept (p : Part) : Prop where
  kept : p.notices.Kept
  low : p.LowInDoze

@[simp] theorem NoticeQueue.attend_entries (q : NoticeQueue) (st : PartState) (h now before : Nat) (u : Bool) :
    (q.attend st h now before u).entries = q.entries ∧ (q.attend st h now before u).lostCount = q.lostCount
      ∧ (q.attend st h now before u).firstLost = q.firstLost
      ∧ (q.attend st h now before u).lostTotal = q.lostTotal := by
  cases st <;> simp only [NoticeQueue.attend] <;> (repeat' split) <;> simp

theorem bump_pos (n : Nat) : 0 < bump n := by simp only [bump, satAdd]; omega

/-- A queue that holds a notice is within its bounds whatever its line and its deadline. -/
theorem NoticeQueue.kept_of_ne_nil (q : NoticeQueue) (size : q.entries.length ≤ 64)
    (full : 0 < q.lostCount → q.entries.length = 64) (first : q.lostCount = 0 ↔ q.firstLost = none)
    (some : q.entries ≠ []) : q.Kept :=
  ⟨size, full, first, fun h => absurd h some⟩

/-- A notice handed to the queue, stored or lost, leaves it within its bounds and not empty (R166, R167). -/
theorem NoticeQueue.store_kept (q : NoticeQueue) (st : PartState) (h now : Nat) (n : Notice) (k : q.Kept) :
    (q.store st h now n).Kept ∧ (q.store st h now n).entries ≠ [] := by
  obtain ⟨size, full, first, -⟩ := k
  simp only [NoticeQueue.store]
  split
  · have none : q.lostCount = 0 := by omega
    refine ⟨NoticeQueue.kept_of_ne_nil _ ?_ ?_ ?_ ?_, ?_⟩ <;> simp [none, first.mp none]
    omega
  · have room : q.entries ≠ [] := by rintro h; simp_all
    have more := bump_pos q.lostCount
    refine ⟨NoticeQueue.kept_of_ne_nil _ size (fun _ => by simp; omega) ?_ room, room⟩
    constructor
    · intro h; simp only at h; omega
    · intro h
      simp only at h
      split at h
      · cases h
      · have := first.mpr h; contradiction

/-- In DOZING a notice handed to the queue leaves the line and its deadline alone (R174). -/
theorem NoticeQueue.store_dozing (q : NoticeQueue) (h now : Nat) (n : Notice) :
    (q.store .dozing h now n).attention = q.attention ∧ (q.store .dozing h now n).deadline = q.deadline := by
  simp only [NoticeQueue.store]
  split <;> simp [NoticeQueue.attend]

theorem Part.QueueKept.note {p : Part} (k : p.QueueKept) (n : Notice) : (p.note n).QueueKept where
  kept := (p.notices.store_kept _ _ _ n k.kept).1
  low := by
    intro dozing
    rw [Part.note_doze] at dozing
    obtain ⟨att, dl⟩ := k.low dozing
    simp [Part.note, dozing, NoticeQueue.store_dozing, att, dl]

/-- The queue's bounds stand while queue and part state stand. -/
theorem Part.QueueKept.congr {p q : Part} (k : p.QueueKept) (notices : q.notices = p.notices)
    (state : q.doze.state = p.doze.state) : q.QueueKept := by
  obtain ⟨kept, low⟩ := k
  exact ⟨by rwa [notices], by simpa only [Part.LowInDoze, notices, state] using low⟩

theorem Part.QueueKept.holdPage {p : Part} (k : p.QueueKept) (i s : Nat) (r : PageRecord) (n : Notice) :
    (p.holdPage i s r n).QueueKept := by
  simp only [Part.holdPage]
  split
  · exact k.congr rfl rfl
  · refine Part.QueueKept.note ?_ n
    exact k.congr rfl rfl

theorem Part.QueueKept.rebuild {p : Part} (k : p.QueueKept) (pick : Nat → Nat → Nat) : (p.rebuild pick).QueueKept := by
  simp only [Part.rebuild]
  split
  · exact k
  · exact k.holdPage _ _ _ _

theorem Part.QueueKept.startPages {p : Part} (k : p.QueueKept) : p.startPages.QueueKept := by
  simp only [Part.startPages]
  split
  · exact (k.rebuild keepIndex).congr rfl rfl
  · exact k

theorem Part.wake_state (p : Part) (c : WakeCause) : (p.wake c).doze.state = .running := by
  simp [Part.wake]

/-- A wake asserts the line on a queue that holds the WAKE notice or is full (R203). -/
theorem Part.QueueKept.wake {p : Part} (k : p.QueueKept) (c : WakeCause) : (p.wake c).QueueKept := by
  have stored := p.notices.store_kept p.doze.state p.holdOff p.lineTime
    (mkNotice .wake c.noticeCause none c.subject c.value p.dozeLength) k.kept
  obtain ⟨⟨size, full, first, -⟩, some⟩ := stored
  refine Part.QueueKept.startPages ⟨?_, fun h => ?_⟩
  · exact NoticeQueue.kept_of_ne_nil _ size full first some
  · simp at h

theorem Part.QueueKept.post {p : Part} (k : p.QueueKept) (n : Notice) : (p.post n).QueueKept := by
  simp only [Part.post]
  repeat' split
  · exact k.note n
  · exact (k.note n).wake _
  · exact k.note n

/-! ### The transmit store's bounds (R151, R152, R154) -/

theorem LineInterface.Kept.chosen {l : LineInterface} (k : l.Kept) : ∀ f ∈ l.tx.chosen, f ∈ l.slots.map Slot.id := by
  obtain ⟨-, -, -, -, -, chosen⟩ := k
  exact chosen

/-- The bounds of the store hold where the slots keep their numbers and classes. -/
theorem LineInterface.Kept.congr {l l' : LineInterface} (k : l.Kept)
    (ids : l'.slots.map (fun s => (s.id, s.cls)) = l.slots.map (fun s => (s.id, s.cls)))
    (seq : l'.nextSeq = l.nextSeq) (frame : l'.nextFrame = l.nextFrame)
    (chosen : ∀ f ∈ l'.tx.chosen, f ∈ l.slots.map Slot.id) : l'.Kept := by
  obtain ⟨size, bulk, seqOk, nodup, below, -⟩ := k
  have idsEq : l'.slots.map Slot.id = l.slots.map Slot.id := by
    simpa [Function.comp_def] using congrArg (List.map Prod.fst) ids
  have lenEq : l'.slots.length = l.slots.length := by simpa using congrArg List.length ids
  have usedEq : ∀ c, l'.used c = l.used c := by
    intro c
    have key : ∀ x : LineInterface,
        x.used c = ((x.slots.map (fun s => (s.id, s.cls))).filter (fun y => y.2 = c)).length := by
      intro x; simp [LineInterface.used, List.filter_map, Function.comp_def]
    rw [key, key, ids]
  refine ⟨by omega, by rw [usedEq, usedEq]; exact bulk, by omega, by rwa [idsEq], ?_, by rwa [idsEq]⟩
  intro s hs
  have mem : s.id ∈ l.slots.map Slot.id := idsEq ▸ List.mem_map_of_mem hs
  obtain ⟨x, hx, same⟩ := List.mem_map.mp mem
  rw [frame, ← same]
  exact below x hx

/-- A slot changed without its number and class. -/
theorem LineInterface.modify_ids (l : LineInterface) (i : Nat) (f : Slot → Slot)
    (keeps : ∀ s, (f s).id = s.id ∧ (f s).cls = s.cls) :
    (l.modify i f).slots.map (fun s => (s.id, s.cls)) = l.slots.map (fun s => (s.id, s.cls)) := by
  simp only [LineInterface.modify, List.map_map]
  apply List.map_congr_left
  intro s _
  simp only [Function.comp]
  split <;> simp [keeps]

theorem LineInterface.mem_ids_of_find {l : LineInterface} {i : Nat} {s : Slot} (h : l.find i = some s) :
    s.id = i ∧ i ∈ l.slots.map Slot.id := by
  have hm := List.mem_of_find?_eq_some h
  have hi : s.id = i := by simpa using List.find?_some h
  exact ⟨hi, hi ▸ List.mem_map_of_mem hm⟩

theorem LineInterface.head?_mem {l : LineInterface} {s : Slot} (h : l.head? = some s) : s.id ∈ l.slots.map Slot.id := by
  simp only [LineInterface.head?] at h
  have hm : s ∈ l.slots := by
    split at h
    · cases h; exact List.mem_of_find?_eq_some ‹_›
    · split at h
      · cases h; exact List.mem_of_find?_eq_some ‹_›
      · exact List.mem_of_find?_eq_some h
  exact List.mem_map_of_mem hm

/-- A slot taken with room for its class (R152). -/
theorem LineInterface.push_kept (l : LineInterface) (c : FrameClass) (b : FrameBody) (k : l.Kept)
    (room : l.hasRoom c = true) : (l.push c b).Kept := by
  obtain ⟨size, bulk, seqOk, nodup, below, chosen⟩ := k
  simp only [LineInterface.hasRoom, Bool.and_eq_true, Bool.or_eq_true, decide_eq_true_eq] at room
  refine ⟨?_, ?_, ?_, ?_, ?_, ?_⟩
  · simp only [LineInterface.push, List.length_append, List.length_singleton]; omega
  · simp only [LineInterface.used] at bulk room
    cases c <;> simp [LineInterface.push, LineInterface.used] at room ⊢ <;> omega
  · simp only [LineInterface.push]; omega
  · simp only [LineInterface.push, List.map_append, List.map_cons, List.map_nil]
    refine List.nodup_append.mpr ⟨nodup, by simp, ?_⟩
    rintro i hi j hj rfl
    obtain ⟨s, hs, rfl⟩ := List.mem_map.mp hi
    have := below s hs
    simp at hj
    omega
  · intro s hs
    simp only [LineInterface.push, List.mem_append, List.mem_singleton] at hs ⊢
    rcases hs with hs | rfl
    · have := below s hs; omega
    · simp
  · intro f hf
    have := chosen f hf
    simp only [LineInterface.push, List.map_append, List.mem_append]
    exact .inl this

/-- Slots freed, and a chosen one let go with them (R153). -/
theorem LineInterface.drop_kept (l : LineInterface) (ids : List Nat) (k : l.Kept) : (l.drop ids).Kept := by
  obtain ⟨size, bulk, seqOk, nodup, below, chosen⟩ := k
  have sub : (l.drop ids).slots.Sublist l.slots := List.filter_sublist
  have used : ∀ c, (l.drop ids).used c ≤ l.used c := fun c => (sub.filter _).length_le
  refine ⟨le_trans sub.length_le size, ?_, seqOk, (sub.map Slot.id).nodup nodup, fun s hs => below s (sub.subset hs), ?_⟩
  · have := used .normal; have := used .bulk; omega
  · intro f hf
    have keep : f ∉ ids ∧ f ∈ l.tx.chosen := by
      simp only [LineInterface.drop] at hf
      cases hc : l.tx.chosen with
      | none => simp [hc] at hf
      | some id =>
        simp only [hc] at hf
        split at hf
        · simp [Transmitter.chosen] at hf
        · rw [hc] at hf; cases hf; exact ⟨by assumption, rfl⟩
    obtain ⟨s, hs, rfl⟩ := List.mem_map.mp (chosen f keep.2)
    exact List.mem_map_of_mem (by simpa [LineInterface.drop, hs] using keep.1)

/-- The transmitter let go of its frame. -/
theorem LineInterface.idle_kept (l : LineInterface) (k : l.Kept) : { l with tx := .idle }.Kept :=
  k.congr rfl rfl rfl (by simp [Transmitter.chosen])

/-! ### The ledger's law (R110) -/

/-- A ledger whose records keep their trains and their law. -/
theorem QuotaUnit.Balanced.map {q q' : QuotaUnit} (k : q.Balanced) (f : LedgerRecord → LedgerRecord)
    (ledger : q'.ledger = q.ledger.map f) (keeps : ∀ r ∈ q.ledger, (f r).train = r.train)
    (law : ∀ r ∈ q.ledger, r.Balanced → (f r).Balanced) : q'.Balanced := by
  obtain ⟨size, nodup, each⟩ := k
  have trains : q'.ledger.map LedgerRecord.train = q.ledger.map LedgerRecord.train := by
    rw [ledger, List.map_map]
    exact List.map_congr_left keeps
  refine ⟨by simpa [ledger] using size, by rwa [trains], ?_⟩
  rw [ledger]
  intro x hx
  obtain ⟨r, hr, rfl⟩ := List.mem_map.mp hx
  exact law r hr (each r hr)

/-- A train's record changed within its law. -/
theorem QuotaUnit.Balanced.modify {q : QuotaUnit} (k : q.Balanced) (t : TrainKey) (f : LedgerRecord → LedgerRecord)
    (keeps : ∀ r, (f r).train = r.train) (law : ∀ r ∈ q.ledger, r.train = t → r.Balanced → (f r).Balanced) :
    (q.modify t f).Balanced := by
  refine k.map _ rfl (fun r _ => by split <;> simp [keeps]) (fun r hr h => ?_)
  split
  · exact law r hr ‹_› h
  · exact h

/-- A ledger left with some of its records. -/
theorem QuotaUnit.Balanced.filter {q q' : QuotaUnit} (k : q.Balanced) (keep : LedgerRecord → Bool)
    (ledger : q'.ledger = q.ledger.filter keep) : q'.Balanced := by
  obtain ⟨size, nodup, each⟩ := k
  have sub : (q.ledger.filter keep).Sublist q.ledger := List.filter_sublist
  rw [← ledger] at sub
  exact ⟨le_trans sub.length_le size, (sub.map _).nodup nodup, fun r hr => each r (sub.subset hr)⟩

theorem QuotaUnit.find_none {q : QuotaUnit} {t : TrainKey} (h : q.find t = none) : ∀ r ∈ q.ledger, r.train ≠ t := by
  simpa [QuotaUnit.find, List.find?_eq_none] using h

theorem QuotaUnit.find_some {q : QuotaUnit} {t : TrainKey} {r : LedgerRecord} (h : q.find t = some r) :
    r ∈ q.ledger ∧ r.train = t :=
  ⟨List.mem_of_find?_eq_some h, by simpa using List.find?_some h⟩

/-- With one record for a train, the record found is every record of the train. -/
theorem QuotaUnit.eq_of_find {q : QuotaUnit} (nodup : (q.ledger.map LedgerRecord.train).Nodup) {t : TrainKey}
    {r x : LedgerRecord} (h : q.find t = some r) (hx : x ∈ q.ledger) (ht : x.train = t) : x = r := by
  obtain ⟨hr, rt⟩ := q.find_some h
  exact List.inj_on_of_nodup_map nodup hx hr (ht.trans rt.symm)

/-- A new record for a train without one (R113). -/
theorem QuotaUnit.Balanced.append {q : QuotaUnit} (k : q.Balanced) (t : TrainKey) (total share : Nat)
    (new : q.find t = none) (room : q.ledger.length < 32) (places : share ≤ 99) :
    { q with ledger := q.ledger ++ [LedgerRecord.fresh t total share] }.Balanced := by
  obtain ⟨size, nodup, each⟩ := k
  refine ⟨?_, ?_, ?_⟩
  · simp only [List.length_append, List.length_singleton]; omega
  · simp only [List.map_append, List.map_cons, List.map_nil]
    refine List.nodup_append.mpr ⟨nodup, by simp, ?_⟩
    rintro a ha b hb rfl
    obtain ⟨r, hr, rfl⟩ := List.mem_map.mp ha
    exact QuotaUnit.find_none new r hr (by simpa [LedgerRecord.fresh] using hb)
  · intro r hr
    rcases List.mem_append.mp hr with hr | hr
    · exact each r hr
    · rw [List.mem_singleton.mp hr]; exact LedgerRecord.fresh_balanced t total share places

/-- A share is no more than the quota total (R114). -/
theorem shareOf_le (total n i : Nat) : shareOf total n i ≤ total := by
  simp only [shareOf]
  rcases Nat.lt_or_ge n 2 with small | large
  · interval_cases n
    · simp only [Nat.div_zero, Nat.mod_zero]; split <;> omega
    · simp [Nat.mod_one]
  · have half : total / n ≤ total / 2 := Nat.div_le_div_left large (by omega)
    have mod := Nat.mod_le total n
    split <;> omega

theorem Part.newShare_le (p : Part) (total : Nat) : p.newShare total ≤ total := by
  simp only [Part.newShare]
  repeat' split
  · omega
  · exact shareOf_le ..
  · omega

end Sys2Proof.Machine
end

section
namespace Sys2Proof.Machine

/-! ### What an operation keeps -/

/-- The reserved places of the ledger are those of the issue in flight, whose train is sellable and has a record, and so
has every linked entry (R29, R89, R116): what `Part.ReservedAgrees` says of a part outside self-test. While a train is
`leaving` the list's sellable trains, the sales unit not yet told (R25), its issue may still be there. -/
structure Part.Reserving (p : Part) (leaving : Option TrainKey) : Prop where
  reserved : ∀ l ∈ p.quota.ledger, l.reserved = p.reservedFor l.train
  issue : ∀ i ∈ p.sales.issue, i.reserved ≤ i.needed
    ∧ ∃ k ∈ i.request.inputs.train, (leaving = some k ∨ p.trainSellable k = true) ∧ (p.quota.find k).isSome = true
  linked : ∀ e ∈ p.board.entries, e.linked = true → (p.quota.find e.train).isSome = true

/-- The laws that bind ledger, issue and list together. -/
structure Part.Sound (p : Part) : Prop where
  ledger : p.quota.Balanced
  board : p.board.Kept
  reserving : p.Reserving none

/-- Going from `p` to `q` keeps each store's own bounds, and neither enters nor leaves self-test. -/
structure Part.Bounds (p q : Part) : Prop where
  state : q.doze.state = .selfTest ↔ p.doze.state = .selfTest
  notices : p.QueueKept → q.QueueKept
  line : p.line.Kept → q.line.Kept
  board : p.board.Kept → q.board.Kept
  ledger : p.quota.Balanced → q.quota.Balanced

/-- Going from `p` to `q` keeps the stores' bounds, and the laws that bind ledger, issue and list together. -/
structure Part.Keeps (p q : Part) : Prop extends Part.Bounds p q where
  sound : p.Sound → q.Sound

/-- What the laws of the reserved places read of an issue. -/
def IssueRecord.account (i : IssueRecord) : Option TrainKey × Nat × Nat := (i.request.inputs.train, i.needed, i.reserved)

/-- What they read of the part: the ledger's reserved places, the issue, and the entries' links and states. -/
def Part.accounts (p : Part) :
    List (TrainKey × Nat) × Option (Option TrainKey × Nat × Nat) × List (TrainKey × Bool × EntryState) :=
  (p.quota.ledger.map (fun r => (r.train, r.reserved)), p.sales.issue.map IssueRecord.account,
    p.board.entries.map (fun e => (e.train, e.linked, e.state)))

/-- Going from `p` to `q` keeps the stores' bounds, and all that the laws of the reserved places read stands. -/
structure Part.Neutral (p q : Part) : Prop extends Part.Bounds p q where
  accounts : q.accounts = p.accounts

/-- A search by a key finds as much in two lists of one image. -/
theorem find?_map_key {α β κ : Type} [DecidableEq κ] (key : α → κ) (view : α → β) (viewKey : β → κ)
    (agree : ∀ x, viewKey (view x) = key x) (l : List α) (k : κ) :
    (l.find? (fun x => key x = k)).map view = (l.map view).find? (fun y => viewKey y = k) := by
  rw [List.find?_map]
  simp [agree]

theorem Part.stateOf_eq (p : Part) (t : TrainKey) :
    (p.board.find t).map Entry.state = ((p.board.entries.map (fun e => (e.train, e.linked, e.state))).find?
      (fun y => y.1 = t)).map (fun y => y.2.2) := by
  rw [← find?_map_key Entry.train _ Prod.fst (fun _ => rfl)]
  simp [DepartureList.find, Function.comp_def]

/-- A train is sold by the state of its entry. -/
theorem Part.trainSellable_eq (p : Part) (t : TrainKey) :
    p.trainSellable t = ((p.board.find t).map Entry.state).elim false (fun st => st = .listed || st = .due) := by
  simp only [Part.trainSellable]
  split <;> simp [*, Entry.sellable]

theorem QuotaUnit.isSome_find_eq (q : QuotaUnit) (t : TrainKey) :
    (q.find t).isSome = ((q.ledger.map (fun r => (r.train, r.reserved))).find? (fun y => y.1 = t)).isSome := by
  rw [← find?_map_key LedgerRecord.train _ Prod.fst (fun _ => rfl)]
  simp [QuotaUnit.find]

theorem Part.reservedFor_eq (p : Part) (t : TrainKey) :
    p.reservedFor t = ((p.sales.issue.map IssueRecord.account).elim 0 (fun a => if a.1 = some t then a.2.2 else 0)) := by
  simp only [Part.reservedFor, SalesUnit.issueFor]
  cases p.sales.issue with
  | none => rfl
  | some i => by_cases h : i.request.inputs.train = some t <;> simp [IssueRecord.account, h]

/-- The law of the reserved places stands while what it reads stands. -/
theorem Part.Reserving.congr {p q : Part} {t : Option TrainKey} (k : p.Reserving t) (same : q.accounts = p.accounts) :
    q.Reserving t := by
  simp only [Part.accounts, Prod.mk.injEq] at same
  obtain ⟨ledger, issue, entries⟩ := same
  have sellable : ∀ t, q.trainSellable t = p.trainSellable t := fun t => by
    rw [q.trainSellable_eq, p.trainSellable_eq, q.stateOf_eq, p.stateOf_eq, entries]
  have isSome : ∀ t, (q.quota.find t).isSome = (p.quota.find t).isSome := fun t => by
    rw [q.quota.isSome_find_eq, p.quota.isSome_find_eq, ledger]
  have reservedFor : ∀ t, q.reservedFor t = p.reservedFor t := fun t => by
    rw [q.reservedFor_eq, p.reservedFor_eq, issue]
  refine ⟨fun l hl => ?_, fun i hi => ?_, fun e he hlink => ?_⟩
  · have := List.mem_map_of_mem (f := fun r : LedgerRecord => (r.train, r.reserved)) hl
    rw [ledger] at this
    obtain ⟨l', hl', same⟩ := List.mem_map.mp this
    simp only [Prod.mk.injEq] at same
    rw [reservedFor, ← same.1, ← same.2]
    exact k.reserved l' hl'
  · rw [Option.mem_def.mp hi] at issue
    obtain ⟨j, hj, same⟩ := Option.map_eq_some_iff.mp issue.symm
    simp only [IssueRecord.account, Prod.mk.injEq] at same
    obtain ⟨le, t, ht, sell, some⟩ := k.issue j hj
    rw [← same.1, ← same.2.1, ← same.2.2]
    exact ⟨le, t, ht, by rwa [sellable], by rwa [isSome]⟩
  · have := List.mem_map_of_mem (f := fun e : Entry => (e.train, e.linked, e.state)) he
    rw [entries] at this
    obtain ⟨e', he', same⟩ := List.mem_map.mp this
    simp only [Prod.mk.injEq] at same
    rw [isSome, ← same.1]
    exact k.linked e' he' (same.2.1.trans hlink)

theorem Part.Bounds.refl (p : Part) : p.Bounds p := ⟨Iff.rfl, id, id, id, id⟩

theorem Part.Bounds.trans {p q r : Part} (a : p.Bounds q) (b : q.Bounds r) : p.Bounds r :=
  ⟨b.state.trans a.state, b.notices ∘ a.notices, b.line ∘ a.line, b.board ∘ a.board, b.ledger ∘ a.ledger⟩

theorem Part.Keeps.refl (p : Part) : p.Keeps p := ⟨.refl p, id⟩

theorem Part.Keeps.trans {p q r : Part} (a : p.Keeps q) (b : q.Keeps r) : p.Keeps r :=
  ⟨a.toBounds.trans b.toBounds, b.sound ∘ a.sound⟩

theorem Part.Neutral.refl (p : Part) : p.Neutral p := ⟨.refl p, rfl⟩

theorem Part.Neutral.trans {p q r : Part} (a : p.Neutral q) (b : q.Neutral r) : p.Neutral r :=
  ⟨a.toBounds.trans b.toBounds, b.accounts.trans a.accounts⟩

theorem Part.Neutral.reserving {p q : Part} (n : p.Neutral q) {t : Option TrainKey} (k : p.Reserving t) : q.Reserving t :=
  k.congr n.accounts

/-- A neutral operation leaves every entry's state. -/
theorem Part.Neutral.stateOf {p q : Part} (n : p.Neutral q) (t : TrainKey) :
    (q.board.find t).map Entry.state = (p.board.find t).map Entry.state := by
  have entries := congrArg (fun x => x.2.2) n.accounts
  simp only [Part.accounts] at entries
  rw [q.stateOf_eq, p.stateOf_eq, entries]

theorem Part.Neutral.keeps {p q : Part} (n : p.Neutral q) : p.Keeps q :=
  ⟨n.toBounds, fun s => ⟨n.ledger s.ledger, n.board s.board, n.reserving s.reserving⟩⟩

/-- Bounds kept by an operation on the notice queue and whatever has no bounds. -/
theorem Part.Bounds.of_queue {p q : Part} (queue : p.QueueKept → q.QueueKept)
    (rest : (q.doze.state = .selfTest ↔ p.doze.state = .selfTest) ∧ q.line = p.line ∧ q.board.entries = p.board.entries
      ∧ q.quota.ledger = p.quota.ledger) : p.Bounds q := by
  obtain ⟨state, line, board, ledger⟩ := rest
  exact ⟨state, queue, by rw [line]; exact id, by simp only [DepartureList.Kept, board]; exact id,
    by simp only [QuotaUnit.Balanced, ledger]; exact id⟩

theorem Part.Neutral.of_queue {p q : Part} (queue : p.QueueKept → q.QueueKept)
    (rest : (q.doze.state = .selfTest ↔ p.doze.state = .selfTest) ∧ q.line = p.line ∧ q.board.entries = p.board.entries
      ∧ q.quota.ledger = p.quota.ledger) (issue : q.sales.issue = p.sales.issue) : p.Neutral q :=
  ⟨.of_queue queue rest, by simp only [Part.accounts, rest, issue]⟩

/-- Bounds kept where no store that has bounds is touched. -/
theorem Part.Bounds.of_same {p q : Part}
    (same : q.notices = p.notices ∧ q.doze.state = p.doze.state ∧ q.line = p.line ∧ q.board.entries = p.board.entries
      ∧ q.quota.ledger = p.quota.ledger) : p.Bounds q := by
  obtain ⟨notices, state, rest⟩ := same
  exact .of_queue (fun k => k.congr notices state) ⟨by rw [state], rest⟩

theorem Part.Neutral.of_same {p q : Part}
    (same : q.notices = p.notices ∧ q.doze.state = p.doze.state ∧ q.line = p.line ∧ q.board.entries = p.board.entries
      ∧ q.quota.ledger = p.quota.ledger) (issue : q.sales.issue = p.sales.issue) : p.Neutral q :=
  ⟨.of_same same, by simp only [Part.accounts, same, issue]⟩

/-- Bounds kept by an operation on the transmit store alone. -/
theorem Part.Neutral.of_line {p q : Part} (line : p.line.Kept → q.line.Kept)
    (rest : q.notices = p.notices ∧ q.doze.state = p.doze.state ∧ q.board = p.board ∧ q.quota = p.quota
      ∧ q.sales = p.sales) : p.Neutral q := by
  obtain ⟨notices, state, board, quota, sales⟩ := rest
  exact ⟨⟨by rw [state], fun k => k.congr notices state, line, by rw [board]; exact id, by rw [quota]; exact id⟩,
    by simp only [Part.accounts, board, quota, sales]⟩

/-- Bounds kept by an operation on the entries that leaves their trains as they stand. -/
theorem Part.Bounds.of_entries {p q : Part}
    (trains : q.board.entries.map Entry.train = p.board.entries.map Entry.train)
    (rest : q.notices = p.notices ∧ q.doze.state = p.doze.state ∧ q.line = p.line ∧ q.quota = p.quota) :
    p.Bounds q := by
  obtain ⟨notices, state, line, quota⟩ := rest
  refine ⟨by rw [state], fun k => k.congr notices state, by rw [line]; exact id, fun k => ⟨?_, by rw [trains]; exact k.2⟩,
    by rw [quota]; exact id⟩
  have := congrArg List.length trains
  simp only [List.length_map] at this
  rw [this]; exact k.1

/-- Bounds kept by an operation on the ledger's records. -/
theorem Part.Bounds.of_ledger {p q : Part} (ledger : p.quota.Balanced → q.quota.Balanced)
    (rest : q.notices = p.notices ∧ q.doze.state = p.doze.state ∧ q.line = p.line ∧ q.board = p.board) :
    p.Bounds q := by
  obtain ⟨notices, state, line, board⟩ := rest
  exact ⟨by rw [state], fun k => k.congr notices state, by rw [line]; exact id, by rw [board]; exact id, ledger⟩

/-- A record's move that keeps its train and its law. -/
structure LedgerRecord.Move (f : LedgerRecord → LedgerRecord) : Prop where
  train : ∀ r, (f r).train = r.train
  law : ∀ r, r.Balanced → (f r).Balanced

/-- Bounds kept by a move on a train's record. -/
theorem Part.moveOn_bounds (p : Part) (t : Option TrainKey) (f : LedgerRecord → LedgerRecord)
    (move : LedgerRecord.Move f) : p.Bounds (p.moveOn t f) := by
  cases t with
  | none => exact .refl p
  | some t =>
    exact .of_ledger (fun k => k.modify t f move.train (fun r _ _ => move.law r)) (by simp)

/-- A move that leaves the reserved places alone. -/
structure LedgerRecord.NeutralMove (f : LedgerRecord → LedgerRecord) : Prop extends LedgerRecord.Move f where
  reserved : ∀ r, (f r).reserved = r.reserved

theorem Part.moveOn_neutral (p : Part) (t : Option TrainKey) (f : LedgerRecord → LedgerRecord)
    (move : LedgerRecord.NeutralMove f) : p.Neutral (p.moveOn t f) := by
  refine ⟨p.moveOn_bounds t f move.toMove, ?_⟩
  cases t with
  | none => rfl
  | some t =>
    simp only [Part.accounts, Part.moveOn, QuotaUnit.modify, List.map_map, Prod.mk.injEq, and_true]
    apply List.map_congr_left
    intro r _
    simp only [Function.comp]
    split <;> simp [move.train, move.reserved]

/-- Entries of a train changed without train, link and state. -/
theorem Part.modifyEntry_neutral (p : Part) (t : TrainKey) (f : Entry → Entry)
    (same : ∀ e, (f e).train = e.train ∧ (f e).linked = e.linked ∧ (f e).state = e.state) :
    p.Neutral (p.modifyEntry t f) := by
  refine ⟨.of_entries (p.board.modify_trains t f (fun e => (same e).1)) (by simp), ?_⟩
  simp only [Part.accounts, Part.modifyEntry, DepartureList.modify, List.map_map, Prod.mk.injEq, true_and]
  apply List.map_congr_left
  intro e _
  simp only [Function.comp]
  split <;> simp [same]

/-! ### Notices and the page -/

theorem Part.note_neutral (p : Part) (n : Notice) : p.Neutral (p.note n) :=
  .of_queue (fun k => k.note n) (by simp) (by simp)

theorem Part.rebuild_neutral (p : Part) (pick : Nat → Nat → Nat) : p.Neutral (p.rebuild pick) :=
  .of_queue (fun k => k.rebuild pick) (by simp) (by simp)

theorem Part.boardChanged_neutral (p : Part) : p.Neutral p.boardChanged := by
  simp only [Part.boardChanged]
  split
  · exact p.rebuild_neutral _
  · exact .refl p

theorem Part.boardChangedIf_neutral (p : Part) (c : Bool) : p.Neutral (p.boardChangedIf c) := by
  simp only [Part.boardChangedIf]
  split
  · exact p.boardChanged_neutral
  · exact .refl p

theorem Part.startPages_neutral (p : Part) : p.Neutral p.startPages :=
  .of_queue (fun k => k.startPages) (by simp) (by simp)

theorem Part.wake_neutral (p : Part) (c : WakeCause) (dozing : p.doze.state = .dozing) : p.Neutral (p.wake c) :=
  .of_queue (fun k => k.wake c) (by simp [p.wake_state c, dozing]) (by simp)

theorem Part.post_neutral (p : Part) (n : Notice) : p.Neutral (p.post n) := by
  simp only [Part.post]
  split
  · exact p.note_neutral n
  · split
    · exact (p.note_neutral n).trans ((p.note n).wake_neutral _ ‹_›)
    · exact p.note_neutral n

/-! ### The transmit store -/

/-- A frame of the store is chosen: the bounds of the store stand. -/
theorem LineInterface.Kept.choosing {l l' : LineInterface} (k : l.Kept) {i : Nat} (mem : i ∈ l.slots.map Slot.id)
    (ids : l'.slots.map (fun s => (s.id, s.cls)) = l.slots.map (fun s => (s.id, s.cls)))
    (numbers : l'.nextSeq = l.nextSeq ∧ l'.nextFrame = l.nextFrame) (chosen : l'.tx.chosen = some i) : l'.Kept :=
  k.congr ids numbers.1 numbers.2 (by simpa [chosen] using mem)

theorem Part.runWait_neutral (p : Part) (sl : Slot) (w : Nat) (mem : sl.id ∈ p.line.slots.map Slot.id) :
    p.Neutral (p.runWait sl w) := by
  have ids := p.line.modify_ids sl.id (fun s => { s with wait := some w }) (fun _ => ⟨rfl, rfl⟩)
  refine .of_line (fun k => ?_) (by simp)
  simp only [Part.runWait]
  split <;> exact k.choosing mem ids ⟨rfl, rfl⟩ rfl

theorem Part.choose_neutral (p : Part) : p.Neutral p.choose := by
  simp only [Part.choose]
  split
  · exact .refl p
  · have mem := LineInterface.head?_mem ‹_›
    split
    · exact p.runWait_neutral _ _ mem
    · exact Part.Neutral.trans (q := { p with draws := p.draws + 1 }) (.of_same (by simp) rfl) (Part.runWait_neutral _ _ _ mem)

theorem Part.settleTransmitter_neutral (p : Part) : p.Neutral p.settleTransmitter := by
  simp only [Part.settleTransmitter]
  split
  · exact p.choose_neutral
  · exact .refl p

theorem Part.offer_neutral (p : Part) (c : FrameClass) (b : FrameBody) : p.Neutral (p.offer c b) := by
  simp only [Part.offer]
  split
  · refine Part.Neutral.trans ?_ (Part.settleTransmitter_neutral _)
    exact .of_line (fun k => p.line.push_kept c b k ‹_›) (by simp)
  · exact .of_line id (by simp)

theorem Part.withdraw_neutral (p : Part) (ids : List Nat) : p.Neutral (p.withdraw ids) := by
  have dropped : ∀ ids, p.Neutral { p with line := p.line.drop ids } :=
    fun ids => .of_line (fun k => p.line.drop_kept ids k) (by simp)
  simp only [Part.withdraw]
  split
  · exact (dropped _).trans (Part.settleTransmitter_neutral _)
  · exact dropped _

theorem Part.reduceGrant_neutral (p : Part) (id count : Nat) : p.Neutral (p.reduceGrant id count) := by
  refine .of_line (fun k => ?_) (by simp)
  simp only [Part.reduceGrant]
  split
  · exact k
  · exact k.congr (p.line.modify_ids id _ (fun s => by split <;> exact ⟨rfl, rfl⟩)) rfl rfl k.chosen

end Sys2Proof.Machine
end

section
namespace Sys2Proof.Machine

/-! ### The moves of a record that leave its reserved places alone -/

namespace LedgerRecord

theorem unsell_move (k : Nat) (toHeld : Bool) : NeutralMove (fun r => r.unsell k toHeld) where
  train r := by simp only [unsell]; split <;> rfl
  law r h := r.unsell_balanced k toHeld h
  reserved r := by simp only [unsell]; split <;> rfl

theorem grantSent_move (frame deadline : Nat) : NeutralMove (fun r => r.grantSent frame deadline) where
  train r := by simp only [grantSent]; split <;> rfl
  law r h := r.grantSent_balanced frame deadline h
  reserved r := by simp only [grantSent]; split <;> rfl

theorem grantGivenUp_move (frame : Nat) : NeutralMove (fun r => r.grantGivenUp frame) where
  train r := by simp only [grantGivenUp]; split <;> rfl
  law r h := r.grantGivenUp_balanced frame h
  reserved r := by simp only [grantGivenUp]; split <;> rfl

theorem grantCollided_move (frame : Nat) : NeutralMove (fun r => r.grantCollided frame) where
  train _ := rfl
  law r h := r.grantCollided_balanced frame h
  reserved _ := rfl

theorem grantLapsed_move (frame : Nat) : NeutralMove (fun r => r.grantLapsed frame) where
  train r := by simp only [grantLapsed]; split <;> rfl
  law r h := r.grantLapsed_balanced frame h
  reserved r := by simp only [grantLapsed]; split <;> rfl

theorem cutGrant_move (frame left : Nat) (toHeld : Bool) : NeutralMove (fun r => r.cutGrant frame left toHeld) where
  train r := by simp only [cutGrant]; split <;> rfl
  law r h := r.cutGrant_balanced frame left toHeld h
  reserved r := by simp only [cutGrant]; split <;> rfl

theorem grantTaken_move (asker number count : Nat) : NeutralMove (fun r => r.grantTaken asker number count) where
  train r := by simp only [grantTaken]; (repeat' split) <;> rfl
  law r h := r.grantTaken_balanced asker number count h
  reserved r := by simp only [grantTaken]; (repeat' split) <;> rfl

theorem grantOverdue_move (asker number now : Nat) : NeutralMove (fun r => r.grantOverdue asker number now) where
  train r := by simp only [grantOverdue]; split <;> rfl
  law r h := r.grantOverdue_balanced asker number now h
  reserved r := by simp only [grantOverdue]; split <;> rfl

theorem peerGone_move (asker : Nat) : NeutralMove (fun r => r.peerGone asker) where
  train _ := rfl
  law r h := r.peerGone_balanced asker h
  reserved _ := rfl

theorem lapse_move (withdrawn : GrantRecord → Bool) : NeutralMove (fun r => r.lapse withdrawn) where
  train _ := rfl
  law r h := r.lapse_balanced withdrawn h
  reserved _ := rfl

theorem reserve_move (k : Nat) : Move (fun r => r.reserve k) where
  train _ := rfl
  law r h := r.reserve_balanced k h

/-- A move that leaves no place reserved. -/
structure ReleasingMove (f : LedgerRecord → LedgerRecord) : Prop extends Move f where
  released : ∀ r, (f r).reserved = 0

theorem returnReserved_move : ReleasingMove returnReserved where
  train _ := rfl
  law r h := r.returnReserved_balanced h
  released _ := rfl

theorem lapseReserved_move : ReleasingMove lapseReserved where
  train _ := rfl
  law r h := r.lapseReserved_balanced h
  released _ := rfl

theorem sellReserved_move : ReleasingMove sellReserved where
  train _ := rfl
  law r h := r.sellReserved_balanced h
  released _ := rfl

/-- Room made for a grant record leaves the reserved places alone (R123). -/
theorem makeRoom_reserved {r r' : LedgerRecord} (h : r.makeRoom = some r') : r'.reserved = r.reserved := by
  simp only [makeRoom] at h
  repeat' split at h
  · cases h; rfl
  · cases h
  · cases h; rfl

end LedgerRecord

/-! ### The quota unit, the issue in flight apart -/

/-- A change of the quota unit besides its ledger. -/
theorem Part.withQuota_neutral (p : Part) (q : QuotaUnit) (ledger : q.ledger = p.quota.ledger) :
    p.Neutral { p with quota := q } := .of_same (by simp [ledger]) rfl

/-- A change of the list besides its entries. -/
theorem Part.withBoard_neutral (p : Part) (b : DepartureList) (entries : b.entries = p.board.entries) :
    p.Neutral { p with board := b } := .of_same (by simp [entries]) rfl

/-- A change of the sales unit besides its issue. -/
theorem Part.withSales_neutral (p : Part) (s : SalesUnit) (issue : s.issue = p.sales.issue) :
    p.Neutral { p with sales := s } := .of_same (by simp) issue

theorem Part.ignoreGrant_neutral (p : Part) : p.Neutral p.ignoreGrant := p.withQuota_neutral _ rfl

theorem Part.unmatchedTaken_neutral (p : Part) : p.Neutral p.unmatchedTaken := p.withQuota_neutral _ rfl

theorem Part.expireWatch_neutral (p : Part) (asker number : Nat) : p.Neutral (p.expireWatch asker number) :=
  p.withQuota_neutral _ rfl

theorem Part.sendAsk_neutral (p : Part) (t : TrainKey) (wanted : Nat) : p.Neutral (p.sendAsk t wanted) := by
  simp only [Part.sendAsk]
  split
  · exact (p.offer_neutral _ _).trans (Part.withQuota_neutral _ _ rfl)
  · exact p.offer_neutral _ _

theorem Part.sendTaken_neutral (p : Part) (granter number : Nat) (t : TrainKey) (count : Nat) :
    p.Neutral (p.sendTaken granter number t count) := p.offer_neutral _ _

/-- The ledger's images under a change of one train's record. -/
theorem QuotaUnit.modify_map {β : Type} (q : QuotaUnit) (t : TrainKey) (f : LedgerRecord → LedgerRecord)
    (view : LedgerRecord → β) (same : ∀ r ∈ q.ledger, r.train = t → view (f r) = view r) :
    (q.modify t f).ledger.map view = q.ledger.map view := by
  simp only [QuotaUnit.modify, List.map_map]
  apply List.map_congr_left
  intro r hr
  simp only [Function.comp]
  split
  · exact same r hr ‹_›
  · rfl

/-- A GRANT's places taken into a record with room for them (R120). -/
theorem Part.acceptGrant_neutral (p : Part) (sender : Nat) (g : GrantPayload) (toHeld : Bool) (r : LedgerRecord)
    (found : p.quota.find g.train = some r) (room : r.share + r.received + g.count ≤ 99) :
    p.Neutral (p.acceptGrant sender g toHeld) := by
  have train : ∀ x : LedgerRecord, (x.receive g.count toHeld).train = x.train := by
    intro x; simp only [LedgerRecord.receive]; split <;> rfl
  have received : p.Neutral (p.moveOn (some g.train) (fun r => r.receive g.count toHeld)) := by
    refine ⟨.of_ledger (fun k => k.modify _ _ train fun x hx ht law => ?_) (by simp), ?_⟩
    · rw [QuotaUnit.eq_of_find k.2.1 found hx ht] at law ⊢
      exact r.receive_balanced _ _ law room
    · simp only [Part.accounts, Part.moveOn]
      rw [p.quota.modify_map]
      intro x _ _
      simp only [LedgerRecord.receive]; split <;> rfl
  refine received.trans (Part.Neutral.trans ?_ (Part.post_neutral _ _))
  exact Part.withQuota_neutral _ _ rfl

/-- A GRANT offered on a record with room for a grant of its size (R123). -/
theorem Part.offerGrant_neutral (p : Part) (asker number : Nat) (t : TrainKey) (g : Nat)
    (room : ∀ r ∈ p.quota.ledger, r.train = t → g ≤ r.held ∧ r.grants.length < 8) :
    p.Neutral (p.offerGrant asker number t g) := by
  simp only [Part.offerGrant]
  split
  · refine (p.offer_neutral _ _).trans ⟨.of_ledger (fun k => k.modify _ _ (fun _ => rfl) fun x hx ht law => ?_)
      (by simp), ?_⟩
    · obtain ⟨held, grants⟩ := room x (by simpa using hx) ht
      exact x.lend_balanced _ _ law rfl held grants
    · simp only [Part.accounts, Part.moveOn]
      rw [QuotaUnit.modify_map]
      intro x _ _
      rfl
  · exact p.offer_neutral _ _

theorem Part.decideGrant_neutral (p : Part) (asker number : Nat) (a : AskPayload) (law : p.quota.Balanced) :
    p.Neutral (p.decideGrant asker number a) := by
  simp only [Part.decideGrant]
  split
  · exact .refl p
  split
  · exact .refl p
  rename_i r found
  split
  · exact .refl p
  split
  · exact p.withQuota_neutral _ rfl
  rename_i roomy made
  have only : ∀ x ∈ p.quota.ledger, x.train = a.train → x = r := fun x hx ht => QuotaUnit.eq_of_find law.2.1 found hx ht
  obtain ⟨roomyLaw, grants, train, held⟩ :=
    r.makeRoom_balanced roomy (law.2.2 r (QuotaUnit.find_some found).1) made
  have ht : r.train = a.train := (QuotaUnit.find_some found).2
  have makeRoom : p.Neutral (p.moveOn (some a.train) (fun _ => roomy)) := by
    refine ⟨.of_ledger (fun k => k.map (fun x => if x.train = a.train then roomy else x) rfl ?_ ?_) (by simp), ?_⟩
    · intro x _; split <;> simp_all
    · intro x _ h; split
      · exact roomyLaw
      · exact h
    · simp only [Part.accounts, Part.moveOn]
      rw [QuotaUnit.modify_map]
      intro x hx h
      rw [only x hx h, train, LedgerRecord.makeRoom_reserved made]
  refine makeRoom.trans (Part.offerGrant_neutral _ _ _ _ _ fun x hx h => ?_)
  obtain ⟨y, hy, rfl⟩ := List.mem_map.mp hx
  have hy' : y.train = a.train := by
    by_contra other
    rw [if_neg other] at h
    exact other h
  rw [if_pos hy', held]
  exact ⟨by simp only [grantSize]; omega, grants⟩

/-- What an operation keeps that needs the ledger's law for the ledger alone. -/
theorem Part.Keeps.of_law {p q : Part} (rest : q.notices = p.notices ∧ q.doze.state = p.doze.state ∧ q.board = p.board)
    (line : p.line.Kept → q.line.Kept) (law : p.quota.Balanced → p.Neutral q) : p.Keeps q := by
  obtain ⟨notices, state, board⟩ := rest
  exact ⟨⟨by rw [state], fun k => k.congr notices state, line, by rw [board]; exact id, fun k => (law k).ledger k⟩,
    fun s => (law s.ledger).keeps.sound s⟩

theorem Part.offerGrant_line (p : Part) (asker number : Nat) (t : TrainKey) (g : Nat) :
    (p.offerGrant asker number t g).line = (p.offer .urgent (.grant ⟨asker, number, t, g⟩)).line := by
  simp only [Part.offerGrant]
  split <;> simp

theorem Part.decideGrant_keeps (p : Part) (asker number : Nat) (a : AskPayload) :
    p.Keeps (p.decideGrant asker number a) := by
  refine .of_law (by simp) (fun k => ?_) (p.decideGrant_neutral asker number a)
  simp only [Part.decideGrant]
  (repeat' split) <;> first | exact k | skip
  rw [Part.offerGrant_line]
  exact (Part.offer_neutral _ _ _).line (by simpa using k)

theorem Part.hearAsk_keeps (p : Part) (sender number : Nat) (a : AskPayload) : p.Keeps (p.hearAsk sender number a) := by
  simp only [Part.hearAsk]
  split
  · exact .refl p
  split
  · exact .refl p
  · refine Part.Keeps.trans ?_ (Part.decideGrant_keeps _ _ _ _)
    exact Part.Neutral.keeps (p.withQuota_neutral _ rfl)

theorem Part.cutFrame_neutral (p : Part) (frame left : Nat) : p.Neutral (p.cutFrame frame left) := by
  simp only [Part.cutFrame]
  split
  · exact p.withdraw_neutral _
  · exact p.reduceGrant_neutral _ _

theorem Part.hearTaken_neutral (p : Part) (sender : Nat) (t : TakenPayload) : p.Neutral (p.hearTaken sender t) := by
  simp only [Part.hearTaken]
  split
  · exact .refl p
  split
  · exact p.unmatchedTaken_neutral
  split
  · exact p.unmatchedTaken_neutral
  · exact (p.moveOn_neutral _ _ (LedgerRecord.grantTaken_move _ _ _)).trans (Part.withdraw_neutral _ _)

theorem Part.grantSent_neutral (p : Part) (frame : Nat) : p.Neutral (p.grantSent frame) := by
  simp only [Part.grantSent]
  split
  · exact .refl p
  · exact (p.moveOn_neutral _ _ (LedgerRecord.grantSent_move _ _)).trans (Part.post_neutral _ _)

theorem Part.grantGivenUp_neutral (p : Part) (frame : Nat) : p.Neutral (p.grantGivenUp frame) := by
  simp only [Part.grantGivenUp]
  split
  · exact .refl p
  split
  · exact (p.moveOn_neutral _ _ (LedgerRecord.grantGivenUp_move _)).trans (Part.post_neutral _ _)
  · exact p.moveOn_neutral _ _ (LedgerRecord.grantLapsed_move _)

theorem Part.grantCut_neutral (p : Part) (frame : Nat) : p.Neutral (p.grantCut frame) := by
  simp only [Part.grantCut]
  split
  · exact .refl p
  split
  · exact p.moveOn_neutral _ _ (LedgerRecord.grantCollided_move _)
  · exact (p.moveOn_neutral _ _ (LedgerRecord.grantLapsed_move _)).trans (Part.withdraw_neutral _ _)

theorem Part.grantOverdue_neutral (p : Part) (t : TrainKey) (asker number : Nat) :
    p.Neutral (p.grantOverdue t asker number) := by
  simp only [Part.grantOverdue]
  split
  · exact .refl p
  split
  · exact .refl p
  · exact (p.moveOn_neutral _ _ (LedgerRecord.grantOverdue_move _ _ _)).trans (Part.post_neutral _ _)

/-- A fold whose every step is neutral. -/
theorem Part.Neutral.foldl {α : Type} (f : Part → α → Part) (step : ∀ (p : Part) x, p.Neutral (f p x)) (l : List α) (p : Part) :
    p.Neutral (l.foldl f p) := by
  induction l generalizing p with
  | nil => exact .refl p
  | cons x xs ih => exact (step p x).trans (ih (f p x))

theorem Part.quotaPeerGone_neutral (p : Part) (asker : Nat) : p.Neutral (p.quotaPeerGone asker) := by
  have move := LedgerRecord.peerGone_move asker
  have gone : p.Neutral
      { p with quota := { p.quota with ledger := p.quota.ledger.map (fun r => r.peerGone asker) } } := by
    refine ⟨.of_ledger (fun k => k.map _ rfl (fun r _ => move.train r) (fun r _ => move.law r)) (by simp), ?_⟩
    simp [Part.accounts, move.train, move.reserved, Function.comp_def]
  exact gone.trans (.foldl _ (fun q r => Part.post_neutral _ _) _ _)

theorem Part.lapseTrain_neutral (p : Part) (t : TrainKey) : p.Neutral (p.lapseTrain t) := by
  simp only [Part.lapseTrain]
  split
  · exact .refl p
  · have lapsed := fun move ids => (p.moveOn_neutral (some t) _ (LedgerRecord.lapse_move move)).trans
      (Part.withdraw_neutral _ ids)
    split
    · exact lapsed _ _
    · exact (lapsed _ _).trans (Part.post_neutral _ _)

/-! ### The journal -/

theorem Part.write_neutral (p : Part) (n : Nat) (body : JournalBody) : p.Neutral (p.write n body) :=
  p.withSales_neutral _ rfl

theorem Part.computeFare_neutral (p : Part) (i : FareInputs) : p.Neutral (p.computeFare i).1 := .of_same (by simp) (by simp)

theorem Part.overrunOldest_neutral (p : Part) : p.Neutral p.overrunOldest := by
  simp only [Part.overrunOldest]
  split
  · exact .refl p
  · refine Part.Neutral.trans ?_ (Part.post_neutral _ _)
    exact p.withSales_neutral _ rfl

theorem Part.writeAlways_neutral (p : Part) (body : JournalBody) : p.Neutral (p.writeAlways body) := by
  simp only [Part.writeAlways]
  split
  · exact p.withSales_neutral _ rfl
  · refine Part.Neutral.trans ?_ (Part.write_neutral _ _ _)
    split
    · exact p.overrunOldest_neutral
    · exact .refl p

theorem Part.closeDay_neutral (p : Part) (old : Nat) : p.Neutral (p.closeDay old) := by
  simp only [Part.closeDay]
  split
  · exact .refl p
  · exact (p.writeAlways_neutral _).trans (Part.withSales_neutral _ _ rfl)

end Sys2Proof.Machine
end

section
namespace Sys2Proof.Machine

/-! ### The issue in flight (R88 to R98, R116) -/

/-- No issue is in flight, and no place reserved. -/
structure Part.Unreserved (p : Part) : Prop where
  issue : p.sales.issue = none
  reserved : ∀ l ∈ p.quota.ledger, l.reserved = 0

/-- Every reserved place is on the record of one train, if any. -/
def Part.ReservesFor (p : Part) (t : Option TrainKey) : Prop := ∀ l ∈ p.quota.ledger, l.reserved ≠ 0 → t = some l.train

/-- A search for a record finds one where the trains of the ledger are the same. -/
theorem QuotaUnit.isSome_find_congr {q q' : QuotaUnit}
    (trains : q'.ledger.map LedgerRecord.train = q.ledger.map LedgerRecord.train) (t : TrainKey) :
    (q'.find t).isSome = (q.find t).isSome := by
  have key : ∀ x : QuotaUnit, (x.find t).isSome = decide (t ∈ x.ledger.map LedgerRecord.train) := by
    intro x
    rw [Bool.eq_iff_iff]
    simp [QuotaUnit.find, List.find?_isSome]
  rw [key, key, trains]

/-- With no place reserved and no issue, the links alone are left to hold. -/
theorem Part.Unreserved.reserving {p q : Part} {t : Option TrainKey} (u : q.Unreserved) (k : p.Reserving t)
    (trains : q.quota.ledger.map LedgerRecord.train = p.quota.ledger.map LedgerRecord.train)
    (entries : q.board.entries = p.board.entries) : q.Reserving none where
  reserved l hl := by rw [u.reserved l hl]; simp [Part.reservedFor, SalesUnit.issueFor, u.issue]
  issue i hi := by simp [u.issue] at hi
  linked e he link := by
    rw [QuotaUnit.isSome_find_congr trains]
    exact k.linked e (entries ▸ he) link

theorem SalesUnit.issueFor_eq_some {s : SalesUnit} {t : TrainKey} {i : IssueRecord} (h : s.issueFor t = some i) :
    s.issue = some i ∧ i.request.inputs.train = some t := by
  simp only [SalesUnit.issueFor] at h
  split at h
  · cases h
  · split at h
    · cases h; exact ⟨‹_›, ‹_›⟩
    · cases h

/-- The reserved places are those of the issue, so they are on its train's record. -/
theorem Part.Reserving.reservesFor {p : Part} {t : Option TrainKey} (k : p.Reserving t) {i : IssueRecord}
    (h : p.sales.issue = some i) : p.ReservesFor i.request.inputs.train := by
  intro l hl some
  rw [k.reserved l hl] at some
  by_contra other
  exact some (by simp [Part.reservedFor, SalesUnit.issueFor, h, other])

/-- A move that releases a train's reserved places, where none is reserved for another, leaves none. -/
theorem Part.ReservesFor.moveOn {p : Part} {t : Option TrainKey} (k : p.ReservesFor t)
    {f : LedgerRecord → LedgerRecord} (move : LedgerRecord.ReleasingMove f) :
    ∀ l ∈ (p.moveOn t f).quota.ledger, l.reserved = 0 := by
  intro l hl
  cases t with
  | none => by_contra some; cases k l hl some
  | some t =>
    obtain ⟨r, hr, rfl⟩ := List.mem_map.mp hl
    split
    · exact move.released r
    · by_contra some
      exact absurd (k r hr some) (by simp; exact fun h => ‹¬r.train = t› h.symm)

@[simp] theorem Part.moveOn_trains (p : Part) (t : Option TrainKey) (f : LedgerRecord → LedgerRecord)
    (keeps : ∀ r, (f r).train = r.train) :
    (p.moveOn t f).quota.ledger.map LedgerRecord.train = p.quota.ledger.map LedgerRecord.train := by
  cases t with
  | none => rfl
  | some t => exact p.quota.modify_trains t f keeps

theorem Part.clearIssue_bounds (p : Part) : p.Bounds p.clearIssue := .of_same (by simp)

/-- The end of an issue by a move that releases its places (R92 to R94). -/
theorem Part.endIssue_bounds (p : Part) (i : IssueRecord) (code : ResultCode) (f : LedgerRecord → LedgerRecord)
    (move : LedgerRecord.Move f) : p.Bounds (p.endIssue i code f) :=
  ((p.moveOn_bounds _ _ move).trans (Part.clearIssue_bounds _)).trans (Part.post_neutral _ _).toBounds

theorem Part.endIssue_reserving {p : Part} {t : Option TrainKey} (k : p.Reserving t) {i : IssueRecord}
    (h : p.sales.issue = some i) (code : ResultCode) {f : LedgerRecord → LedgerRecord}
    (move : LedgerRecord.ReleasingMove f) : (p.endIssue i code f).Reserving none := by
  refine (Part.post_neutral _ _).reserving ?_
  refine Part.Unreserved.reserving ⟨rfl, ?_⟩ k ?_ (by simp)
  · simpa using (k.reservesFor h).moveOn move
  · simpa using Part.moveOn_trains _ _ _ move.train

theorem Part.endIssue_keeps (p : Part) {i : IssueRecord} (h : p.sales.issue = some i) (code : ResultCode)
    {f : LedgerRecord → LedgerRecord} (move : LedgerRecord.ReleasingMove f) : p.Keeps (p.endIssue i code f) := by
  have bounds := p.endIssue_bounds i code f move.toMove
  exact ⟨bounds, fun s => ⟨bounds.ledger s.ledger, bounds.board s.board, Part.endIssue_reserving s.reserving h code move⟩⟩

/-- The sales unit told that a train has left the sellable ones (R25, R94). -/
theorem Part.salesTrainLeft_bounds (p : Part) (t : TrainKey) (code : ResultCode) : p.Bounds (p.salesTrainLeft t code) := by
  simp only [Part.salesTrainLeft]
  split
  · exact .refl p
  · exact p.endIssue_bounds _ _ _ LedgerRecord.lapseReserved_move.toMove

theorem Part.salesTrainLeft_reserving {p : Part} {t : TrainKey} (k : p.Reserving (some t)) (code : ResultCode) :
    (p.salesTrainLeft t code).Reserving none := by
  simp only [Part.salesTrainLeft]
  split
  · rename_i notFor
    refine ⟨k.reserved, fun i hi => ?_, k.linked⟩
    obtain ⟨le, j, hj, sell, found⟩ := k.issue i hi
    refine ⟨le, j, hj, .inr ?_, found⟩
    rcases sell with same | sell
    · cases same
      simp [SalesUnit.issueFor, Option.mem_def.mp hi, Option.mem_def.mp hj] at notFor
    · exact sell
  · exact Part.endIssue_reserving k (SalesUnit.issueFor_eq_some ‹_›).1 _ LedgerRecord.lapseReserved_move

/-! ### Commit (R96, R97) -/

/-- What a commit leaves, sold or refused: no issue, and its train's places released. -/
structure Part.Released (p q : Part) : Prop where
  bounds : p.Bounds q
  issue : q.sales.issue = none
  trains : q.quota.ledger.map LedgerRecord.train = p.quota.ledger.map LedgerRecord.train
  board : q.board = p.board

theorem Part.release (p : Part) (t : Option TrainKey) {f : LedgerRecord → LedgerRecord} (move : LedgerRecord.Move f) :
    p.Released (p.moveOn t f).clearIssue where
  bounds := (p.moveOn_bounds t f move).trans (Part.clearIssue_bounds _)
  issue := rfl
  trains := by simpa using p.moveOn_trains t f move.train
  board := by simp

theorem Part.completeSale_bounds (p : Part) (req : IssueRequest) (r : FareResult) (n : Nat) :
    p.Bounds (p.completeSale req r n) := by
  simp only [Part.completeSale]
  split
  · refine Part.Bounds.trans ?_ (Part.moveOn_bounds _ _ _ LedgerRecord.sellReserved_move.toMove)
    exact .of_same (by simp)
  · exact .of_same (by simp)

theorem Part.completeSale_issue (p : Part) (req : IssueRequest) (r : FareResult) (n : Nat) :
    (p.completeSale req r n).sales.issue = none := by
  simp only [Part.completeSale]
  split <;> simp

/-- A completed sale sells the reserved places of its train, if it needs places (R97). -/
theorem Part.completeSale_ledger (p : Part) (req : IssueRequest) (r : FareResult) (n : Nat) :
    (p.completeSale req r n).quota.ledger
      = if 0 < r.placesNeeded then (p.moveOn req.inputs.train LedgerRecord.sellReserved).quota.ledger
        else p.quota.ledger := by
  simp only [Part.completeSale]
  split
  · cases req.inputs.train <;> simp [Part.moveOn, QuotaUnit.modify]
  · simp

/-- A commit, however it ends. -/
theorem Part.commit_released (p : Part) (req : IssueRequest) (needed : Nat) :
    p.Released (p.commit req needed).1
      ∧ (p.ReservesFor req.inputs.train → (needed = 0 → ∀ l ∈ p.quota.ledger, l.reserved = 0) →
          (p.commit req needed).1.Unreserved) := by
  have fare := (p.computeFare_neutral req.inputs).toBounds
  have fareQuota : (p.computeFare req.inputs).1.quota = p.quota := by simp
  have back := (p.computeFare req.inputs).1.release req.inputs.train LedgerRecord.returnReserved_move.toMove
  have refused : ∀ q : Part, (p.computeFare req.inputs).1.Released q → p.Released q := fun q k =>
    ⟨fare.trans k.bounds, k.issue, by rw [k.trains, fareQuota], by rw [k.board]; simp⟩
  have returned : p.ReservesFor req.inputs.train →
      ((p.computeFare req.inputs).1.moveOn req.inputs.train LedgerRecord.returnReserved).clearIssue.Unreserved :=
    fun only => ⟨rfl, by
      have only' : (p.computeFare req.inputs).1.ReservesFor req.inputs.train := by
        simpa only [Part.ReservesFor, fareQuota] using only
      simpa using only'.moveOn LedgerRecord.returnReserved_move⟩
  simp only [Part.commit]
  split
  · exact ⟨p.release _ LedgerRecord.lapseReserved_move.toMove, fun only _ =>
      ⟨rfl, by simpa using only.moveOn LedgerRecord.lapseReserved_move⟩⟩
  split
  · exact ⟨refused _ back, fun only _ => returned only⟩
  rename_i r _
  split
  · exact ⟨refused _ back, fun only _ => returned only⟩
  rename_i agreed
  split
  · exact ⟨refused _ back, fun only _ => returned only⟩
  have issue := (p.computeFare req.inputs).1.completeSale_issue req r
  refine ⟨refused _ ⟨Part.completeSale_bounds _ _ _ _, issue _, ?_, by simp⟩, fun only zero => ⟨issue _, ?_⟩⟩
  · rw [Part.completeSale_ledger]
    split
    · exact Part.moveOn_trains _ _ _ (fun _ => rfl)
    · rfl
  · rw [Part.completeSale_ledger]
    split
    · have only' : (p.computeFare req.inputs).1.ReservesFor req.inputs.train := by
        simpa only [Part.ReservesFor, fareQuota] using only
      exact only'.moveOn LedgerRecord.sellReserved_move
    · rw [fareQuota]
      exact zero (by omega)

/-- A commit on a part without an issue in flight, or for it, leaves the laws standing. -/
theorem Part.commit_sound {p q : Part} (s : p.Sound) (req : IssueRequest) (needed : Nat) (law : q.quota.Balanced)
    (trains : q.quota.ledger.map LedgerRecord.train = p.quota.ledger.map LedgerRecord.train)
    (board : q.board = p.board) (only : q.ReservesFor req.inputs.train)
    (zero : needed = 0 → ∀ l ∈ q.quota.ledger, l.reserved = 0) : (q.commit req needed).1.Sound := by
  obtain ⟨released, unreserved⟩ := q.commit_released req needed
  refine ⟨released.bounds.ledger law, ?_, ?_⟩
  · rw [released.board, board]; exact s.board
  · exact (unreserved only zero).reserving s.reserving (released.trains.trans trains)
      (by rw [released.board, board])

/-! ### Top-up (R90, R116) -/

/-- What the issue in flight takes of the held places of its train: part and issue after the reservation. -/
def Part.toppedUp (p : Part) (t : TrainKey) (i : IssueRecord) : Part :=
  let k := min i.shortfall (p.quota.heldOf t)
  let q := p.moveOn (some t) (fun r => r.reserve k)
  { q with sales := { q.sales with issue := some { i with reserved := i.reserved + k } } }

theorem Part.toppedUp_bounds (p : Part) (t : TrainKey) (i : IssueRecord) : p.Bounds (p.toppedUp t i) :=
  (p.moveOn_bounds _ _ (LedgerRecord.reserve_move _)).trans (.of_same ⟨rfl, rfl, rfl, rfl, rfl⟩)

/-- The places reserved on the record are those the issue has taken. -/
theorem Part.toppedUp_sound {p : Part} (s : p.Sound) {t : TrainKey} {i : IssueRecord} (h : p.sales.issueFor t = some i) :
    (p.toppedUp t i).Sound := by
  obtain ⟨issue, train⟩ := SalesUnit.issueFor_eq_some h
  have bounds := p.toppedUp_bounds t i
  have trains : (p.toppedUp t i).quota.ledger.map LedgerRecord.train = p.quota.ledger.map LedgerRecord.train :=
    Part.moveOn_trains _ _ _ (fun _ => rfl)
  have board : (p.toppedUp t i).board = p.board := by simp [Part.toppedUp]
  obtain ⟨le, k, hk, sell, found⟩ := s.reserving.issue i issue
  have kt : k = t := by simpa [train] using hk.symm
  refine ⟨bounds.ledger s.ledger, bounds.board s.board, ⟨fun l hl => ?_, fun j hj => ?_, fun e he link => ?_⟩⟩
  · obtain ⟨r, hr, rfl⟩ := List.mem_map.mp hl
    have before := s.reserving.reserved r hr
    simp only [Part.reservedFor, SalesUnit.issueFor, issue, train] at before
    simp only [Part.reservedFor, SalesUnit.issueFor, Part.toppedUp, train]
    by_cases ht : r.train = t
    · have held : p.quota.heldOf t = r.held := by
        obtain ⟨x, hx⟩ := Option.isSome_iff_exists.mp (kt ▸ found)
        rw [QuotaUnit.eq_of_find s.ledger.2.1 hx hr ht]
        simp [QuotaUnit.heldOf, hx]
      simp only [ht, if_true, LedgerRecord.reserve, held] at before ⊢
      simp only [before]
      omega
    · simp only [ht, if_false, Option.some.injEq, Ne.symm ht] at before ⊢
      exact before
  · simp only [Part.toppedUp, Option.mem_def, Option.some.injEq] at hj
    subst hj
    refine ⟨by simp only [IssueRecord.shortfall]; omega, k, hk, ?_, ?_⟩
    · simpa [Part.trainSellable, board] using sell
    · rw [QuotaUnit.isSome_find_congr trains]; exact found
  · rw [QuotaUnit.isSome_find_congr trains]
    exact s.reserving.linked e (board ▸ he) link

/-- A top-up takes what it can, and commits when nothing is lacking. -/
theorem Part.topUp_eq {p : Part} {t : TrainKey} {i : IssueRecord} (h : p.sales.issueFor t = some i) :
    p.topUp t =
      (let q := p.toppedUp t i
       if i.shortfall ≤ p.quota.heldOf t then
         (q.commit i.request i.needed).1.post (commitNotice i.request (q.commit i.request i.needed).2)
       else q) := by
  have lacking : ∀ k, ({ i with reserved := i.reserved + min i.shortfall k } : IssueRecord).shortfall = 0
      ↔ i.shortfall ≤ k := by
    intro k; simp only [IssueRecord.shortfall]; omega
  simp only [Part.topUp, h, lacking, Part.toppedUp]

theorem Part.topUp_keeps (p : Part) (t : TrainKey) : p.Keeps (p.topUp t) := by
  cases h : p.sales.issueFor t with
  | none => simp only [Part.topUp, h]; exact .refl p
  | some i =>
    rw [Part.topUp_eq h]
    have bounds := p.toppedUp_bounds t i
    dsimp only
    split
    · refine Part.Keeps.trans (q := ((p.toppedUp t i).commit i.request i.needed).1) ?_ (Part.post_neutral _ _).keeps
      refine ⟨bounds.trans (Part.commit_released _ _ _).1.bounds, fun s => ?_⟩
      have sound := Part.toppedUp_sound s h
      refine Part.commit_sound sound _ _ sound.ledger rfl rfl ?_ ?_
      · exact sound.reserving.reservesFor
          (i := { i with reserved := i.reserved + min i.shortfall (p.quota.heldOf t) }) rfl
      · intro none l hl
        have le := (sound.reserving.issue _ rfl).1
        have placed := sound.reserving.reserved l hl
        simp only at le
        simp only [Part.reservedFor, SalesUnit.issueFor, Part.toppedUp] at placed
        split at placed
        · exact placed
        · rename_i j hj
          split at hj
          · simp only [Option.some.injEq] at hj; subst hj; simp only at placed; omega
          · cases hj
    · exact ⟨bounds, fun s => Part.toppedUp_sound s h⟩

end Sys2Proof.Machine
end

section
namespace Sys2Proof.Machine

/-! ### GRANTs heard (R120, R124) -/

theorem Part.takeGrant_keeps (p : Part) (sender : Nat) (g : GrantPayload) : p.Keeps (p.takeGrant sender g) := by
  simp only [Part.takeGrant]
  split
  · exact p.ignoreGrant_neutral.keeps
  split
  · exact (p.sendTaken_neutral _ _ _ _).keeps
  split
  · exact p.ignoreGrant_neutral.keeps
  split
  · exact p.ignoreGrant_neutral.keeps
  rename_i r found
  split
  · exact p.ignoreGrant_neutral.keeps
  refine Part.Keeps.trans ?_ (Part.sendTaken_neutral _ _ _ _ _).keeps
  have accepted := (p.acceptGrant_neutral sender g (p.trainSellable g.train) r found (by omega)).keeps
  split
  · exact accepted.trans (Part.topUp_keeps _ _)
  · exact accepted

theorem Part.cutOwnGrant_keeps (p : Part) (t : TrainKey) (asker number left : Nat) :
    p.Keeps (p.cutOwnGrant t asker number left) := by
  simp only [Part.cutOwnGrant]
  split
  · exact .refl p
  split
  · exact .refl p
  split
  · exact .refl p
  have cut := fun frame =>
    ((p.moveOn_neutral (some t) _ (LedgerRecord.cutGrant_move frame left (p.trainSellable t))).trans
      (Part.cutFrame_neutral _ frame left)).keeps
  split
  · exact (cut _).trans (Part.topUp_keeps _ _)
  · exact cut _

theorem Part.overhearGrant_keeps (p : Part) (sender : Nat) (g : GrantPayload) : p.Keeps (p.overhearGrant sender g) := by
  simp only [Part.overhearGrant]
  split
  · exact .refl p
  split
  · exact .refl p
  · refine Part.Keeps.trans ?_ (Part.cutOwnGrant_keeps _ _ _ _ _)
    exact Part.Neutral.keeps (p.withQuota_neutral _ rfl)

theorem Part.hearGrant_keeps (p : Part) (sender : Nat) (g : GrantPayload) : p.Keeps (p.hearGrant sender g) := by
  simp only [Part.hearGrant]
  split
  · exact p.takeGrant_keeps _ _
  · exact p.overhearGrant_keeps _ _

/-! ### Entries that come and change (R20, R29) -/

/-- A train may be leaving without having left. -/
theorem Part.Reserving.leave {p : Part} (k : p.Reserving none) (t : TrainKey) : p.Reserving (some t) where
  reserved := k.reserved
  issue i hi := by
    obtain ⟨le, j, hj, sell, found⟩ := k.issue i hi
    exact ⟨le, j, hj, .inr (sell.resolve_left (by simp)), found⟩
  linked := k.linked

/-- The entries of a train that is leaving may change their state (R24, R25). -/
theorem Part.Reserving.modifyEntry {p : Part} {t : TrainKey} (k : p.Reserving (some t)) (f : Entry → Entry)
    (same : ∀ e, (f e).train = e.train ∧ (f e).linked = e.linked) : (p.modifyEntry t f).Reserving (some t) where
  reserved := k.reserved
  issue i hi := by
    obtain ⟨le, j, hj, sell, found⟩ := k.issue i hi
    refine ⟨le, j, hj, ?_, found⟩
    by_cases other : j = t
    · exact .inl (by rw [other])
    · have kept := p.board.find_modify_other j t f (fun e => (same e).1) other
      exact .inr (by simpa [Part.trainSellable, kept, Ne.symm other] using sell)
  linked e he link := by
    obtain ⟨x, hx, rfl⟩ := List.mem_map.mp he
    have kept : (if x.train = t then f x else x).train = x.train
        ∧ (if x.train = t then f x else x).linked = x.linked := by
      split
      · exact same x
      · exact ⟨rfl, rfl⟩
    rw [kept.1]
    exact k.linked x hx (kept.2 ▸ link)

theorem Part.modifyEntry_bounds (p : Part) (t : TrainKey) (f : Entry → Entry) (same : ∀ e, (f e).train = e.train) :
    p.Bounds (p.modifyEntry t f) :=
  .of_entries (p.board.modify_trains t f same) (by simp)

/-- Once no issue names the train that was leaving, or the train is sold, the laws hold without exception. -/
theorem Part.Reserving.returned {p : Part} {t : TrainKey} (k : p.Reserving (some t))
    (sold : p.sales.issueFor t ≠ none → p.trainSellable t = true) : p.Reserving none where
  reserved := k.reserved
  issue i hi := by
    obtain ⟨le, j, hj, sell, found⟩ := k.issue i hi
    refine ⟨le, j, hj, .inr ?_, found⟩
    rcases sell with same | sell
    · cases same
      exact sold (by simp [SalesUnit.issueFor, Option.mem_def.mp hi, Option.mem_def.mp hj])
    · exact sell
  linked := k.linked

/-! ### Reports (R25) -/

theorem Part.reportLeft_bounds (p : Part) (e : Entry) (code : ResultCode) : p.Bounds (p.reportLeft e code) := by
  simp only [Part.reportLeft]
  refine Part.Bounds.trans ?_ (Part.salesTrainLeft_bounds _ _ _)
  split
  · exact (p.lapseTrain_neutral _).toBounds
  · exact .refl p

theorem Part.reportLeft_reserving {p : Part} {e : Entry} (k : p.Reserving (some e.train)) (code : ResultCode) :
    (p.reportLeft e code).Reserving none := by
  simp only [Part.reportLeft]
  refine Part.salesTrainLeft_reserving ?_ _
  split
  · exact (p.lapseTrain_neutral _).reserving k
  · exact k

/-- An entry that changes its state and is reported keeps the laws. -/
theorem Part.leaving_keeps (p : Part) (e : Entry) (f : Entry → Entry) (code : ResultCode)
    (same : ∀ e, (f e).train = e.train ∧ (f e).linked = e.linked) :
    p.Keeps ((p.modifyEntry e.train f).reportLeft e code) := by
  have bounds := (p.modifyEntry_bounds e.train f (fun e => (same e).1)).trans (Part.reportLeft_bounds _ e code)
  exact ⟨bounds, fun s => ⟨bounds.ledger s.ledger, bounds.board s.board,
    Part.reportLeft_reserving ((s.reserving.leave _).modifyEntry f same) code⟩⟩

theorem Part.enterGone_keeps (p : Part) (e : Entry) : p.Keeps (p.enterGone e) :=
  p.leaving_keeps e _ _ (fun _ => ⟨rfl, rfl⟩)

theorem Part.enterCancelled_keeps (p : Part) (e : Entry) : p.Keeps (p.enterCancelled e) :=
  p.leaving_keeps e _ _ (fun _ => ⟨rfl, rfl⟩)

/-- Evaluation that changes the state without GONE stays within LISTED and DUE (R23, R24). -/
theorem Entry.judged_sellable {e : Entry} {now : Nat} (changed : e.judged now ≠ e.state) (here : e.judged now ≠ .gone) :
    (e.judged now = .listed ∨ e.judged now = .due) := by
  revert changed here
  simp only [Entry.judged]
  cases e.state <;> simp only <;> (repeat' split) <;> simp

theorem Part.evaluateEntry_keeps (p : Part) (e : Entry) (now : Nat) (tell : Bool) :
    p.Keeps (p.evaluateEntry e now tell).1 := by
  simp only [Part.evaluateEntry]
  split
  · exact .refl p
  split
  · split
    · exact (p.enterGone_keeps e).trans (Part.post_neutral _ _).keeps
    · exact p.enterGone_keeps e
  rename_i changed here
  have bounds := p.modifyEntry_bounds e.train (fun x => { x with state := e.judged now }) (fun _ => rfl)
  refine ⟨bounds, fun s => ⟨bounds.ledger s.ledger, bounds.board s.board, ?_⟩⟩
  refine Part.Reserving.returned (t := e.train) ?_ fun some => ?_
  · exact (s.reserving.leave _).modifyEntry _ (fun _ => ⟨rfl, rfl⟩)
  have sellable : p.trainSellable e.train = true := by
    obtain ⟨i, hi⟩ := Option.ne_none_iff_exists'.mp some
    obtain ⟨issue, train⟩ := SalesUnit.issueFor_eq_some hi
    obtain ⟨-, k, hk, sell, -⟩ := s.reserving.issue i issue
    have : k = e.train := by simpa [train] using hk.symm
    simpa [this] using sell
  simp only [Part.trainSellable, Part.modifyEntry_board, 
    p.board.find_modify e.train (fun x => { x with state := e.judged now }) (fun _ => rfl)] at sellable ⊢
  cases hf : p.board.find e.train with
  | none => simp [hf] at sellable
  | some x => simpa [Entry.sellable] using Entry.judged_sellable changed here

theorem Part.evaluateNow_keeps (p : Part) (t : TrainKey) (tell : Bool) : p.Keeps (p.evaluateNow t tell) := by
  simp only [Part.evaluateNow]
  split
  · exact p.evaluateEntry_keeps _ _ _
  · exact .refl p

theorem Part.evaluateAll_keeps (p : Part) (now : Nat) (l : List TrainKey) : p.Keeps (p.evaluateAll now l).1 := by
  induction l generalizing p with
  | nil => exact .refl p
  | cons t ts ih =>
    simp only [Part.evaluateAll]
    split
    · exact ih p
    · exact (p.evaluateEntry_keeps _ _ _).trans (ih _)

theorem Part.boardMinute_keeps (p : Part) (now : Nat) : p.Keeps (p.boardMinute now) :=
  (p.evaluateAll_keeps _ _).trans (Part.boardChangedIf_neutral _ _).keeps

/-! ### TRAIN frames (R40 to R43) -/

theorem Entry.dropMark_same (e : Entry) (l : LineInterface) :
    (e.dropMark l).train = e.train ∧ (e.dropMark l).linked = e.linked ∧ (e.dropMark l).state = e.state := by
  simp only [Entry.dropMark]
  (repeat' split) <;> exact ⟨rfl, rfl, rfl⟩

theorem Part.withdrawTrain_neutral (p : Part) (t : TrainKey) : p.Neutral (p.withdrawTrain t) :=
  (p.withdraw_neutral _).trans (Part.modifyEntry_neutral _ _ _ (fun e => e.dropMark_same _))

theorem Part.queueTrain_neutral (p : Part) (e : Entry) (kind : EntryFrame) (c : FrameClass) :
    p.Neutral (p.queueTrain e kind c).1 := by
  simp only [Part.queueTrain]
  split
  · exact (p.offer_neutral _ _).trans (Part.modifyEntry_neutral _ _ _ (fun _ => ⟨rfl, rfl, rfl⟩))
  · exact p.offer_neutral _ _

/-- An entry whose frame's end was reported (R41). -/
def Entry.freed (e : Entry) (frame : Nat) : Entry :=
  { e with frame := if e.frame.map FrameMark.frame = some frame then none else e.frame }

theorem Part.trainReported_entries (p : Part) (frame : Nat) :
    (p.trainReported frame).board.entries = p.board.entries.map (fun e => e.freed frame) := by
  apply List.map_congr_left
  intro e _
  cases h : e.frame with
  | none => simp only [Entry.freed, h]; simp [← h]
  | some m =>
    simp only [Entry.freed, h, Option.map_some, Option.some.injEq]
    split
    · rfl
    · simp [← h]

theorem Part.trainReported_neutral (p : Part) (frame : Nat) : p.Neutral (p.trainReported frame) := by
  refine ⟨.of_entries ?_ (by simp), ?_⟩
  · rw [Part.trainReported_entries, List.map_map]; rfl
  · simp only [Part.accounts, Part.trainReported_entries, List.map_map]; simp [Function.comp_def, Entry.freed]

theorem Part.restartRefresh_neutral (p : Part) (t : TrainKey) : p.Neutral (p.restartRefresh t) :=
  p.modifyEntry_neutral _ _ (fun e => by split <;> exact ⟨rfl, rfl, rfl⟩)

theorem Part.updateFrames_neutral (p : Part) (source : Option Nat) (t : TrainKey) :
    p.Neutral (p.updateFrames source t).1 := by
  simp only [Part.updateFrames]
  split
  · exact p.withdrawTrain_neutral t
  · split
    · exact p.withdrawTrain_neutral t
    · exact (p.withdrawTrain_neutral t).trans (Part.queueTrain_neutral _ _ _ _)

theorem Part.refreshEntry_neutral (p : Part) (e : Entry) : p.Neutral (p.refreshEntry e) := by
  have restarted := p.modifyEntry_neutral e.train
    (fun e => { e with refreshDeadline := some (p.lineTime + p.refreshMs) }) (fun _ => ⟨rfl, rfl, rfl⟩)
  simp only [Part.refreshEntry]
  split
  · exact restarted.trans (Part.queueTrain_neutral _ _ _ _)
  · exact restarted

/-! ### Updates (R33 to R40) -/

/-- A report of an entry that the update cancelled (R25): the train that was leaving is no longer named. -/
theorem Part.reportCancelled_bounds (p : Part) (t : TrainKey) (before : EntryState) :
    p.Bounds (p.reportCancelled t before) := by
  simp only [Part.reportCancelled]
  split
  · exact .refl p
  split
  · exact (p.enterCancelled_keeps _).toBounds
  · exact .refl p

/-- The report withdraws the train's issue, unless the train is still sold or was not sold before. -/
theorem Part.reportCancelled_reserving {p : Part} {t : TrainKey} {before : EntryState} (k : p.Reserving (some t))
    (sold : p.sales.issueFor t ≠ none → before ≠ .cancelled
      ∧ (p.trainSellable t = true ∨ (p.board.find t).map Entry.state = some .cancelled)) :
    (p.reportCancelled t before).Reserving none := by
  simp only [Part.reportCancelled]
  split
  · rename_i absent
    exact k.returned fun some => by simpa [absent] using (sold some).2
  rename_i e found
  have train : e.train = t := by simpa using List.find?_some found
  split
  · simp only [Part.enterCancelled, train]
    exact Part.reportLeft_reserving (e := e) (by rw [train]; exact k.modifyEntry _ (fun _ => ⟨rfl, rfl⟩)) _
  · rename_i other
    refine k.returned fun some => ?_
    obtain ⟨changed, sellable | cancelled⟩ := sold some
    · exact sellable
    · exact absurd ⟨by simpa [found] using cancelled, changed⟩ other

/-- A sellable train's entry moved by an update stays sellable, or is CANCELLED (R24). -/
theorem movedState_of_sellable {st : EntryState} (h : st = .listed ∨ st = .due) (estimate : Estimate) :
    movedState st estimate = .cancelled ∨ movedState st estimate = st := by
  simp only [movedState]
  split
  · exact .inl rfl
  · rcases h with rfl | rfl <;> exact .inr rfl

theorem Part.applyUpdate_keeps (p : Part) (source : Option Nat) (u : Update) (e : Entry)
    (found : p.board.find u.train = some e) : p.Keeps (p.applyUpdate source u e).1 := by
  let f : Entry → Entry := fun x => { x.apply u with state := movedState x.state u.estimate }
  have framed : (p.modifyEntry u.train f).Neutral
      (((p.modifyEntry u.train f).updateFrames source u.train).1.restartRefresh u.train) :=
    (Part.updateFrames_neutral _ _ _).trans (Part.restartRefresh_neutral _ _)
  refine Part.Keeps.trans ?_ (Part.boardChanged_neutral _).keeps
  refine Part.Keeps.trans ?_ (Part.post_neutral _ _).keeps
  refine Part.Keeps.trans ?_ (Part.evaluateNow_keeps _ _ _)
  have bounds : p.Bounds _ := ((p.modifyEntry_bounds u.train f (fun _ => rfl)).trans framed.toBounds).trans
    (Part.reportCancelled_bounds _ u.train e.state)
  refine ⟨bounds, fun s => ⟨bounds.ledger s.ledger, bounds.board s.board, ?_⟩⟩
  refine Part.reportCancelled_reserving
    (framed.reserving ((s.reserving.leave u.train).modifyEntry f (fun _ => ⟨rfl, rfl⟩))) fun some => ?_
  obtain ⟨i, hi⟩ := Option.ne_none_iff_exists'.mp some
  obtain ⟨issue, train⟩ := SalesUnit.issueFor_eq_some hi
  obtain ⟨-, k, hk, sell, -⟩ := s.reserving.issue i (by simpa using issue)
  have sold : e.state = .listed ∨ e.state = .due := by
    have : k = u.train := by simpa [train] using hk.symm
    simpa [Part.trainSellable, this, found, Entry.sellable] using sell
  have moved := framed.stateOf u.train
  simp only [Part.modifyEntry_board, p.board.find_modify u.train f (fun _ => rfl), found, Option.map_some, f] at moved
  refine ⟨by rcases sold with h | h <;> simp [h], ?_⟩
  rw [Part.trainSellable_eq, moved]
  rcases movedState_of_sellable sold u.estimate with h | h
  · exact .inr (by rw [h])
  · left; rw [h]; rcases sold with h' | h' <;> simp [h']

end Sys2Proof.Machine
end

section
namespace Sys2Proof.Machine

/-! ### Entries that join and leave (R29, R38, R44) -/

/-- The issue in flight names no train that is not sold. -/
theorem Part.Reserving.issueFor_eq_none {p : Part} (k : p.Reserving none) {t : TrainKey} (unsold : p.trainSellable t = false) :
    p.sales.issueFor t = none := by
  by_contra some
  obtain ⟨i, hi⟩ := Option.ne_none_iff_exists'.mp some
  obtain ⟨issue, train⟩ := SalesUnit.issueFor_eq_some hi
  obtain ⟨-, j, hj, sell, -⟩ := k.issue i issue
  have : j = t := by simpa [train] using hj.symm
  simp [this, unsold] at sell

theorem QuotaUnit.find_append (q : QuotaUnit) (r : LedgerRecord) (t : TrainKey) :
    { q with ledger := q.ledger ++ [r] }.find t = (q.find t).or (if r.train = t then some r else none) := by
  simp only [QuotaUnit.find, List.find?_append, List.find?_cons, List.find?_nil]
  congr 1
  by_cases h : r.train = t <;> simp [h]

/-- What a request for a ledger link leaves (R29, R113): a new record at most, and a link only to a record. -/
theorem Part.linkLedger_spec (p : Part) (t : TrainKey) (total : Nat) :
    ((p.linkLedger t total).1.quota.ledger = p.quota.ledger
        ∨ p.quota.find t = none ∧ p.quota.ledger.length < 32
          ∧ (p.linkLedger t total).1.quota.ledger
            = p.quota.ledger ++ [LedgerRecord.fresh t total (p.newShare total)])
      ∧ ((p.linkLedger t total).2 = true → ((p.linkLedger t total).1.quota.find t).isSome = true) := by
  simp only [Part.linkLedger]
  split
  · exact ⟨.inl rfl, by simp⟩
  split
  · rename_i r found
    exact ⟨.inl rfl, by simp [found]⟩
  rename_i new
  split
  · refine ⟨.inr ⟨new, ‹_›, by simp⟩, fun _ => ?_⟩
    simp [QuotaUnit.find_append, LedgerRecord.fresh]
  · exact ⟨.inl (by simp), by simp⟩

theorem Part.linkLedger_bounds (p : Part) (t : TrainKey) (total : Nat) (places : total ≤ 99) :
    p.Bounds (p.linkLedger t total).1 := by
  simp only [Part.linkLedger]
  split
  · exact .refl p
  split
  · exact .refl p
  split
  · refine Part.Bounds.trans ?_ (Part.post_neutral _ _).toBounds
    exact .of_ledger (fun k => k.append t total _ ‹_› ‹_› ((p.newShare_le total).trans places)) (by simp)
  · refine Part.Bounds.trans ?_ (Part.post_neutral _ _).toBounds
    exact Part.Neutral.toBounds (p.withQuota_neutral _ rfl)

theorem QuotaUnit.isSome_find_append {q q' : QuotaUnit} {r : LedgerRecord} (ledger : q'.ledger = q.ledger ++ [r])
    {t : TrainKey} (h : (q.find t).isSome = true) : (q'.find t).isSome = true := by
  simp only [QuotaUnit.find, List.find?_isSome, ledger] at h ⊢
  obtain ⟨x, hx, ht⟩ := h
  exact ⟨x, List.mem_append_left _ hx, ht⟩

/-- A search of the list with an entry at its end. -/
theorem DepartureList.find_append (b : DepartureList) (e : Entry) (t : TrainKey) :
    { b with entries := b.entries ++ [e] }.find t = (b.find t).or (if e.train = t then some e else none) := by
  simp only [DepartureList.find, List.find?_append, List.find?_cons, List.find?_nil]
  congr 1
  by_cases h : e.train = t <;> simp [h]

theorem DepartureList.find_none {b : DepartureList} {t : TrainKey} (h : b.find t = none) : ∀ e ∈ b.entries, e.train ≠ t := by
  simpa [DepartureList.find, List.find?_eq_none] using h

theorem DepartureList.find_some {b : DepartureList} {t : TrainKey} {e : Entry} (h : b.find t = some e) :
    e ∈ b.entries ∧ e.train = t :=
  ⟨List.mem_of_find?_eq_some h, by simpa using List.find?_some h⟩

/-- An entry of a train without one joins a list with room for it. -/
theorem DepartureList.Kept.append {b : DepartureList} (k : b.Kept) (e : Entry) (new : b.find e.train = none)
    (room : b.entries.length < 32) : { b with entries := b.entries ++ [e] }.Kept := by
  refine ⟨by simpa using room, ?_⟩
  simp only [List.map_append, List.map_cons, List.map_nil]
  refine List.nodup_append.mpr ⟨k.2, by simp, ?_⟩
  rintro a ha b hb rfl
  obtain ⟨x, hx, rfl⟩ := List.mem_map.mp ha
  exact DepartureList.find_none new x hx (by simpa using hb)

/-- An entry of a train without one, added where what came before has kept the laws and left room for it. -/
theorem Part.Keeps.addEntry {o p : Part} (before : o.Keeps p) (e : Entry) (new : p.board.find e.train = none)
    (room : o.board.Kept → p.board.entries.length < 32) (places : e.quotaTotal ≤ 99) : o.Keeps (p.addEntry e) := by
  obtain ⟨ledger, linked⟩ := p.linkLedger_spec e.train e.quotaTotal
  have link := p.linkLedger_bounds e.train e.quotaTotal places
  have bounds : o.Bounds (p.addEntry e) :=
    ⟨link.state.trans before.state, fun k => (link.notices (before.notices k)).congr rfl rfl,
      fun k => link.line (before.line k),
      fun k => by
        simpa [Part.addEntry] using
          (before.board k).append { e with linked := (p.linkLedger e.train e.quotaTotal).2 } new (room k),
      fun k => link.ledger (before.ledger k)⟩
  refine ⟨bounds, fun s => ⟨bounds.ledger s.ledger, bounds.board s.board, ?_⟩⟩
  replace s := before.sound s
  have unnamed : p.sales.issueFor e.train = none :=
    s.reserving.issueFor_eq_none (by simp [Part.trainSellable, new])
  have sales : (p.addEntry e).sales = p.sales := by simp
  have more : ∀ t, (p.quota.find t).isSome = true → ((p.addEntry e).quota.find t).isSome = true := by
    intro t h
    rcases ledger with same | ⟨-, -, grown⟩
    · simpa [QuotaUnit.find, Part.addEntry, same] using h
    · exact QuotaUnit.isSome_find_append (q := p.quota) (q' := (p.addEntry e).quota) grown h
  refine ⟨fun l hl => ?_, fun i hi => ?_, fun x hx link => ?_⟩
  · have before : ∀ r ∈ p.quota.ledger, r.reserved = (p.addEntry e).reservedFor r.train := by
      simpa [Part.reservedFor, sales] using s.reserving.reserved
    rcases ledger with same | ⟨-, -, grown⟩
    · exact before l (same ▸ hl)
    · rcases List.mem_append.mp (grown ▸ hl) with old | fresh
      · exact before l old
      · rw [List.mem_singleton.mp fresh]
        simp [Part.reservedFor, LedgerRecord.fresh, unnamed]
  · obtain ⟨le, j, hj, sell, found⟩ := s.reserving.issue i (sales ▸ hi)
    refine ⟨le, j, hj, .inr ?_, more j found⟩
    have sell : p.trainSellable j = true := sell.resolve_left (by simp)
    simp only [Part.trainSellable, Part.addEntry, Part.linkLedger_frame, DepartureList.find_append] at sell ⊢
    cases hf : p.board.find j with
    | none => simp [hf] at sell
    | some y => simpa [hf] using sell
  · simp only [Part.addEntry, Part.linkLedger_frame, List.mem_append, List.mem_singleton] at hx
    rcases hx with old | rfl
    · exact more _ (s.reserving.linked x old link)
    · exact linked link

/-- A search that a filter does not disturb: the entry found passes it. -/
theorem find?_filter_of_pass {α : Type} (pick keep : α → Bool) (l : List α) (a : α) (found : l.find? pick = some a)
    (pass : keep a = true) : (l.filter keep).find? pick = some a := by
  induction l with
  | nil => simp at found
  | cons x xs ih =>
    rw [List.find?_cons] at found
    cases hx : pick x with
    | true =>
      rw [hx] at found; cases found
      simp [pass, hx]
    | false =>
      rw [hx] at found
      rw [List.filter_cons]
      split
      · simp [hx, ih found]
      · exact ih found

/-- With one entry for a train, the entry found is every entry of the train. -/
theorem DepartureList.eq_of_find {b : DepartureList} (nodup : (b.entries.map Entry.train).Nodup) {t : TrainKey}
    {e x : Entry} (h : b.find t = some e) (hx : x ∈ b.entries) (ht : x.train = t) : x = e := by
  obtain ⟨he, et⟩ := b.find_some h
  exact List.inj_on_of_nodup_map nodup hx he (ht.trans et.symm)

theorem DepartureList.find_of_mem {b : DepartureList} (nodup : (b.entries.map Entry.train).Nodup) {e : Entry}
    (he : e ∈ b.entries) : b.find e.train = some e := by
  cases h : b.find e.train with
  | none => exact absurd rfl (DepartureList.find_none h e he)
  | some x => rw [DepartureList.eq_of_find nodup h he rfl]

/-- Bounds kept where entries are taken out of the list. -/
theorem Part.Bounds.of_filter {p q : Part} (keep : Entry → Bool) (entries : q.board.entries = p.board.entries.filter keep)
    (rest : q.notices = p.notices ∧ q.doze.state = p.doze.state ∧ q.line = p.line ∧ q.quota = p.quota) :
    p.Bounds q := by
  obtain ⟨notices, state, line, quota⟩ := rest
  have sub : q.board.entries.Sublist p.board.entries := by rw [entries]; exact List.filter_sublist
  exact ⟨by rw [state], fun k => k.congr notices state, by rw [line]; exact id,
    fun k => ⟨sub.length_le.trans k.1, (sub.map _).nodup k.2⟩, by rw [quota]; exact id⟩

/-- Entries of trains that are not sold taken out of the list keep the laws. -/
theorem Part.Keeps.of_filter {p q : Part} (keep : Entry → Bool) (entries : q.board.entries = p.board.entries.filter keep)
    (rest : q.notices = p.notices ∧ q.doze.state = p.doze.state ∧ q.line = p.line ∧ q.quota = p.quota)
    (sales : q.sales = p.sales)
    (sold : p.board.Kept → ∀ e ∈ p.board.entries, e.sellable = true → keep e = true) : p.Keeps q := by
  have bounds := Part.Bounds.of_filter keep entries rest
  obtain ⟨-, -, -, quota⟩ := rest
  refine ⟨bounds, fun s => ⟨bounds.ledger s.ledger, bounds.board s.board, ?_⟩⟩
  refine ⟨?_, fun i hi => ?_, fun e he link => ?_⟩
  · simpa [Part.reservedFor, sales, quota] using s.reserving.reserved
  · obtain ⟨le, j, hj, sell, found⟩ := s.reserving.issue i (sales ▸ hi)
    refine ⟨le, j, hj, .inr ?_, by rwa [quota]⟩
    have sell : p.trainSellable j = true := sell.resolve_left (by simp)
    simp only [Part.trainSellable] at sell ⊢
    cases hf : p.board.find j with
    | none => simp [hf] at sell
    | some e =>
      have sells : e.sellable = true := by simpa [hf] using sell
      have kept := sold s.board e (DepartureList.find_some hf).1 sells
      have : q.board.find j = some e := by
        simp only [DepartureList.find, entries] at hf ⊢
        exact find?_filter_of_pass _ _ _ _ hf kept
      simp [this, sells]
  · rw [quota]
    exact s.reserving.linked e (List.mem_of_mem_filter (entries ▸ he)) link

/-- An entry that is not sold removed (R38). -/
theorem Part.removeEntry_keeps (p : Part) (d : Entry) (mem : d ∈ p.board.entries) (unsold : d.sellable = false) :
    p.Keeps (p.removeEntry d) := by
  refine (p.withdraw_neutral (p.line.trainFrames d.train)).keeps.trans ?_
  refine .of_filter (fun x => x.train ≠ d.train) (by simp [Part.removeEntry]) (by simp [Part.removeEntry])
    (by simp [Part.removeEntry]) fun k e he sells => ?_
  have k : p.board.Kept := by simpa using k
  by_contra same
  have : e = d := List.inj_on_of_nodup_map k.2 (by simpa using he) mem (by simpa using same)
  simp [this, unsold] at sells

/-- The entry that is displaced is on the list and not sold (R38). -/
theorem entryToDisplace_spec {l : List Entry} {d : Entry} (h : entryToDisplace l = some d) :
    d ∈ l ∧ d.sellable = false := by
  induction l generalizing d with
  | nil => cases h
  | cons e es ih =>
    simp only [entryToDisplace] at h
    split at h
    · split at h
      · cases h
      · rename_i gone
        cases h
        exact ⟨by simp, by simpa using gone⟩
    · rename_i x hx
      obtain ⟨mem, unsold⟩ := ih hx
      split at h
      · cases h; rename_i before; simp at before; exact ⟨by simp, before.1⟩
      · cases h; exact ⟨by simp [mem], unsold⟩

theorem Part.Keeps.createEntry {o p : Part} (before : o.Keeps p) (source : Option Nat) (u : Update) (b : NewTrain)
    (displaced : Nat) (new : p.board.find u.train = none) (room : o.board.Kept → p.board.entries.length < 32)
    (places : b.quotaTotal ≤ 99) : o.Keeps (p.createEntry source u b displaced).1 := by
  refine Part.Keeps.trans ?_ (Part.boardChanged_neutral _).keeps
  refine Part.Keeps.trans ?_ (Part.post_neutral _ _).keeps
  refine Part.Keeps.trans ?_ (Part.evaluateNow_keeps _ _ _)
  refine Part.Keeps.trans ?_ (Part.restartRefresh_neutral _ _).keeps
  exact (before.addEntry (u.entry b) new room places).trans (Part.updateFrames_neutral _ _ _).keeps

theorem Part.dropUnknown_neutral (p : Part) (source : Option Nat) : p.Neutral (p.dropUnknown source).1 := by
  cases source with
  | none => exact .refl p
  | some n => exact p.withBoard_neutral _ rfl

theorem Part.dropFull_neutral (p : Part) (source : Option Nat) (u : Update) : p.Neutral (p.dropFull source u).1 := by
  refine Part.Neutral.trans ?_ (Part.post_neutral _ _)
  exact p.withBoard_neutral _ rfl

theorem Part.newUpdate_keeps (p : Part) (source : Option Nat) (u : Update) (new : p.board.find u.train = none)
    (places : ∀ b, u.newTrain = some b → b.quotaTotal ≤ 99) : p.Keeps (p.newUpdate source u).1 := by
  simp only [Part.newUpdate]
  split
  · exact (p.dropUnknown_neutral _).keeps
  rename_i b block
  split
  · exact (p.dropUnknown_neutral _).keeps
  split
  · exact (Part.Keeps.refl p).createEntry source u b 0 new (fun _ => ‹_›) (places b block)
  split
  · exact (p.dropFull_neutral _ _).keeps
  rename_i d displaced
  obtain ⟨mem, unsold⟩ := entryToDisplace_spec displaced
  have left : (p.removeEntry d).board.entries = p.board.entries.filter (fun x => x.train ≠ d.train) := by
    simp [Part.removeEntry]
  refine (p.removeEntry_keeps d mem unsold).createEntry source u b _ ?_ (fun k => ?_) (places b block)
  · have none := DepartureList.find_none new
    simp only [DepartureList.find, List.find?_eq_none, left]
    intro e he
    simpa using none e (List.mem_of_mem_filter he)
  · have fewer : (p.board.entries.filter (fun x => x.train ≠ d.train)).length < p.board.entries.length :=
      List.length_filter_lt_length_iff_exists.mpr ⟨d, mem, by simp⟩
    rw [left]
    exact lt_of_lt_of_le fewer k.1

theorem Part.repeatUpdate_neutral (p : Part) (source : Option Nat) (u : Update) : p.Neutral (p.repeatUpdate source u).1 := by
  cases source with
  | none => exact p.restartRefresh_neutral _
  | some n => exact (p.withdrawTrain_neutral _).trans (Part.restartRefresh_neutral _ _)

end Sys2Proof.Machine
end

section
namespace Sys2Proof.Machine

/-! ### Updates and loaded trains (R28, R33 to R38) -/

theorem Part.olderUpdate_neutral (p : Part) (source : Option Nat) (e : Entry) : p.Neutral (p.olderUpdate source e).1 := by
  simp only [Part.olderUpdate]
  split
  · exact .refl p
  split
  · refine Part.Neutral.trans ?_ (Part.queueTrain_neutral _ _ _ _)
    exact p.withBoard_neutral _ rfl
  · exact p.withBoard_neutral _ rfl

/-- An update that is not ill-formed sets a new train's quota total within its range (R32). -/
theorem Update.ok_places {u : Update} (ok : u.ok = true) (b : NewTrain) (block : u.newTrain = some b) :
    b.quotaTotal ≤ 99 := by
  have inRange : b.inRange = true := by
    simp only [Update.ok, block, Bool.and_eq_true] at ok
    exact ok.2
  simp only [NewTrain.inRange, Bool.and_eq_true, decide_eq_true_eq] at inRange
  exact inRange.1.1.2

theorem Part.takeUpdate_keeps (p : Part) (source : Option Nat) (u : Update) (ok : u.ok = true) :
    p.Keeps (p.takeUpdate source u).1 := by
  simp only [Part.takeUpdate]
  split
  · exact p.newUpdate_keeps source u ‹_› (fun b block => u.ok_places ok b block)
  split
  · exact p.applyUpdate_keeps source u _ ‹_›
  split
  · exact (p.repeatUpdate_neutral source u).keeps
  · exact (p.olderUpdate_neutral source _).keeps

theorem TrainRecord.inRange_places {r : TrainRecord} (h : r.inRange = true) : r.quotaTotal ≤ 99 := by
  simp only [TrainRecord.inRange, Bool.and_eq_true, decide_eq_true_eq] at h
  exact h.2

theorem Part.loadEntry_keeps (p : Part) (r : TrainRecord) (inRange : r.inRange = true) (new : p.board.find r.train = none)
    (room : p.board.entries.length < 32) : p.Keeps (p.loadEntry r) :=
  (((Part.Keeps.refl p).addEntry r.entry new (fun _ => room) (TrainRecord.inRange_places inRange)).trans
    (Part.evaluateNow_keeps _ _ _)).trans (Part.boardChanged_neutral _).keeps

/-! ### The rollover event (R5, R44, R108, R131) -/

/-- The purge of the list leaves the entries that are not purged. -/
theorem Part.purgeBoard_entries (p : Part) (new : Nat) :
    (p.purgeBoard new).board.entries = p.board.entries.filter (fun e => !e.purged new) := by
  simp [Part.purgeBoard]

theorem Part.purgeBoard_bounds (p : Part) (new : Nat) : p.Bounds (p.purgeBoard new) := by
  have withdrawn := (p.withdraw_neutral
    ((p.board.entries.filter (fun e => e.purged new)).flatMap (fun e => p.line.trainFrames e.train))).toBounds
  refine Part.Bounds.trans ?_ (Part.boardChangedIf_neutral _ _).toBounds
  exact withdrawn.trans (.of_filter (fun e => !e.purged new) rfl (by simp))

theorem Entry.not_purged_of_sellable {e : Entry} (new : Nat) (h : e.sellable = true) : (!e.purged new) = true := by
  simp [Entry.purged, h]

/-- A train is sold as before where entries that are not sold leave the list. -/
theorem Part.trainSellable_of_filter {p q : Part} (keep : Entry → Bool)
    (entries : q.board.entries = p.board.entries.filter keep) (kept : p.board.Kept)
    (sold : ∀ e ∈ p.board.entries, e.sellable = true → keep e = true) (t : TrainKey) :
    q.trainSellable t = p.trainSellable t := by
  simp only [Part.trainSellable]
  cases hp : p.board.find t with
  | none =>
    have : q.board.find t = none := by
      have none := DepartureList.find_none hp
      simp only [DepartureList.find, List.find?_eq_none, entries]
      intro e he
      simpa using none e (List.mem_of_mem_filter he)
    simp [this]
  | some e =>
    obtain ⟨mem, train⟩ := DepartureList.find_some hp
    cases hq : q.board.find t with
    | some x =>
      have hx : x ∈ p.board.entries := List.mem_of_mem_filter (entries ▸ (DepartureList.find_some hq).1)
      rw [DepartureList.eq_of_find kept.2 hp hx (DepartureList.find_some hq).2]
    | none =>
      simp only
      by_contra unsold
      have sells : e.sellable = true := by simpa using unsold
      refine DepartureList.find_none hq e ?_ train
      rw [entries]
      exact List.mem_filter.mpr ⟨mem, sold e mem sells⟩

theorem Part.purgeBoard_trainSellable (p : Part) (new : Nat) (kept : p.board.Kept) (t : TrainKey) :
    (p.purgeBoard new).trainSellable t = p.trainSellable t :=
  Part.trainSellable_of_filter _ (p.purgeBoard_entries new) kept (fun _ _ h => Entry.not_purged_of_sellable new h) t

theorem Part.purgeLedger_bounds (p : Part) (new : Nat) : p.Bounds (p.purgeLedger new) :=
  .of_ledger (fun k => k.filter _ rfl) (by simp)

theorem Part.overrunOldest_issue (p : Part) : p.overrunOldest.sales.issue = p.sales.issue := by
  simp only [Part.overrunOldest]
  split <;> simp [Part.countOverrun]

theorem Part.writeAlways_issue (p : Part) (body : JournalBody) : (p.writeAlways body).sales.issue = p.sales.issue := by
  simp only [Part.writeAlways]
  split
  · rfl
  · split
    · exact p.overrunOldest_issue
    · rfl

theorem Part.closeDay_issue (p : Part) (old : Nat) : (p.closeDay old).sales.issue = p.sales.issue := by
  simp only [Part.closeDay]
  split
  · rfl
  · exact Part.writeAlways_issue _ _

theorem threeInOrder_trans {R : Part → Part → Prop} (trans : ∀ {a b c : Part}, R a b → R b c → R a c)
    {f g h : Part → Part} (hf : ∀ p, R p (f p)) (hg : ∀ p, R p (g p)) (hh : ∀ p, R p (h p)) (n : Nat) (p : Part) :
    R p (threeInOrder n f g h p) := by
  simp only [threeInOrder]
  split
  · exact trans (trans (hf p) (hg _)) (hh _)
  · exact trans (trans (hf p) (hh _)) (hg _)
  · exact trans (trans (hg p) (hf _)) (hh _)
  · exact trans (trans (hg p) (hh _)) (hf _)
  · exact trans (trans (hh p) (hf _)) (hg _)
  · exact trans (trans (hh p) (hg _)) (hf _)

/-- What a rollover event leaves of list, ledger and issue, in whatever order its receivers take it. -/
theorem Part.handRollover_spec (p : Part) (order old new : Nat) (kept : p.board.Kept) :
    (p.handRollover order old new).board.entries = p.board.entries.filter (fun e => !e.purged new)
      ∧ (p.handRollover order old new).quota.ledger
        = p.quota.ledger.filter (fun r => !(decide (r.train.day < new) && !p.trainSellable r.train))
      ∧ (p.handRollover order old new).sales.issue = p.sales.issue := by
  have close : ∀ q : Part, (q.closeDay old).board = q.board ∧ (q.closeDay old).quota = q.quota
      ∧ ∀ t, (q.closeDay old).trainSellable t = q.trainSellable t := fun q => by
    refine ⟨by simp, by simp, fun t => ?_⟩
    simp [Part.trainSellable]
  have purge : ∀ t, (p.purgeBoard new).trainSellable t = p.trainSellable t := p.purgeBoard_trainSellable new kept
  have closePurge : ∀ t, ((p.closeDay old).purgeBoard new).trainSellable t = p.trainSellable t := fun t => by
    rw [Part.purgeBoard_trainSellable _ new (by simpa using kept), (close p).2.2]
  simp only [Part.handRollover, threeInOrder]
  split <;> simp [close, purge, closePurge, Part.purgeLedger, Part.purgeBoard_entries, Part.closeDay_issue]

theorem Part.handRollover_keeps (p : Part) (order old new : Nat) : p.Keeps (p.handRollover order old new) := by
  have bounds : p.Bounds (p.handRollover order old new) :=
    threeInOrder_trans (fun a b => a.trans b) (fun q => (q.closeDay_neutral old).toBounds)
      (fun q => q.purgeBoard_bounds new) (fun q => q.purgeLedger_bounds new) order p
  refine ⟨bounds, fun s => ⟨bounds.ledger s.ledger, bounds.board s.board, ?_⟩⟩
  obtain ⟨entries, ledger, issue⟩ := p.handRollover_spec order old new s.board
  have sellable := Part.trainSellable_of_filter _ entries s.board (fun _ _ h => Entry.not_purged_of_sellable new h)
  have found : ∀ t, (p.quota.find t).isSome = true → p.trainSellable t = true ∨ new ≤ t.day →
      ((p.handRollover order old new).quota.find t).isSome = true := by
    intro t h stays
    simp only [QuotaUnit.find, List.find?_isSome, ledger] at h ⊢
    obtain ⟨r, hr, ht⟩ := h
    refine ⟨r, List.mem_filter.mpr ⟨hr, ?_⟩, ht⟩
    rw [show r.train = t by simpa using ht]
    rcases stays with h | h
    · simp [h]
    · simp only [Nat.not_lt.mpr h, decide_false, Bool.false_and, Bool.not_false]
  refine ⟨fun l hl => ?_, fun i hi => ?_, fun e he link => ?_⟩
  · have := s.reserving.reserved l (List.mem_of_mem_filter (ledger ▸ hl))
    simpa [Part.reservedFor, SalesUnit.issueFor, issue] using this
  · obtain ⟨le, j, hj, sell, some⟩ := s.reserving.issue i (issue ▸ hi)
    have sell : p.trainSellable j = true := sell.resolve_left (by simp)
    exact ⟨le, j, hj, .inr (by rw [sellable]; exact sell), found j some (.inl sell)⟩
  · obtain ⟨mem, stays⟩ := List.mem_filter.mp (entries ▸ he)
    refine found _ (s.reserving.linked e mem link) ?_
    simp only [Entry.purged, Bool.not_and, Bool.not_not, Bool.or_eq_true, Bool.not_eq_true', decide_eq_false_iff_not,
      Nat.not_lt] at stays
    rcases stays with h | h
    · left; simpa [Part.trainSellable, DepartureList.find_of_mem s.board.2 mem] using h
    · exact .inr h

/-! ### The clock and what follows it (R3 to R17) -/

theorem Part.withClock_neutral (p : Part) (f : HaltClock → HaltClock) : p.Neutral (p.withClock f) := .of_same (by simp) (by simp)

theorem Part.drawOrder_neutral (p : Part) : p.Neutral p.drawOrder := .of_same (by simp) (by simp)

theorem Part.salesDayCheck_keeps (p : Part) : p.Keeps p.salesDayCheck := by
  simp only [Part.salesDayCheck, Part.rollover]
  (repeat' split) <;> first | exact .refl p | skip
  exact ((p.withClock_neutral _).trans (Part.drawOrder_neutral _)).keeps.trans (Part.handRollover_keeps _ _ _ _)

theorem Part.dozeMinute_neutral (p : Part) : p.Neutral p.dozeMinute := by
  simp only [Part.dozeMinute]
  split
  · split
    · exact .refl p
    · exact p.wake_neutral _ ‹_›
  · exact .refl p

theorem Part.minuteCheck_keeps (p : Part) : p.Keeps p.minuteCheck := by
  simp only [Part.minuteCheck, Part.minuteEvent, Part.handMinute]
  split
  · refine Part.Keeps.trans ?_ (threeInOrder_trans (fun a b => a.trans b) (fun q => q.boardMinute_keeps _)
      (fun q => q.boardChanged_neutral.keeps) (fun q => q.dozeMinute_neutral.keeps) _ _)
    exact Part.Keeps.trans (p.withClock_neutral _).keeps (Part.drawOrder_neutral _).keeps
  · exact .refl p

theorem Part.clockCheck_keeps (p : Part) : p.Keeps p.clockCheck :=
  p.salesDayCheck_keeps.trans (Part.minuteCheck_keeps _)

theorem Part.slewPeriod_keeps (p : Part) : p.Keeps p.slewPeriod :=
  (p.withClock_neutral _).keeps.trans (Part.clockCheck_keeps _)

theorem Part.clockPeerLost_neutral (p : Part) (node : Nat) : p.Neutral (p.clockPeerLost node) := by
  simp only [Part.clockPeerLost]
  split
  · exact p.withClock_neutral _
  · exact .refl p

theorem Part.correctBy_keeps (p : Part) (sender source : Nat) (offset : Int) : p.Keeps (p.correctBy sender source offset) := by
  simp only [Part.correctBy]
  split
  · exact (p.withClock_neutral _).keeps
  · exact (p.withClock_neutral _).keeps
  · exact ((p.withClock_neutral _).trans (Part.post_neutral _ _)).keeps.trans (Part.clockCheck_keeps _)
  · split
    · exact (p.withClock_neutral _).keeps
    · exact ((p.withClock_neutral _).trans (Part.post_neutral _ _)).keeps

theorem Part.sourceBeacon_keeps (p : Part) (sender : Nat) (b : BeaconPayload) : p.Keeps (p.sourceBeacon sender b) :=
  (p.withClock_neutral _).keeps.trans (Part.correctBy_keeps _ _ _ _)

theorem Part.hearClock_keeps (p : Part) (sender : Nat) (b : BeaconPayload) : p.Keeps (p.hearClock sender b) := by
  have followed : ∀ q : Part, q.Keeps (q.setFromBeacon sender b) := fun q => by
    refine Part.Keeps.trans ?_ (Part.post_neutral _ _).keeps
    refine Part.Keeps.trans ?_ (Part.minuteCheck_keeps _)
    exact (q.withClock_neutral _).keeps
  simp only [Part.hearClock, Part.follow]
  split
  · split
    · exact p.sourceBeacon_keeps _ _
    · exact (p.withClock_neutral _).keeps
  split
  · split
    · exact (p.withClock_neutral _).keeps.trans (Part.sourceBeacon_keeps _ _ _)
    · exact (p.withClock_neutral _).keeps.trans (followed _)
  · exact .refl p

theorem Part.acceptTime_keeps (p : Part) (r : SetTimeRequest) : p.Keeps (p.acceptTime r) :=
  (p.withClock_neutral _).keeps.trans (Part.clockCheck_keeps _)

end Sys2Proof.Machine
end

section
namespace Sys2Proof.Machine

/-! ### Peers and their frames (R136 to R144) -/

theorem Part.withPeers_neutral (p : Part) (f : PeerTable → PeerTable) : p.Neutral (p.withPeers f) := .of_same (by simp) (by simp)

theorem Part.hearOwnNumber_neutral (p : Part) (kind : FrameKind) : p.Neutral (p.hearOwnNumber kind) := by
  have counted := p.withPeers_neutral (fun t => { t with duplicateNode := bump t.duplicateNode })
  simp only [Part.hearOwnNumber]
  split
  · exact counted.trans ((Part.withPeers_neutral _ _).trans (Part.post_neutral _ _))
  · exact counted

theorem Part.countDuplicate_neutral (p : Part) : p.Neutral p.countDuplicate := .of_line id (by simp)

theorem Part.countBad_neutral (p : Part) : p.Neutral p.countBad := .of_line id (by simp)

theorem Part.countMalformed_neutral (p : Part) : p.Neutral p.countMalformed := .of_line id (by simp)

theorem Part.acceptFrame_neutral (p : Part) (sender seq : Nat) : p.Neutral (p.acceptFrame sender seq) := by
  simp only [Part.acceptFrame]
  split
  · exact .refl p
  split
  · exact p.withPeers_neutral _
  · exact (p.withPeers_neutral _).trans (Part.post_neutral _ _)

theorem Part.checkTimetable_neutral (p : Part) (sender edition : Nat) : p.Neutral (p.checkTimetable sender edition) := by
  simp only [Part.checkTimetable]
  split
  · exact (p.withPeers_neutral _).trans (Part.post_neutral _ _)
  · exact .refl p

theorem Part.checkFareEdition_neutral (p : Part) (sender edition : Nat) : p.Neutral (p.checkFareEdition sender edition) := by
  simp only [Part.checkFareEdition]
  split
  · exact (p.withPeers_neutral _).trans (Part.post_neutral _ _)
  · exact .refl p

theorem Part.checkClash_neutral (p : Part) (sender : Nat) (b : BeaconPayload) : p.Neutral (p.checkClash sender b) := by
  simp only [Part.checkClash]
  split
  · exact .refl p
  split
  · exact (p.withPeers_neutral _).trans (Part.post_neutral _ _)
  · exact .refl p

theorem Part.hearBeacon_keeps (p : Part) (sender : Nat) (b : BeaconPayload) : p.Keeps (p.hearBeacon sender b) := by
  refine Part.Keeps.trans ?_ (Part.hearClock_keeps _ _ _)
  refine Part.Neutral.keeps (.trans ?_ (Part.checkClash_neutral _ _ _))
  refine .trans ?_ (Part.checkFareEdition_neutral _ _ _)
  exact (p.withPeers_neutral _).trans (Part.checkTimetable_neutral _ _ _)

theorem Part.deliver_keeps (p : Part) (f : LineFrame) (ok : f.ok = true) : p.Keeps (p.deliver f) := by
  simp only [Part.deliver]
  split
  · exact p.hearBeacon_keeps _ _
  · rename_i u payload
    refine p.takeUpdate_keeps _ u ?_
    simp only [LineFrame.ok, payload, Bool.and_eq_true] at ok
    exact ok.2
  · exact p.hearAsk_keeps _ _ _
  · exact p.hearGrant_keeps _ _
  · exact (p.hearTaken_neutral _ _).keeps

/-- A good frame keeps the laws; a part that is not awake counts it only. -/
theorem Part.receiveGood_keeps (p : Part) (f : LineFrame) (ok : f.ok = true) :
    p.Keeps (p.receiveGood f) ∧ (p.awake = false → p.Neutral (p.receiveGood f)) := by
  simp only [Part.receiveGood]
  split
  · exact ⟨(p.withPeers_neutral _).keeps, fun _ => p.withPeers_neutral _⟩
  rename_i awake
  refine ⟨?_, fun h => absurd h (by simpa using awake)⟩
  split
  · exact (p.hearOwnNumber_neutral _).keeps
  split
  · exact p.countDuplicate_neutral.keeps
  · exact (p.acceptFrame_neutral _ _).keeps.trans (Part.deliver_keeps _ f ok)

/-- A spell judged good holds a frame of its kind's form (R148, R149). -/
theorem judgeSpell_good_ok {chars : List LineChar} {f : LineFrame} (h : judgeSpell chars = .good f) : f.ok = true := by
  simp only [judgeSpell] at h
  repeat' split at h
  all_goals cases h
  assumption

theorem Part.hear_keeps {α : Type} (p : Part) (x : Heard α) (payload : α → Payload) :
    p.Keeps (p.hear x payload) ∧ (p.awake = false → p.Neutral (p.hear x payload)) := by
  simp only [Part.hear]
  split
  · split
    · simp only [Part.receiveFrame]
      split
      · exact p.receiveGood_keeps _ ‹_›
      · exact ⟨p.countMalformed_neutral.keeps, fun _ => p.countMalformed_neutral⟩
    · simp only [Part.receiveChars]
      split
      · exact ⟨p.countBad_neutral.keeps, fun _ => p.countBad_neutral⟩
      · exact ⟨p.countMalformed_neutral.keeps, fun _ => p.countMalformed_neutral⟩
      · exact p.receiveGood_keeps _ (judgeSpell_good_ok ‹_›)
  · exact ⟨.refl p, fun _ => .refl p⟩

theorem Part.peerSilent_neutral (p : Part) (node : Nat) : p.Neutral (p.peerSilent node) :=
  ((p.withPeers_neutral _).trans (Part.post_neutral _ _)).trans (Part.clockPeerLost_neutral _ _)

theorem Part.peerGone_neutral (p : Part) (node : Nat) : p.Neutral (p.peerGone node) :=
  (((p.withPeers_neutral _).trans (Part.post_neutral _ _)).trans (Part.clockPeerLost_neutral _ _)).trans
    (Part.quotaPeerGone_neutral _ _)

theorem Part.offerBeacon_neutral (p : Part) : p.Neutral p.offerBeacon := by
  simp only [Part.offerBeacon]
  split
  · exact .refl p
  split
  · exact p.offer_neutral _ _
  · exact (p.offer_neutral _ _).trans (Part.withPeers_neutral _ _)

theorem Part.beaconDue_neutral (p : Part) : p.Neutral p.beaconDue :=
  (p.withPeers_neutral _).trans (Part.offerBeacon_neutral _)

/-! ### The halt line (R147 to R160) -/

theorem Part.withLine_neutral (p : Part) (f : LineInterface → LineInterface) (kept : p.line.Kept → (f p.line).Kept) :
    p.Neutral (p.withLine f) := .of_line kept (by simp)

/-- The line interface keeps its bounds where its slots, its numbers and the frame chosen stand. -/
theorem LineInterface.Kept.same {l l' : LineInterface} (k : l.Kept)
    (same : l'.slots = l.slots ∧ l'.nextSeq = l.nextSeq ∧ l'.nextFrame = l.nextFrame)
    (chosen : l'.tx.chosen = l.tx.chosen) : l'.Kept := by
  obtain ⟨slots, seq, frame⟩ := same
  exact k.congr (by rw [slots]) seq frame (by rw [chosen]; exact k.chosen)

theorem Transmitter.pause_chosen (t : Transmitter) : t.pause.chosen = t.chosen := by cases t <;> rfl

theorem Part.lineBusy_neutral (p : Part) : p.Neutral p.lineBusy := by
  simp only [Part.lineBusy]
  split
  · exact .refl p
  · exact p.withLine_neutral _ (fun k => k.same ⟨rfl, rfl, rfl⟩ (Transmitter.pause_chosen _))

theorem Part.lineQuiet_neutral (p : Part) : p.Neutral p.lineQuiet := by
  have quiet : p.Neutral (p.withLine (fun l => { l with busy := false, changedAt := p.lineTime })) :=
    p.withLine_neutral _ (fun k => k.same ⟨rfl, rfl, rfl⟩ rfl)
  simp only [Part.lineQuiet]
  split
  · exact .refl p
  split
  · exact quiet.trans (Part.choose_neutral _)
  · exact quiet

theorem Part.slotEnd_neutral (p : Part) : p.Neutral p.slotEnd := by
  simp only [Part.slotEnd]
  split
  · split
    · exact .refl p
    split
    · exact .refl p
    · rename_i found
      obtain ⟨same, mem⟩ := LineInterface.mem_ids_of_find found
      exact p.runWait_neutral _ _ (same ▸ mem)
  · exact .refl p

theorem Part.tellSent_neutral (p : Part) (sl : Slot) : p.Neutral (p.tellSent sl) := by
  simp only [Part.tellSent]
  split
  · exact p.trainReported_neutral _
  · exact p.grantSent_neutral _
  all_goals exact .refl p

theorem Part.tellGivenUp_neutral (p : Part) (sl : Slot) : p.Neutral (p.tellGivenUp sl) := by
  simp only [Part.tellGivenUp]
  split
  · exact p.trainReported_neutral _
  · exact p.grantGivenUp_neutral _
  all_goals exact .refl p

/-- Slots freed with the transmitter let go. -/
theorem LineInterface.Kept.freed {l l' : LineInterface} (k : l.Kept) (ids : List Nat)
    (same : l'.slots = (l.drop ids).slots ∧ l'.nextSeq = l.nextSeq ∧ l'.nextFrame = l.nextFrame) (idle : l'.tx = .idle) :
    l'.Kept :=
  ((l.drop ids).idle_kept (l.drop_kept ids k)).same same (by rw [idle])

theorem Part.sentWhole_neutral (p : Part) : p.Neutral p.sentWhole := by
  simp only [Part.sentWhole]
  split
  · rename_i f _
    have freed : p.Neutral (p.withLine (fun l => { l.drop [f] with tx := .idle, onLine := none })) :=
      p.withLine_neutral _ (fun k => k.freed [f] ⟨rfl, rfl, rfl⟩ rfl)
    split
    · exact freed
    · exact freed.trans (Part.tellSent_neutral _ _)
  · exact .refl p

theorem Part.collide_neutral (p : Part) : p.Neutral p.collide := by
  simp only [Part.collide]
  split
  · rename_i f sending
    refine p.withLine_neutral _ fun k => ?_
    exact k.congr (p.line.modify_ids f Slot.collided (fun _ => ⟨rfl, rfl⟩)) rfl rfl
      (fun i hi => k.chosen i (by rw [sending]; exact hi))
  · exact .refl p

theorem Part.giveUp_neutral (p : Part) (sl : Slot) : p.Neutral (p.giveUp sl) := by
  refine Part.Neutral.trans (Part.Neutral.trans ?_ (Part.post_neutral _ _)) (Part.tellGivenUp_neutral _ _)
  exact p.withLine_neutral _ (fun k => k.freed [sl.id] ⟨rfl, rfl, rfl⟩ rfl)

theorem Part.keepFrame_neutral (p : Part) (sl : Slot) : p.Neutral (p.keepFrame sl) := by
  have idle : p.Neutral (p.withLine (fun l => { l with tx := .idle })) := p.withLine_neutral _ (fun k => p.line.idle_kept k)
  simp only [Part.keepFrame]
  split
  · exact idle.trans (Part.grantCut_neutral _ _)
  · exact idle

theorem Part.endBreak_neutral (p : Part) : p.Neutral p.endBreak := by
  simp only [Part.endBreak]
  split
  · split
    · exact p.withLine_neutral _ (fun k => p.line.idle_kept k)
    split
    · exact p.giveUp_neutral _
    · exact p.keepFrame_neutral _
  · exact .refl p

/-! ### The key inputs (R204) -/

theorem Part.withKey_neutral (p : Part) (k : Key) (f : KeyState → KeyState) : p.Neutral (p.withKey k f) :=
  .of_same (by simp) (by simp)

theorem Part.countPress_neutral (p : Part) (k : Key) : p.Neutral (p.countPress k) :=
  (p.withKey_neutral _ _).trans (Part.post_neutral _ _)

theorem Part.pressed_neutral (p : Part) (k : Key) : p.Neutral (p.pressed k) := by
  simp only [Part.pressed]
  split
  · split
    · exact p.countPress_neutral k
    · exact (p.wake_neutral _ ‹_›).trans (Part.countPress_neutral _ _)
    · exact .refl p
  · exact .refl p

theorem Part.settleKey_neutral (p : Part) (k : Key) : p.Neutral (p.settleKey k) := by
  simp only [Part.settleKey]
  split
  · exact (p.withKey_neutral _ _).trans (Part.pressed_neutral _ _)
  · exact p.withKey_neutral _ _

theorem Part.keyInput_neutral (p : Part) (k : Key) (low : Bool) : p.Neutral (p.keyInput k low) := by
  simp only [Part.keyInput]
  split
  · exact .refl p
  split
  · exact p.withKey_neutral _ _
  · exact p.withKey_neutral _ _

/-! ### Deadlines (R52, R91, R170) -/

theorem Part.turnPage_neutral (p : Part) : p.Neutral p.turnPage := by
  refine Part.Neutral.trans (q := { p with page := { p.page with deadline := some (p.lineTime + p.intervalMs) } }) ?_
    (Part.rebuild_neutral _ _)
  exact .of_same (by simp) (by simp)

/-- A second ASK changes of the issue neither its train nor its places. -/
theorem Part.askAgain_neutral (p : Part) (i : IssueRecord) (h : p.sales.issue = some i) : p.Neutral (p.askAgain i) := by
  have again : ∀ j : IssueRecord, j.account = i.account → p.Neutral { p with sales := { p.sales with issue := some j } } :=
    fun j same => ⟨.of_same (by simp), by simp [Part.accounts, h, same]⟩
  simp only [Part.askAgain]
  split
  · exact again _ rfl
  split
  · refine Part.Neutral.trans ?_ (Part.sendAsk_neutral _ _ _)
    exact again _ rfl
  · exact again _ rfl

/-- A dozing part has no hold-off deadline to reach (R174). -/
theorem Part.holdOffEnds_neutral (p : Part) (came : p.holdOffCame = true) :
    p.Neutral { p with notices := p.notices.holdOffEnds } := by
  refine .of_queue (fun k => ⟨⟨k.kept.1, k.kept.2.1, k.kept.2.2.1, fun empty => ?_⟩, fun dozing => ?_⟩) (by simp) rfl
  · obtain ⟨attention, -⟩ := k.kept.2.2.2 empty
    have empty : p.notices.entries = [] := empty
    simp [NoticeQueue.holdOffEnds, empty, attention]
  · obtain ⟨-, deadline⟩ := k.low dozing
    simp [Part.holdOffCame, deadline, reached] at came

end Sys2Proof.Machine
end

section
namespace Sys2Proof.Machine

/-! ### Issues and sales (R86 to R106) -/

/-- With no issue in flight no place is reserved. -/
theorem Part.Reserving.unreserved {p : Part} {t : Option TrainKey} (k : p.Reserving t) (none : p.sales.issue = none) :
    p.Unreserved where
  issue := none
  reserved l hl := by rw [k.reserved l hl]; simp [Part.reservedFor, SalesUnit.issueFor, none]

theorem Part.Unreserved.reservesFor {p : Part} (u : p.Unreserved) (t : Option TrainKey) : p.ReservesFor t :=
  fun l hl some => absurd (u.reserved l hl) some

/-- A reservation for one train, where none was reserved. -/
theorem Part.Unreserved.reserve {p : Part} (u : p.Unreserved) (t : TrainKey) (k : Nat) :
    (p.moveOn (some t) (fun r => r.reserve k)).ReservesFor (some t) := by
  intro l hl some
  obtain ⟨r, hr, rfl⟩ := List.mem_map.mp hl
  by_cases same : r.train = t
  · simp [same, LedgerRecord.reserve]
  · rw [if_neg same] at some
    exact absurd (u.reserved r hr) some

/-- A linked train has a record (R29). -/
theorem Part.Reserving.found {p : Part} {x : Option TrainKey} (k : p.Reserving x) {t : TrainKey}
    (linked : p.trainLinked t = true) : (p.quota.find t).isSome = true := by
  simp only [Part.trainLinked] at linked
  cases h : p.board.find t with
  | none => simp [h] at linked
  | some e =>
    obtain ⟨mem, train⟩ := DepartureList.find_some h
    exact train ▸ k.linked e mem (by simpa [h] using linked)

/-- The issue that R89 puts in flight, before it has reserved a place. -/
def Part.newIssue (p : Part) (req : IssueRequest) (needed : Nat) : IssueRecord :=
  { request := req, needed, reserved := 0, asks := 1, askTime := some (p.lineTime + 500), deadline := p.lineTime + 1500 }

/-- A part with an issue just begun, none of its places reserved yet. -/
def Part.beginIssue (p : Part) (i : IssueRecord) : Part := { p with sales := { p.sales with issue := some i } }

theorem Part.beginIssue_sound {p : Part} (s : p.Sound) (none : p.sales.issue = none) (req : IssueRequest) (needed : Nat)
    (t : TrainKey) (train : req.inputs.train = some t) (sold : p.trainSellable t = true)
    (linked : p.trainLinked t = true) : (p.beginIssue (p.newIssue req needed)).Sound := by
  refine ⟨s.ledger, s.board, ⟨fun l hl => ?_, fun i hi => ?_, s.reserving.linked⟩⟩
  · rw [(s.reserving.unreserved none).reserved l hl]
    simp only [Part.reservedFor, SalesUnit.issueFor, Part.beginIssue, Part.newIssue]
    split <;> rename_i h <;> split at h <;> simp_all
    rw [← h]
  · simp only [Part.beginIssue, Option.mem_def, Option.some.injEq] at hi
    subst hi
    exact ⟨Nat.zero_le _, t, train, .inr sold, s.reserving.found linked⟩

/-- An issue in flight has reserved what its train held, as a top-up of a new issue would. -/
theorem Part.startIssue_keeps (p : Part) (req : IssueRequest) (needed : Nat) (t : TrainKey) (none : p.sales.issue = none)
    (train : req.inputs.train = some t) (sold : p.trainSellable t = true) (linked : p.trainLinked t = true)
    (short : p.quota.heldOf t ≤ needed) : p.Keeps (p.startIssue req needed t) := by
  let q := p.moveOn (some t) (fun r => r.reserve (p.quota.heldOf t))
  have asked : q.Neutral (q.sendAsk t (needed - p.quota.heldOf t)) := q.sendAsk_neutral _ _
  have bounds : p.Bounds (p.startIssue req needed t) :=
    ((p.moveOn_bounds _ _ (LedgerRecord.reserve_move _)).trans asked.toBounds).trans (.of_same ⟨rfl, rfl, rfl, rfl, rfl⟩)
  refine ⟨bounds, fun s => ⟨bounds.ledger s.ledger, bounds.board s.board, ?_⟩⟩
  have begun := Part.beginIssue_sound s none req needed t train sold linked
  have topped := Part.toppedUp_sound (t := t) (i := p.newIssue req needed) begun
    (by simp [SalesUnit.issueFor, Part.beginIssue, Part.newIssue, train])
  refine topped.reserving.congr ?_
  have least : min (p.newIssue req needed).shortfall (p.quota.heldOf t) = p.quota.heldOf t := by
    simp only [IssueRecord.shortfall, Part.newIssue]; omega
  have accounts := asked.accounts
  simp only [Part.accounts, Prod.mk.injEq] at accounts ⊢
  refine ⟨?_, ?_, ?_⟩
  · simp only [Part.startIssue, Part.toppedUp, Part.beginIssue, least]
    exact accounts.1
  · simp [Part.startIssue, Part.toppedUp, Part.beginIssue, IssueRecord.account, Part.newIssue, IssueRecord.shortfall,
      short]
  · exact accounts.2.2

theorem Part.takeIssue_keeps (p : Part) (req : IssueRequest) (needed : Nat) (none : p.sales.issue = none)
    (sold : p.trainOk req.inputs = true)
    (linked : 0 < needed → ∀ t, req.inputs.train = some t → p.trainLinked t = true) :
    p.Keeps (p.takeIssue req needed).1 := by
  simp only [Part.takeIssue]
  split
  · refine ⟨(p.commit_released req needed).1.bounds, fun s => ?_⟩
    have u := s.reserving.unreserved none
    exact Part.commit_sound s req needed s.ledger rfl rfl (u.reservesFor _) (fun _ => u.reserved)
  rename_i some
  split
  · exact .refl p
  rename_i t train
  split
  · have reserve := p.moveOn_bounds (Option.some t) _ (LedgerRecord.reserve_move needed)
    refine ⟨reserve.trans (Part.commit_released _ req needed).1.bounds, fun s => ?_⟩
    refine Part.commit_sound s req needed (reserve.ledger s.ledger) ?_ (by simp) ?_ (fun h => absurd h some)
    · exact Part.moveOn_trains _ _ _ (fun _ => rfl)
    · rw [train]; exact (s.reserving.unreserved none).reserve t needed
  · refine p.startIssue_keeps req needed t none train ?_ (linked (by omega) t train) (by omega)
    simpa [Part.trainOk, train] using sold

theorem Part.answerIssue_keeps (p : Part) (req : IssueRequest) : p.Keeps (p.answerIssue req).1 := by
  have fare := (p.computeFare_neutral req.inputs).keeps
  simp only [Part.answerIssue, Part.checkIssue]
  split
  · exact .refl p
  split
  · exact .refl p
  split
  · exact .refl p
  rename_i noIssue
  split
  · exact .refl p
  split
  · exact .refl p
  split
  · exact .refl p
  rename_i ok
  split
  · exact fare
  rename_i r _
  split
  · exact fare
  rename_i link
  refine fare.trans (Part.takeIssue_keeps _ _ _ (by simpa using noIssue) (by simpa [Part.trainOk, Part.trainSellable] using ok) ?_)
  intro some t train
  simpa [Part.lacksLink, some, train, Part.trainLinked] using link

theorem Part.answerAbortIssue_keeps (p : Part) : p.Keeps p.answerAbortIssue.1 := by
  simp only [Part.answerAbortIssue]
  split
  · exact .refl p
  split
  · exact .refl p
  · exact p.endIssue_keeps ‹_› _ LedgerRecord.returnReserved_move

theorem Part.unsellPlaces_neutral (p : Part) (f : SaleFields) : p.Neutral (p.unsellPlaces f) := by
  simp only [Part.unsellPlaces]
  split
  · exact .refl p
  split
  · exact .refl p
  · exact p.moveOn_neutral _ _ (LedgerRecord.unsell_move _ _)

theorem Part.topUpAfterVoid_keeps (p : Part) (f : SaleFields) : p.Keeps (p.topUpAfterVoid f) := by
  simp only [Part.topUpAfterVoid]
  split
  · exact .refl p
  split
  · exact p.topUp_keeps _
  · exact .refl p

theorem Part.voidSale_keeps (p : Part) (f : SaleFields) (n : Nat) : p.Keeps (p.voidSale f n) := by
  refine Part.Keeps.trans ?_ (Part.Neutral.keeps (Part.withSales_neutral _ _ rfl))
  refine Part.Keeps.trans ?_ (Part.topUpAfterVoid_keeps _ _)
  refine Part.Neutral.keeps (.trans ?_ (Part.unsellPlaces_neutral _ _))
  exact (p.write_neutral _ _).trans (Part.withSales_neutral _ _ rfl)

theorem Part.answerVoid_keeps (p : Part) (ref : TicketRef) : p.Keeps (p.answerVoid ref).1 := by
  simp only [Part.answerVoid]
  split
  · exact .refl p
  split
  · exact .refl p
  split
  · exact .refl p
  · exact p.voidSale_keeps _ _

theorem Part.answerReleaseJournal_neutral (p : Part) (number : Nat) : p.Neutral (p.answerReleaseJournal number).1 := by
  simp only [Part.answerReleaseJournal]
  split
  · exact p.withSales_neutral _ rfl
  · exact .refl p

/-! ### Clock, list and fares at the port (R15, R27 to R31, R40, R65 to R68, R83, R86) -/

theorem Part.answerSetTime_keeps (p : Part) (r : SetTimeRequest) : p.Keeps (p.answerSetTime r).1 := by
  simp only [Part.answerSetTime]
  split
  · exact .refl p
  · exact p.acceptTime_keeps r

theorem Part.setLoad_neutral (p : Part) (t : Option LoadTransfer) : p.Neutral (p.setLoad t) := p.withBoard_neutral _ rfl

theorem Part.answerLoadBegin_neutral (p : Part) (r : LoadBeginRequest) : p.Neutral (p.answerLoadBegin r).1 := by
  simp only [Part.answerLoadBegin]
  (repeat' split) <;> first | exact .refl p | exact p.setLoad_neutral _

theorem Part.answerLoadTrain_keeps (p : Part) (r : TrainRecord) : p.Keeps (p.answerLoadTrain r).1 := by
  simp only [Part.answerLoadTrain]
  split
  · exact .refl p
  split
  · exact .refl p
  split
  · exact (p.setLoad_neutral _).keeps
  rename_i inRange
  split
  · exact (p.setLoad_neutral _).keeps
  rename_i new
  split
  · exact (p.setLoad_neutral _).keeps
  rename_i room
  refine (p.setLoad_neutral _).keeps.trans (Part.loadEntry_keeps _ r ?_ ?_ ?_)
  · simpa using inRange
  · simpa [Part.setLoad, DepartureList.find] using new
  · simpa [Part.setLoad] using room

theorem Part.answerLoadEnd_neutral (p : Part) : p.Neutral p.answerLoadEnd.1 := by
  simp only [Part.answerLoadEnd]
  split
  · exact .refl p
  split
  · exact .refl p
  · exact p.withBoard_neutral _ rfl

theorem Part.answerLoadAbort_neutral (p : Part) : p.Neutral p.answerLoadAbort.1 := by
  simp only [Part.answerLoadAbort]
  split
  · exact .refl p
  · exact p.setLoad_neutral _

theorem Part.answerTrainUpdate_keeps (p : Part) (x : Option Update) : p.Keeps (p.answerTrainUpdate x).1 := by
  simp only [Part.answerTrainUpdate]
  split
  · exact .refl p
  split
  · exact .refl p
  split
  · exact .refl p
  rename_i u ok
  split <;> exact p.takeUpdate_keeps none u (by simpa using ok)

/-- A change of the fare calculator. -/
theorem Part.withFares_neutral (p : Part) (f : FareCalculator) : p.Neutral { p with fares := f } := .of_same (by simp) rfl

theorem Part.answerFaresBegin_neutral (p : Part) (edition : Nat) : p.Neutral (p.answerFaresBegin edition).1 := by
  simp only [Part.answerFaresBegin]
  (repeat' split) <;> first | exact .refl p | exact p.withFares_neutral _

theorem Part.answerFaresItem_neutral (p : Part) (x : Option FareItem) : p.Neutral (p.answerFaresItem x).1 := by
  simp only [Part.answerFaresItem]
  (repeat' split) <;> first | exact .refl p | exact p.withFares_neutral _

theorem Part.answerFaresEnd_neutral (p : Part) : p.Neutral p.answerFaresEnd.1 := by
  simp only [Part.answerFaresEnd]
  split
  · exact .refl p
  · exact p.withFares_neutral _

theorem Part.answerFaresAbort_neutral (p : Part) : p.Neutral p.answerFaresAbort.1 := by
  simp only [Part.answerFaresAbort]
  split
  · exact .refl p
  · exact p.withFares_neutral _

theorem Part.answerQuote_neutral (p : Part) (i : FareInputs) : p.Neutral (p.answerQuote i).1 := by
  simp only [Part.answerQuote]
  split
  · exact .refl p
  split
  · exact .refl p
  (repeat' split) <;> exact p.computeFare_neutral i

/-! ### Notices, page and DOZE at the port (R56, R169, R200) -/

/-- A queue settled after a removal is within its bounds (R172). -/
theorem Part.QueueKept.settled {p : Part} (size : p.notices.entries.length ≤ 64)
    (full : 0 < p.notices.lostCount → p.notices.entries.length = 64)
    (first : p.notices.lostCount = 0 ↔ p.notices.firstLost = none) (low : p.LowInDoze) :
    { p with notices := p.notices.settle }.QueueKept := by
  simp only [NoticeQueue.settle]
  split
  · exact ⟨⟨size, full, first, fun _ => ⟨rfl, rfl⟩⟩, fun _ => ⟨rfl, rfl⟩⟩
  · rename_i some
    exact ⟨⟨size, full, first, fun empty => absurd (by simpa using empty) some⟩, low⟩

/-- Notices taken, LOST stored in the room they leave, and the line settled (R168, R172). -/
theorem Part.removeNotices_queueKept {p : Part} (k : p.QueueKept) : p.removeNotices.QueueKept := by
  obtain ⟨⟨size, full, first, -⟩, low⟩ := k
  simp only [Part.removeNotices, Part.storeLost]
  split
  · rename_i none
    have none : p.notices.lostCount = 0 := none
    refine Part.QueueKept.settled ?_ (fun h => ?_) first low
    · simp only [List.length_drop]; omega
    · exact absurd h (by simp [none])
  · rename_i gap
    have gap : p.notices.lostCount ≠ 0 := gap
    have held := full (by omega)
    have stored := Part.QueueKept.post (p := { p with notices := { p.notices with
      entries := p.notices.entries.drop 8, lostCount := 0, firstLost := none } }) ⟨⟨?_, ?_, ?_, ?_⟩, low⟩
      (lostNotice { p.notices with entries := p.notices.entries.drop 8 })
    · exact Part.QueueKept.settled stored.kept.1 stored.kept.2.1 stored.kept.2.2.1 stored.low
    · simp only [List.length_drop]; omega
    · intro h; exact absurd h (by simp)
    · simp
    · intro empty
      have := congrArg List.length empty
      simp only [List.length_drop, List.length_nil] at this
      omega

theorem Part.storeLost_neutral_rest (p : Part) : p.storeLost.line = p.line ∧ p.storeLost.board = p.board
    ∧ p.storeLost.quota = p.quota ∧ p.storeLost.sales = p.sales := by
  simp only [Part.storeLost]
  split <;> simp

theorem Part.storeLost_state (p : Part) : p.storeLost.doze.state = .selfTest ↔ p.doze.state = .selfTest := by
  simp only [Part.storeLost]
  split
  · rfl
  · exact (Part.post_neutral _ _).state

theorem Part.removeNotices_neutral (p : Part) : p.Neutral p.removeNotices := by
  obtain ⟨line, board, quota, sales⟩ := Part.storeLost_neutral_rest
    { p with notices := { p.notices with entries := p.notices.entries.drop 8 } }
  refine .of_queue (fun k => Part.removeNotices_queueKept k) ⟨?_, ?_, ?_, ?_⟩ ?_
  · exact Part.storeLost_state { p with notices := { p.notices with entries := p.notices.entries.drop 8 } }
  · simpa only [Part.removeNotices] using line
  · simp only [Part.removeNotices, board]
  · simp only [Part.removeNotices, quota]
  · simp only [Part.removeNotices, sales]

theorem Part.answerTakeNotices_neutral (p : Part) : p.Neutral p.answerTakeNotices.1 := by
  simp only [Part.answerTakeNotices]
  split
  · exact .refl p
  · exact p.removeNotices_neutral

theorem Part.answerReadPage_neutral (p : Part) : p.Neutral p.answerReadPage.1 := by
  simp only [Part.answerReadPage]
  split <;> exact .refl p

theorem Part.answerReadStatus_neutral (p : Part) (r : StatusRequest) : p.Neutral (p.answerReadStatus r).1 := by
  simp only [Part.answerReadStatus]
  split <;> exact .refl p

theorem Part.enterDoze_neutral (p : Part) (awake : p.doze.state ≠ .selfTest) : p.Neutral p.enterDoze := by
  refine .of_queue (fun k => ?_) (by simp [Part.enterDoze, awake]) rfl
  obtain ⟨size, full, first, -⟩ := k.kept
  exact ⟨⟨size, full, first, fun _ => ⟨rfl, rfl⟩⟩, fun _ => ⟨rfl, rfl⟩⟩

theorem Part.answerDoze_neutral (p : Part) (awake : p.doze.state ≠ .selfTest) : p.Neutral p.answerDoze.1 := by
  simp only [Part.answerDoze]
  split
  · exact .refl p
  · exact p.enterDoze_neutral awake

/-! ### START (R187) -/

theorem Part.adopt_neutral (p : Part) (r : StartRequest) (waiting : p.doze.state = .waitingStart) : p.Neutral (p.adopt r) := by
  refine .of_queue (fun k => ⟨k.kept, fun dozing => ?_⟩) (by simp [Part.adopt, waiting]) rfl
  simp [Part.adopt] at dozing

theorem Part.minuteEvent_keeps (p : Part) : p.Keeps p.minuteEvent := by
  simp only [Part.minuteEvent, Part.handMinute]
  refine Part.Keeps.trans ?_ (threeInOrder_trans (fun a b => a.trans b) (fun q => q.boardMinute_keeps _)
    (fun q => q.boardChanged_neutral.keeps) (fun q => q.dozeMinute_neutral.keeps) _ _)
  exact Part.Keeps.trans (p.withClock_neutral _).keeps (Part.drawOrder_neutral _).keeps

theorem Part.acceptClock_keeps (p : Part) : p.Keeps p.acceptClock := by
  simp only [Part.acceptClock]
  split
  · exact p.salesDayCheck_keeps.trans (Part.minuteEvent_keeps _)
  · exact .refl p

theorem Part.reportHeld_neutral (p : Part) (k : Key) : p.Neutral (p.reportHeld k) := by
  simp only [Part.reportHeld]
  split
  · exact p.post_neutral _
  · exact .refl p

theorem Part.answerStart_keeps (p : Part) (r : StartRequest) (waiting : p.doze.state = .waitingStart) :
    p.Keeps (p.answerStart r).1 := by
  simp only [Part.answerStart]
  split
  · exact .refl p
  refine Part.Keeps.trans ?_ ((Part.reportHeld_neutral _ .a).trans (Part.reportHeld_neutral _ .b)).keeps
  refine Part.Keeps.trans ?_ (Part.beaconDue_neutral _).keeps
  refine Part.Keeps.trans ?_ (Part.acceptClock_keeps _)
  exact (((p.adopt_neutral r waiting).trans (Part.writeAlways_neutral _ _)).trans (Part.startPages_neutral _)).keeps

end Sys2Proof.Machine
end

section
namespace Sys2Proof.Machine

/-! ### What every step keeps (R20, R110, R116, R151, R166) -/

/-- Going from `p` to `q` keeps each store's bounds, and the agreement of ledger, issue and list. -/
structure Part.Lasts (p q : Part) : Prop where
  notices : p.QueueKept → q.QueueKept
  line : p.line.Kept → q.line.Kept
  board : p.board.Kept → q.board.Kept
  ledger : p.quota.Balanced → q.quota.Balanced
  agrees : p.quota.Balanced → p.board.Kept → p.ReservedAgrees → q.ReservedAgrees

theorem Part.Lasts.refl (p : Part) : p.Lasts p := ⟨id, id, id, id, fun _ _ k => k⟩

theorem Part.Lasts.trans {p q r : Part} (a : p.Lasts q) (b : q.Lasts r) : p.Lasts r :=
  ⟨b.notices ∘ a.notices, b.line ∘ a.line, b.board ∘ a.board, b.ledger ∘ a.ledger,
    fun law kept k => b.agrees (a.ledger law) (a.board kept) (a.agrees law kept k)⟩

/-- Outside self-test the agreement is the law of the reserved places. -/
theorem Part.reservedAgrees_iff {p : Part} (awake : p.doze.state ≠ .selfTest) : p.ReservedAgrees ↔ p.Reserving none := by
  constructor
  · rintro ⟨-, agrees⟩
    obtain ⟨reserved, issue, linked⟩ := agrees awake
    refine ⟨reserved, fun i hi => ?_, linked⟩
    obtain ⟨le, k, hk, sell, found⟩ := issue i hi
    exact ⟨le, k, hk, .inr sell, found⟩
  · rintro ⟨reserved, issue, linked⟩
    refine ⟨fun h => absurd h awake, fun _ => ⟨reserved, fun i hi => ?_, linked⟩⟩
    obtain ⟨le, k, hk, sell, found⟩ := issue i hi
    exact ⟨le, k, hk, sell.resolve_left (by simp), found⟩

theorem Part.Keeps.lasts {p q : Part} (k : p.Keeps q) (awake : p.doze.state ≠ .selfTest) : p.Lasts q where
  notices := k.notices
  line := k.line
  board := k.board
  ledger := k.ledger
  agrees law kept agrees :=
    (Part.reservedAgrees_iff (fun h => awake (k.state.mp h))).mpr
      (k.sound ⟨law, kept, (Part.reservedAgrees_iff awake).mp agrees⟩).reserving

theorem Part.Neutral.lasts {p q : Part} (n : p.Neutral q) : p.Lasts q := by
  by_cases awake : p.doze.state = .selfTest
  · refine ⟨n.notices, n.line, n.board, n.ledger, fun _ _ agrees => ?_⟩
    obtain ⟨issue, entries⟩ := agrees.1 awake
    have same := n.accounts
    simp only [Part.accounts, issue, entries, Prod.mk.injEq, Option.map_none, Option.map_eq_none_iff, List.map_nil,
      List.map_eq_nil_iff] at same
    exact ⟨fun _ => same.2, fun other => absurd (n.state.mpr awake) other⟩
  · exact n.keeps.lasts awake

/-! ### Resets and self-test (R193 to R197) -/

theorem Part.resetWith_lasts (p : Part) (kind : ResetKind) : p.Lasts (p.resetWith kind) where
  notices _ := ⟨by simp [Part.resetWith, NoticeQueue.Kept, NoticeQueue.reset], fun _ => ⟨rfl, rfl⟩⟩
  line _ := by
    simp [Part.resetWith, LineInterface.Kept, LineInterface.reset, LineInterface.used, Transmitter.chosen]
  board _ := by simp [Part.resetWith, DepartureList.Kept, DepartureList.reset]
  ledger k := k
  agrees _ _ _ := ⟨fun _ => ⟨rfl, rfl⟩, fun awake => absurd rfl awake⟩

theorem Part.withSupply_neutral (p : Part) (s : Supply) : p.Neutral (p.withSupply s) := .of_same (by simp) (by simp)

theorem Part.powerOn_lasts (p : Part) : p.Lasts p.powerOn := by
  refine Part.Lasts.trans ?_ (Part.resetWith_lasts _ _)
  exact Part.Neutral.lasts (.of_same ⟨rfl, rfl, rfl, rfl, rfl⟩ rfl)

theorem Part.assertReset_lasts (p : Part) : p.Lasts p.assertReset := by
  have held : p.Lasts { p with supply := { p.supply with resetHeld := true } } :=
    Part.Neutral.lasts (.of_same ⟨rfl, rfl, rfl, rfl, rfl⟩ rfl)
  simp only [Part.assertReset]
  split
  · exact held.trans (Part.resetWith_lasts _ _)
  · exact held

theorem Part.releaseReset_neutral (p : Part) : p.Neutral p.releaseReset := by
  simp only [Part.releaseReset]
  split
  · exact .of_same ⟨rfl, rfl, rfl, rfl, rfl⟩ rfl
  · exact .refl p

theorem Part.warmStart_bounds (p : Part) : p.Bounds p.warmStart :=
  .of_ledger (fun k => k.map LedgerRecord.repair rfl (fun _ _ => rfl) (fun r _ h => r.repair_balanced h))
    (by simp [Part.warmStart])

theorem Part.coldStart_bounds (p : Part) : p.Bounds p.coldStart := by
  refine .of_ledger (fun _ => ?_) (by simp [Part.coldStart])
  simp [Part.coldStart, QuotaUnit.Balanced]

/-- Once its memory is judged, a part in self-test has no place reserved and no issue (R134, R195, R196). -/
theorem Part.started_unreserved {p : Part} (issue : p.sales.issue = none) :
    (if p.retained.good then p.warmStart else p.coldStart).Unreserved := by
  split
  · refine ⟨issue, fun l hl => ?_⟩
    obtain ⟨r, -, rfl⟩ := List.mem_map.mp hl
    rfl
  · exact ⟨issue, fun l hl => absurd hl (by simp [Part.coldStart])⟩

theorem Part.endSelfTest_lasts (p : Part) (passes : Bool) (testing : p.doze.state = .selfTest) :
    p.Lasts (p.endSelfTest passes) := by
  have started : p.Bounds (if p.retained.good then p.warmStart else p.coldStart) := by
    split
    · exact p.warmStart_bounds
    · exact p.coldStart_bounds
  have entries : (p.endSelfTest passes).board.entries = p.board.entries := by
    simp only [Part.endSelfTest]; split <;> simp [Part.warmStart, Part.coldStart]
  have ended : (p.endSelfTest passes).doze.state ≠ .selfTest := by
    simp only [Part.endSelfTest]; split <;> simp
  have other : (p.endSelfTest passes).doze.state ≠ .dozing := by
    simp only [Part.endSelfTest]; split <;> simp
  refine ⟨fun k => ⟨?_, fun dozing => absurd dozing other⟩, fun k => ?_, fun k => ?_, fun k => ?_, fun _ _ agrees => ?_⟩
  · exact (Part.QueueKept.note ((started.notices k).congr rfl rfl) _).kept
  · simpa [Part.endSelfTest] using started.line k
  · simpa only [DepartureList.Kept, entries] using k
  · simpa [Part.endSelfTest] using started.ledger k
  · obtain ⟨noIssue, noEntries⟩ := agrees.1 testing
    obtain ⟨issue, reserved⟩ := Part.started_unreserved noIssue
    rw [Part.reservedAgrees_iff ended]
    refine ⟨fun l hl => ?_, fun i hi => ?_, fun e he => ?_⟩
    · rw [reserved l (by simpa [Part.endSelfTest] using hl)]
      have none : (p.endSelfTest passes).sales.issue = none := by simpa [Part.endSelfTest] using issue
      simp [Part.reservedFor, SalesUnit.issueFor, none]
    · have none : (p.endSelfTest passes).sales.issue = none := by simpa [Part.endSelfTest] using issue
      simp [none] at hi
    · simp [entries, noEntries] at he

/-! ### The unit port (R177 to R184) -/

theorem Part.withPort_neutral (p : Part) (f : UnitPort → UnitPort) : p.Neutral (p.withPort f) := .of_same (by simp) (by simp)

theorem Part.putReply_neutral (p : Part) (kind : Nat) (a : Answer) : p.Neutral (p.putReply kind a) := .of_same (by simp) (by simp)

theorem Part.wakeFor_neutral (p : Part) (k : RequestKind) : p.Neutral (p.wakeFor k) := by
  simp only [Part.wakeFor]
  split
  · rename_i asleep
    exact p.wake_neutral _ asleep.1
  · exact .refl p

/-- Every request at its owner keeps the laws; START is taken in WAITING_START alone. -/
theorem Part.answer_lasts (p : Part) (r : Request) (awake : p.doze.state ≠ .selfTest)
    (start : r.kind = .start → p.doze.state = .waitingStart) : p.Lasts (p.answer r).1 := by
  cases r with
  | start x => exact (p.answerStart_keeps x (start rfl)).lasts awake
  | restart => exact p.resetWith_lasts _
  | setTime x => exact (p.answerSetTime_keeps x).lasts awake
  | loadBegin x => exact (p.answerLoadBegin_neutral x).lasts
  | loadTrain x => exact (p.answerLoadTrain_keeps x).lasts awake
  | loadEnd => exact p.answerLoadEnd_neutral.lasts
  | loadAbort => exact p.answerLoadAbort_neutral.lasts
  | trainUpdate u => exact (p.answerTrainUpdate_keeps u).lasts awake
  | faresBegin edition => exact (p.answerFaresBegin_neutral edition).lasts
  | faresItem i => exact (p.answerFaresItem_neutral i).lasts
  | faresEnd => exact p.answerFaresEnd_neutral.lasts
  | faresAbort => exact p.answerFaresAbort_neutral.lasts
  | quote i => exact (p.answerQuote_neutral i).lasts
  | issue x => exact (p.answerIssue_keeps x).lasts awake
  | abortIssue => exact p.answerAbortIssue_keeps.lasts awake
  | void t => exact (p.answerVoid_keeps t).lasts awake
  | readJournal first => exact .refl p
  | releaseJournal number => exact (p.answerReleaseJournal_neutral number).lasts
  | takeNotices => exact p.answerTakeNotices_neutral.lasts
  | readPage => exact p.answerReadPage_neutral.lasts
  | readStatus x => exact (p.answerReadStatus_neutral x).lasts
  | clearFlags => exact (p.withFares_neutral _).lasts
  | doze => exact (p.answerDoze_neutral awake).lasts

/-- A part state other than WAITING_START turns a START away (R183). -/
theorem PartState.waitingStart_of_taken {st : PartState} (awake : st ≠ .selfTest) (h : st.refusal .start = none) :
    st = .waitingStart := by
  cases st <;> simp_all [PartState.refusal]

theorem Part.judgeState_lasts (p : Part) (r : Request) (awake : p.doze.state ≠ .selfTest) : p.Lasts (p.judgeState r) := by
  simp only [Part.judgeState]
  split
  · exact (p.putReply_neutral _ _).lasts
  rename_i taken
  have answered := p.answer_lasts r awake (fun h => PartState.waitingStart_of_taken awake (h ▸ taken))
  simp only [Part.handle]
  split
  · exact answered
  · exact answered.trans (Part.putReply_neutral _ _ _).lasts

theorem Part.takeRequest_lasts (p : Part) (kind : Nat) (r : Option Request) : p.Lasts (p.takeRequest kind r) := by
  simp only [Part.takeRequest]
  split
  · exact (p.putReply_neutral _ _).lasts
  rename_i awake
  split
  · exact (p.putReply_neutral _ _).lasts
  split
  · have woken := p.wakeFor_neutral (Request.kind ‹_›)
    exact woken.lasts.trans (Part.judgeState_lasts _ _ (fun h => awake (woken.state.mp h)))
  · exact (p.putReply_neutral _ _).lasts

theorem Part.endSend_lasts (p : Part) (judge : Part → Part) (judged : ∀ q : Part, q.Lasts (judge q)) :
    p.Lasts (p.endSend judge) := by
  simp only [Part.endSend]
  split
  · have shifted : p.Lasts p.shiftStatus := (p.withPort_neutral _).lasts
    split
    · exact shifted.trans (Part.withPort_neutral _ _).lasts
    · exact shifted.trans (judged _)
  · exact .refl p

theorem Part.takeFrame_lasts (p : Part) (kind : Nat) (r : Option Request) : p.Lasts (p.takeFrame kind r) :=
  (p.withPort_neutral _).lasts.trans (Part.takeRequest_lasts _ _ _)

theorem Part.sendBytes_lasts (p : Part) (bytes : List Byte) : p.Lasts (p.sendBytes bytes) := by
  refine p.endSend_lasts _ fun q => ?_
  split
  · exact ((q.withPort_neutral _).trans (Part.putReply_neutral _ _ _)).lasts
  · exact q.takeFrame_lasts _ _

theorem Part.fetch_neutral (p : Part) (bytes : Nat) : p.Neutral (p.fetch bytes) := by
  simp only [Part.fetch]
  exact p.withPort_neutral _

theorem Part.transfer_lasts (p : Part) (bytes : List Byte) : p.Lasts (p.transfer bytes) := by
  cases bytes with
  | nil => exact .refl p
  | cons first rest =>
    rw [Part.transfer_cons]
    split
    · exact p.sendBytes_lasts rest
    split
    · split
      · exact (p.fetch_neutral _).lasts
      · exact .refl p
    · split
      · exact (p.withPort_neutral _).lasts
      · exact .refl p

theorem Part.send_lasts {α : Type} (p : Part) (x : Sent α) (request : α → Request) : p.Lasts (p.send x request) := by
  cases x with
  | clean r => exact p.endSend_lasts _ (fun q => q.takeFrame_lasts _ _)
  | raw bytes => exact p.transfer_lasts bytes

/-! ### Deadlines and frames -/

theorem Part.hear_lasts {α : Type} (p : Part) (x : Heard α) (payload : α → Payload) : p.Lasts (p.hear x payload) := by
  obtain ⟨keeps, idle⟩ := p.hear_keeps x payload
  by_cases testing : p.doze.state = .selfTest
  · exact (idle (by simp [Part.awake, testing])).lasts
  · exact keeps.lasts testing

/-- An operation behind a test that only a part in RUNNING or DOZING passes. -/
theorem Part.Lasts.of_awake {p q : Part} {c : Prop} [Decidable c] (awake : c → p.awake = true) (keeps : c → p.Keeps q) :
    p.Lasts (if c then q else p) := by
  split
  · rename_i h
    exact (keeps h).lasts (fun testing => by have := awake h; simp [Part.awake, testing] at this)
  · exact .refl p

theorem Part.Lasts.of_neutral {p q : Part} {c : Prop} [Decidable c] (neutral : c → p.Neutral q) :
    p.Lasts (if c then q else p) := by
  split
  · exact (neutral ‹_›).lasts
  · exact .refl p

theorem Part.awake_of_acting {p : Part} (h : p.acting = true) : p.awake = true := by
  simp only [Part.acting, Bool.and_eq_true] at h
  exact h.2

theorem Part.Keeps.lasts_of_acting {p q : Part} (k : p.Keeps q) (acting : p.acting = true) : p.Lasts q :=
  k.lasts (fun testing => by have := Part.awake_of_acting acting; simp [Part.awake, testing] at this)

theorem Part.slewPeriod_lasts (p : Part) : p.Lasts p.slewPeriod := by
  by_cases testing : p.doze.state = .selfTest
  · have still : p.slewPeriod = p.withClock HaltClock.slewed := by
      have idle : (p.withClock HaltClock.slewed).awake = false := by simp [Part.awake, testing]
      have check : (p.withClock HaltClock.slewed).salesDayCheck = p.withClock HaltClock.slewed := by
        simp [Part.salesDayCheck, idle]
      simp [Part.slewPeriod, Part.clockCheck, check, Part.minuteCheck, Part.minuteDue, idle]
    rw [still]
    exact (p.withClock_neutral _).lasts
  · exact p.slewPeriod_keeps.lasts testing

end Sys2Proof.Machine
end

section
namespace Sys2Proof.Machine

theorem Part.lasts_of_issueCame (p : Part) :
    p.Lasts (match p.issueCame with | none => p | some i => p.endIssue i .quotaExhausted LedgerRecord.returnReserved) := by
  have came : ∀ i, p.issueCame = some i → p.acting = true ∧ p.sales.issue = some i := by
    intro i h
    simp only [Part.issueCame] at h
    repeat' split at h
    all_goals cases h
    exact ⟨‹_›, ‹_›⟩
  cases h : p.issueCame with
  | none => exact .refl p
  | some i =>
    obtain ⟨acting, issue⟩ := came i h
    exact (p.endIssue_keeps issue _ LedgerRecord.returnReserved_move).lasts_of_acting acting

theorem Part.lasts_of_askCame (p : Part) : p.Lasts (match p.askCame with | none => p | some i => p.askAgain i) := by
  have came : ∀ i, p.askCame = some i → p.sales.issue = some i := by
    intro i h
    simp only [Part.askCame] at h
    repeat' split at h
    all_goals cases h
    assumption
  cases h : p.askCame with
  | none => exact .refl p
  | some i => exact (p.askAgain_neutral i (came i h)).lasts

theorem Part.lasts_of_refreshCame (p : Part) (t : TrainKey) :
    p.Lasts (match p.refreshCame t with | none => p | some e => p.refreshEntry e) := by
  cases p.refreshCame t with
  | none => exact .refl p
  | some e => exact (p.refreshEntry_neutral e).lasts

theorem Part.selfTestEnd_lasts (p : Part) (passes : Bool) :
    p.Lasts (if p.selfTesting then p.endSelfTest passes else p) := by
  split
  · rename_i testing
    simp only [Part.selfTesting, Bool.and_eq_true, decide_eq_true_eq] at testing
    exact p.endSelfTest_lasts passes testing.2
  · exact .refl p

theorem Part.lineTimeEnd_lasts (p : Part) : p.Lasts (if p.lineTimeEnded then p.resetWith .restart else p) := by
  split
  · exact p.resetWith_lasts _
  · exact .refl p

theorem Part.lasts_of_minuteCame (p : Part) : p.Lasts (if p.minuteCame then p.clockCheck else p) := by
  refine .of_awake (fun came => ?_) (fun _ => p.clockCheck_keeps)
  simp only [Part.minuteCame, Part.minuteDue, Bool.and_eq_true] at came
  exact came.2.1.1

theorem Part.lasts_of_slewCame (p : Part) : p.Lasts (if p.slewCame then p.slewPeriod else p) := by
  split
  · exact p.slewPeriod_lasts
  · exact .refl p

/-- A command takes the part where each store's bounds and the agreement of ledger, issue and list last. -/
theorem exec_lasts (c : Instr) (s : State) : ∃ q, exec c s = .next ⟨q, s.pending⟩ ∧ s.part.Lasts q := by
  cases c with
  | start x => exact ⟨_, rfl, s.part.send_lasts x _⟩
  | restart x => exact ⟨_, rfl, s.part.send_lasts x _⟩
  | setTime x => exact ⟨_, rfl, s.part.send_lasts x _⟩
  | loadBegin x => exact ⟨_, rfl, s.part.send_lasts x _⟩
  | loadTrain x => exact ⟨_, rfl, s.part.send_lasts x _⟩
  | loadEnd x => exact ⟨_, rfl, s.part.send_lasts x _⟩
  | loadAbort x => exact ⟨_, rfl, s.part.send_lasts x _⟩
  | trainUpdate x => exact ⟨_, rfl, s.part.send_lasts x _⟩
  | faresBegin x => exact ⟨_, rfl, s.part.send_lasts x _⟩
  | faresItem x => exact ⟨_, rfl, s.part.send_lasts x _⟩
  | faresEnd x => exact ⟨_, rfl, s.part.send_lasts x _⟩
  | faresAbort x => exact ⟨_, rfl, s.part.send_lasts x _⟩
  | quote x => exact ⟨_, rfl, s.part.send_lasts x _⟩
  | issue x => exact ⟨_, rfl, s.part.send_lasts x _⟩
  | abortIssue x => exact ⟨_, rfl, s.part.send_lasts x _⟩
  | void x => exact ⟨_, rfl, s.part.send_lasts x _⟩
  | readJournal x => exact ⟨_, rfl, s.part.send_lasts x _⟩
  | releaseJournal x => exact ⟨_, rfl, s.part.send_lasts x _⟩
  | takeNotices x => exact ⟨_, rfl, s.part.send_lasts x _⟩
  | readPage x => exact ⟨_, rfl, s.part.send_lasts x _⟩
  | readStatus x => exact ⟨_, rfl, s.part.send_lasts x _⟩
  | clearFlags x => exact ⟨_, rfl, s.part.send_lasts x _⟩
  | doze x => exact ⟨_, rfl, s.part.send_lasts x _⟩
  | fetch bytes => exact ⟨_, rfl, .of_neutral (fun _ => s.part.fetch_neutral bytes)⟩
  | powerOn => exact ⟨_, rfl, s.part.powerOn_lasts⟩
  | resetPin => exact ⟨_, rfl, s.part.assertReset_lasts⟩
  | resetPinRelease => exact ⟨_, rfl, s.part.releaseReset_neutral.lasts⟩
  | mainSupplyLoss => exact ⟨_, rfl, (s.part.withSupply_neutral _).lasts⟩
  | backupLoss => exact ⟨_, rfl, (s.part.withSupply_neutral _).lasts⟩
  | selfTestEnd passes => exact ⟨_, rfl, s.part.selfTestEnd_lasts passes⟩
  | lineTimeEnd => exact ⟨_, rfl, s.part.lineTimeEnd_lasts⟩
  | minuteEvent => exact ⟨_, rfl, s.part.lasts_of_minuteCame⟩
  | slewPeriod => exact ⟨_, rfl, s.part.lasts_of_slewCame⟩
  | sourceDeadline => exact ⟨_, rfl, .of_neutral (fun _ => s.part.withClock_neutral _)⟩
  | referenceLapse => exact ⟨_, rfl, .of_neutral (fun _ => s.part.withClock_neutral _)⟩
  | refreshDeadline t => exact ⟨_, rfl, s.part.lasts_of_refreshCame t⟩
  | intervalDeadline => exact ⟨_, rfl, .of_neutral (fun _ => s.part.turnPage_neutral)⟩
  | askTime => exact ⟨_, rfl, s.part.lasts_of_askCame⟩
  | issueDeadline => exact ⟨_, rfl, s.part.lasts_of_issueCame⟩
  | watchExpiry asker number => exact ⟨_, rfl, .of_neutral (fun _ => s.part.expireWatch_neutral asker number)⟩
  | takenDeadline t asker number => exact ⟨_, rfl, .of_neutral (fun _ => s.part.grantOverdue_neutral t asker number)⟩
  | silentDeadline node => exact ⟨_, rfl, .of_neutral (fun _ => s.part.peerSilent_neutral node)⟩
  | goneDeadline node => exact ⟨_, rfl, .of_neutral (fun _ => s.part.peerGone_neutral node)⟩
  | beaconDeadline => exact ⟨_, rfl, .of_neutral (fun _ => s.part.beaconDue_neutral)⟩
  | holdOffDeadline => exact ⟨_, rfl, .of_neutral s.part.holdOffEnds_neutral⟩
  | keyInputChange k low => exact ⟨_, rfl, (s.part.keyInput_neutral k low).lasts⟩
  | settleDeadline k => exact ⟨_, rfl, .of_neutral (fun _ => s.part.settleKey_neutral k)⟩
  | lineBusy => exact ⟨_, rfl, .of_neutral (fun _ => s.part.lineBusy_neutral)⟩
  | lineQuiet => exact ⟨_, rfl, .of_neutral (fun _ => s.part.lineQuiet_neutral)⟩
  | slotEnd => exact ⟨_, rfl, .of_neutral (fun _ => s.part.slotEnd_neutral)⟩
  | sentWhole => exact ⟨_, rfl, .of_neutral (fun _ => s.part.sentWhole_neutral)⟩
  | collision => exact ⟨_, rfl, .of_neutral (fun _ => s.part.collide_neutral)⟩
  | breakEnd => exact ⟨_, rfl, .of_neutral (fun _ => s.part.endBreak_neutral)⟩
  | badFrame => exact ⟨_, rfl, .of_neutral (fun _ => s.part.countBad_neutral)⟩
  | malformedFrame => exact ⟨_, rfl, .of_neutral (fun _ => s.part.countMalformed_neutral)⟩
  | beacon x => exact ⟨_, rfl, s.part.hear_lasts x _⟩
  | train x => exact ⟨_, rfl, s.part.hear_lasts x _⟩
  | ask x => exact ⟨_, rfl, s.part.hear_lasts x _⟩
  | grant x => exact ⟨_, rfl, s.part.hear_lasts x _⟩
  | taken x => exact ⟨_, rfl, s.part.hear_lasts x _⟩

/-- A millisecond changes neither store nor state (R1, R2). -/
theorem State.tick_neutral (s : State) : s.part.Neutral s.tick.part := by
  have ticked : s.part.Neutral s.part.tick := by
    simp only [Part.tick, Part.tickUp, Part.tickDown]
    (repeat' split) <;> exact .of_same ⟨rfl, rfl, rfl, rfl, rfl⟩ rfl
  exact ticked.trans (.of_same ⟨rfl, rfl, rfl, rfl, rfl⟩ rfl)

/-- Every step keeps each store's bounds, and the agreement of ledger, issue and list. -/
theorem step_lasts (s t : State) (h : step s = .next t) : s.part.Lasts t.part := by
  simp only [step] at h
  split at h
  · cases h
    exact s.tick_neutral.lasts
  · rename_i c rest _
    obtain ⟨q, taken, lasts⟩ := exec_lasts c { s with pending := rest }
    rw [taken] at h
    cases h
    exact lasts

/-- Settles O6: by what every step keeps, the idle millisecond among them. -/
theorem ledgerStaysBalanced : Obligations.LedgerStaysBalanced :=
  ⟨fun s t law h => (step_lasts s t h).ledger law, fun s t law kept agrees h => (step_lasts s t h).agrees law kept agrees⟩

/-- Settles O10: by what every step keeps, each store from its own bounds. -/
theorem storesKeepTheirBounds : Obligations.StoresKeepTheirBounds := by
  intro s t h
  obtain ⟨notices, line, board, -, -⟩ := step_lasts s t h
  refine ⟨fun kept low => ?_, line, board⟩
  obtain ⟨kept', low'⟩ := notices ⟨kept, low⟩
  exact ⟨kept', low'⟩

end Sys2Proof.Machine
end

section
namespace Sys2Proof.Machine

/-! ### A request that an attentive part answers (R178 to R181) -/

/-- The part and the reply it holds once an owner has answered so. -/
def replied (kind : RequestKind) (o : Part × Answer) : Part := o.1.putReply kind.code o.2

/-- An attentive part hands a request other than START to its owner and stores the answer. -/
theorem Part.Attentive.sendRequest {p : Part} (attentive : p.Attentive) (r : Request) (fits : r.fits = true)
    (other : r.kind ≠ .start) {o : Part × Answer} (answer : p.afterTaking.answer r = (o.1, some o.2)) :
    p.sendRequest r = replied r.kind o := by
  obtain ⟨up, running, free⟩ := attentive
  rw [p.sendRequest_eq_handle r up free running fits other, Part.handle_eq_putReply _ _ o.2 (by rw [answer]), answer,
    replied]

/-- A reply put into the store leaves every block but the port. -/
@[simp] theorem replied_frame (kind : RequestKind) (o : Part × Answer) :
    (replied kind o).lineTime = o.1.lineTime ∧ (replied kind o).clock = o.1.clock ∧ (replied kind o).board = o.1.board
      ∧ (replied kind o).fares = o.1.fares ∧ (replied kind o).quota = o.1.quota ∧ (replied kind o).peers = o.1.peers
      ∧ (replied kind o).line = o.1.line ∧ (replied kind o).notices = o.1.notices
      ∧ (replied kind o).doze = o.1.doze := by
  simp [replied]

/-- The port once an owner that left it alone has answered. -/
theorem replied_port {p : Part} {o : Part × Answer} (port : o.1.port = p.afterTaking.port) (kind : RequestKind) :
    (replied kind o).port = p.answered kind.code o.2.result o.2.body := by
  simp only [replied, Part.putReply, port]
  rfl

/-! ### The load transfer (R27, R30, R31) -/

theorem Part.answerLoadBegin_opens (p : Part) (r : LoadBeginRequest) (low : 1 ≤ r.count) (high : r.count ≤ 32)
    (closed : p.board.load = none) :
    p.answerLoadBegin r = (p.setLoad (some ⟨r.edition, r.count, 0, 0, 0⟩), .bare .done) := by
  have inRange : ¬ (r.count = 0 ∨ 32 < r.count) := by omega
  simp [Part.answerLoadBegin, inRange, closed]

theorem Part.answerLoadBegin_outOfRange (p : Part) (r : LoadBeginRequest) (h : r.count = 0 ∨ 32 < r.count) :
    p.answerLoadBegin r = p.refuse .badRequest := by
  simp [Part.answerLoadBegin, h]

theorem Part.answerLoadBegin_busy (p : Part) (r : LoadBeginRequest) (low : 1 ≤ r.count) (high : r.count ≤ 32)
    (busy : p.board.load.isSome) : p.answerLoadBegin r = p.refuse .busy := by
  have inRange : ¬ (r.count = 0 ∨ 32 < r.count) := by omega
  simp [Part.answerLoadBegin, inRange, busy]

theorem Part.answerLoadEnd_short (p : Part) {l : LoadTransfer} (opened : p.board.load = some l)
    (short : l.taken + l.kept + l.refused < l.declared) :
    p.answerLoadEnd = (p, ⟨.shortLoad, .loadCounts l.taken l.kept l.refused⟩) := by
  simp [Part.answerLoadEnd, opened, LoadTransfer.judged, short]

theorem Part.answerLoadEnd_whole (p : Part) {l : LoadTransfer} (opened : p.board.load = some l)
    (whole : l.declared ≤ l.taken + l.kept + l.refused) :
    p.answerLoadEnd = ({ p with board := { p.board with load := none, edition := l.edition } },
      ⟨.done, .loadEnd l.edition l.taken l.kept l.refused⟩) := by
  simp [Part.answerLoadEnd, opened, LoadTransfer.judged, Nat.not_lt.mpr whole]

theorem Part.answerLoadAbort_opened (p : Part) {l : LoadTransfer} (opened : p.board.load = some l) :
    p.answerLoadAbort = (p.setLoad none, ⟨.done, .loadCounts l.taken l.kept l.refused⟩) := by
  simp [Part.answerLoadAbort, opened]

theorem Part.Attentive.loadBegin {p : Part} (attentive : p.Attentive) (r : LoadBeginRequest) (fits : r.fits = true) :
    p.sendRequest (.loadBegin r) = replied .loadBegin (p.afterTaking.answerLoadBegin r) :=
  attentive.sendRequest (.loadBegin r) fits (by simp [Request.kind]) rfl

theorem Part.Attentive.loadEnd {p : Part} (attentive : p.Attentive) :
    p.sendRequest .loadEnd = replied .loadEnd p.afterTaking.answerLoadEnd :=
  attentive.sendRequest .loadEnd rfl (by simp [Request.kind]) rfl

theorem Part.Attentive.loadAbort {p : Part} (attentive : p.Attentive) :
    p.sendRequest .loadAbort = replied .loadAbort p.afterTaking.answerLoadAbort :=
  attentive.sendRequest .loadAbort rfl (by simp [Request.kind]) rfl

/-- Settles O22: each request by the state of the open transfer. -/
theorem timetableTransferOpensAndCloses : Obligations.TimetableTransferOpensAndCloses := by
  intro s attentive
  refine ⟨fun r fits => ?_, fun closed => ?_, fun l opened => ?_⟩
  · simp only [exec_loadBegin, Part.send, attentive.loadBegin r fits]
    refine ⟨fun low high closed => ?_, fun out => ?_, fun low high busy => ?_⟩
    · rw [Part.answerLoadBegin_opens s.part.afterTaking r low high closed]; rfl
    · rw [Part.answerLoadBegin_outOfRange _ r out]; rfl
    · rw [Part.answerLoadBegin_busy s.part.afterTaking r low high busy]; rfl
  · simp only [exec_loadEnd, exec_loadAbort, Part.send, attentive.loadEnd, attentive.loadAbort]
    have refused : s.part.afterTaking.board.load = none := closed
    constructor
    · simp only [Part.answerLoadEnd, refused]; rfl
    · simp only [Part.answerLoadAbort, refused]; rfl
  · simp only [exec_loadEnd, exec_loadAbort, Part.send, attentive.loadEnd, attentive.loadAbort]
    refine ⟨fun short => ?_, fun whole => ?_, ?_⟩
    · rw [Part.answerLoadEnd_short s.part.afterTaking opened short]; rfl
    · rw [Part.answerLoadEnd_whole s.part.afterTaking opened whole]; rfl
    · rw [Part.answerLoadAbort_opened s.part.afterTaking opened]; rfl

end Sys2Proof.Machine
end

section
namespace Sys2Proof.Machine

/-! ### Slots of the transmit store, their waits apart (R151 to R156) -/

/-- A slot without its wait: what a choice of the transmitter leaves. -/
def Slot.unwaited (sl : Slot) : Slot := { sl with wait := none }

theorem LineInterface.modify_unwaited (l : LineInterface) (i : Nat) (f : Slot → Slot)
    (keeps : ∀ s, (f s).unwaited = s.unwaited) : (l.modify i f).slots.map Slot.unwaited = l.slots.map Slot.unwaited := by
  simp only [LineInterface.modify, List.map_map]
  apply List.map_congr_left
  intro s _
  simp only [Function.comp]
  split <;> simp [keeps]

theorem Part.runWait_unwaited (p : Part) (sl : Slot) (w : Nat) :
    (p.runWait sl w).line.slots.map Slot.unwaited = p.line.slots.map Slot.unwaited := by
  have waits := p.line.modify_unwaited sl.id (fun s => { s with wait := some w }) (fun _ => rfl)
  simp only [Part.runWait]
  split <;> exact waits

theorem Part.choose_unwaited (p : Part) : p.choose.line.slots.map Slot.unwaited = p.line.slots.map Slot.unwaited := by
  simp only [Part.choose]
  split
  · rfl
  split
  · exact p.runWait_unwaited _ _
  · exact Part.runWait_unwaited _ _ _

/-- The choice that follows an offer or a withdrawal leaves every slot but its wait. -/
theorem Part.settleTransmitter_unwaited (p : Part) :
    p.settleTransmitter.line.slots.map Slot.unwaited = p.line.slots.map Slot.unwaited := by
  simp only [Part.settleTransmitter]
  split
  · exact p.choose_unwaited
  · rfl

/-- The slot that an offer takes (R152). -/
def LineInterface.newSlot (l : LineInterface) (c : FrameClass) (b : FrameBody) : Slot :=
  { id := l.nextFrame, cls := c, seq := l.nextSeq, body := b, attempts := 0, wait := none }

theorem Part.offer_unwaited (p : Part) (c : FrameClass) (b : FrameBody) (room : p.line.hasRoom c = true) :
    (p.offer c b).line.slots.map Slot.unwaited = p.line.slots.map Slot.unwaited ++ [p.line.newSlot c b] := by
  simp only [Part.offer, room, if_true, Part.settleTransmitter_unwaited]
  simp [LineInterface.push, LineInterface.newSlot, Slot.unwaited]

/-- A frame offered with room for it is in the store. -/
theorem Part.offer_mem (p : Part) (c : FrameClass) (b : FrameBody) (room : p.line.hasRoom c = true) :
    p.line.newSlot c b ∈ (p.offer c b).line.slots.map Slot.unwaited := by
  rw [p.offer_unwaited c b room]; simp

/-- A slot known without its wait. -/
theorem Slot.of_unwaited_mem {l : List Slot} {x : Slot} (h : x ∈ l.map Slot.unwaited) :
    ∃ sl ∈ l, sl.id = x.id ∧ sl.seq = x.seq ∧ sl.cls = x.cls ∧ sl.body = x.body := by
  obtain ⟨sl, mem, rfl⟩ := List.mem_map.mp h
  exact ⟨sl, mem, rfl, rfl, rfl, rfl⟩

/-! ### Operations on the entry of one train (R20) -/

/-- Two changes of one entry are one change. -/
theorem DepartureList.modify_modify (b : DepartureList) (t : TrainKey) (f g : Entry → Entry)
    (keeps : ∀ e, (f e).train = e.train) : (b.modify t f).modify t g = b.modify t (fun e => g (f e)) := by
  simp only [DepartureList.modify, List.map_map]
  congr 1
  apply List.map_congr_left
  intro e _
  simp only [Function.comp]
  split <;> simp_all

theorem DepartureList.modify_id (b : DepartureList) (t : TrainKey) : b.modify t id = b := by
  simp [DepartureList.modify]

/-- Going from `p` to `q` the list changes at the entry of one train alone, which becomes `g` of what it was. -/
def Part.Changes (p q : Part) (t : TrainKey) (g : Entry → Entry) : Prop :=
  ∃ f : Entry → Entry, q.board = p.board.modify t f ∧ (∀ e, (f e).train = e.train)
    ∧ ∀ e, p.board.find t = some e → f e = g e

section
variable {p q r : Part} {t : TrainKey} {g h : Entry → Entry}

theorem Part.Changes.of_board (same : q.board = p.board) : p.Changes q t id :=
  ⟨id, by rw [same, DepartureList.modify_id], fun _ => rfl, fun _ _ => rfl⟩

theorem Part.Changes.find (c : p.Changes q t g) : q.board.find t = (p.board.find t).map g := by
  obtain ⟨f, board, train, entry⟩ := c
  rw [board, p.board.find_modify t f train]
  cases hf : p.board.find t with
  | none => rfl
  | some e => simp [entry e hf]

theorem Part.Changes.find_other (c : p.Changes q t g) {k : TrainKey} (other : k ≠ t) :
    q.board.find k = p.board.find k := by
  obtain ⟨f, board, train, -⟩ := c
  rw [board, p.board.find_modify_other k t f train other]

theorem Part.Changes.length (c : p.Changes q t g) : q.board.entries.length = p.board.entries.length := by
  obtain ⟨f, board, -, -⟩ := c
  simp [board, DepartureList.modify]

/-- Nothing of the list but its entries changes. -/
theorem Part.Changes.rest (c : p.Changes q t g) : q.board = { p.board with entries := q.board.entries } := by
  obtain ⟨f, board, -, -⟩ := c
  simp [board, DepartureList.modify]

theorem Part.Changes.trans (c : p.Changes q t g) (d : q.Changes r t h) : p.Changes r t (h ∘ g) := by
  obtain ⟨f, board, train, entry⟩ := c
  obtain ⟨f', board', train', entry'⟩ := d
  refine ⟨f' ∘ f, ?_, fun e => by simp [train, train'], fun e he => ?_⟩
  · rw [board', board]; exact p.board.modify_modify t f f' train
  · have found : q.board.find t = some (g e) := by rw [board, p.board.find_modify t f train, he, Option.map_some, entry e he]
    simp only [Function.comp, entry e he, entry' _ found]

/-- The same change, said of the entry found. -/
theorem Part.Changes.congr (c : p.Changes q t g) (same : ∀ e, p.board.find t = some e → h e = g e) : p.Changes q t h := by
  obtain ⟨f, board, train, entry⟩ := c
  exact ⟨f, board, train, fun e he => by rw [entry e he, same e he]⟩

end

theorem Part.modifyEntry_changes (p : Part) (t : TrainKey) (f : Entry → Entry) (train : ∀ e, (f e).train = e.train) :
    p.Changes (p.modifyEntry t f) t f := ⟨f, rfl, train, fun _ _ => rfl⟩

/-- The mark of an entry's frame in the store, changed. -/
def Entry.marked (m : Entry → Option FrameMark) (e : Entry) : Entry := { e with frame := m e }

/-- A TRAIN frame queued for its entry marks the entry, if the store had room (R41). -/
theorem Part.queueTrain_changes (p : Part) (e : Entry) (kind : EntryFrame) (c : FrameClass) :
    p.Changes (p.queueTrain e kind c).1 e.train
      (if p.line.hasRoom c then Entry.marked (fun _ => some ⟨kind, p.line.nextFrame⟩) else id) := by
  simp only [Part.queueTrain]
  split
  · exact Part.Changes.trans (h := Entry.marked (fun _ => some ⟨kind, p.line.nextFrame⟩)) (.of_board (by simp))
      (Part.modifyEntry_changes _ e.train _ (fun _ => rfl))
  · exact .of_board (by simp)

theorem Part.queueTrain_mem (p : Part) (e : Entry) (kind : EntryFrame) (c : FrameClass) (room : p.line.hasRoom c = true) :
    p.line.newSlot c (.train (e.frameUpdate (decide (kind = .announce))))
      ∈ (p.queueTrain e kind c).1.line.slots.map Slot.unwaited := by
  simp only [Part.queueTrain, room, if_true]
  exact p.offer_mem c _ room

/-! ### REFRESH DEADLINE (R42) -/

/-- An operation that leaves every block but list, line and draw counter. -/
theorem Part.eq_of_frame {p q : Part}
    (frame : q.lineTime = p.lineTime ∧ q.supply = p.supply ∧ q.retained = p.retained ∧ q.start = p.start
      ∧ q.clock = p.clock ∧ q.page = p.page ∧ q.fares = p.fares ∧ q.sales = p.sales ∧ q.quota = p.quota
      ∧ q.peers = p.peers ∧ q.notices = p.notices ∧ q.port = p.port ∧ q.doze = p.doze) :
    q = { p with board := q.board, line := q.line, draws := q.draws } := by
  cases q
  simp_all

/-- The entry with its refresh deadline restarted (R42). -/
def Entry.refreshed (deadline : Nat) (e : Entry) : Entry := { e with refreshDeadline := some deadline }

/-- A refresh restarts the deadline, and marks an entry without a frame if the store has room for the announcement. -/
theorem Part.refreshEntry_changes (p : Part) (e : Entry) :
    p.Changes (p.refreshEntry e) e.train
      ((if e.frame = none ∧ p.line.hasRoom .bulk = true then Entry.marked (fun _ => some ⟨.announce, p.line.nextFrame⟩)
        else id) ∘ Entry.refreshed (p.lineTime + p.refreshMs)) := by
  have restarted := p.modifyEntry_changes e.train (Entry.refreshed (p.lineTime + p.refreshMs)) (fun _ => rfl)
  have queued := (p.modifyEntry e.train (Entry.refreshed (p.lineTime + p.refreshMs))).queueTrain_changes e .announce .bulk
  simp only [Part.refreshEntry]
  by_cases h : e.frame = none
  · simp only [h, true_and, if_true]
    exact restarted.trans queued
  · simp only [h, false_and, if_false]
    exact restarted

/-- A REFRESH DEADLINE that has come is its entry's refresh. -/
theorem Part.refreshCame_eq {p : Part} {t : TrainKey} {e : Entry} {d : Nat} (up : p.up = true) (awake : p.awake = true)
    (found : p.board.find t = some e) (deadline : e.refreshDeadline = some d) (came : d ≤ p.lineTime) :
    p.refreshCame t = some e := by
  simp [Part.refreshCame, Part.acting, up, awake, found, deadline, reached, came]

/-- Settles O47. -/
theorem refreshDeadlineAnnounces : Obligations.RefreshDeadlineAnnounces := by
  intro k e d s up awake found deadline came
  have train : e.train = k := (DepartureList.find_some found).2
  have changes := s.part.refreshEntry_changes e
  rw [train] at changes
  have entry := changes.find
  rw [found, Option.map_some] at entry
  refine ⟨⟨s.part.refreshEntry e, s.pending⟩, _, ?_, rfl, entry, ?_, fun kept => ?_, fun mark => ?_, fun none room => ?_,
    fun j other => changes.find_other other, Part.eq_of_frame (s.part.refreshEntry_frame e)⟩
  · simp only [exec_refreshDeadline, Part.refreshCame_eq up awake found deadline came]
  · simp only [Function.comp]
    split <;> rfl
  · have unmarked : ¬ (e.frame = none ∧ s.part.line.hasRoom .bulk = true) := by
      rintro ⟨none, room⟩
      rcases kept with h | h
      · exact h none
      · simp [room] at h
    simp [unmarked, Entry.refreshed]
  · simp [Part.refreshEntry, mark]
  · refine ⟨by simp [none, room, Entry.marked], ?_⟩
    have queued := (s.part.modifyEntry e.train
      (Entry.refreshed (s.part.lineTime + s.part.refreshMs))).queueTrain_mem e .announce .bulk room
    obtain ⟨sl, mem, id, -, cls, body⟩ := Slot.of_unwaited_mem queued
    refine ⟨sl, ?_, id, cls, by simpa [LineInterface.newSlot] using body⟩
    simp only [Part.refreshEntry, none, if_true]
    exact mem

end Sys2Proof.Machine
end

section
namespace Sys2Proof.Machine

/-! ### Evaluation of one entry (R22 to R25) -/

/-- An entry after its evaluation at a minute, if the clock gives one (R22 to R24, R42). -/
def Entry.evaluated (now : Option Nat) (e : Entry) : Entry :=
  match now with
  | none => e
  | some n =>
    if e.judged n = .gone ∧ e.state ≠ .gone then { e with state := .gone, refreshDeadline := none }
    else { e with state := e.judged n }

@[simp] theorem Entry.evaluated_state (now : Option Nat) (e : Entry) :
    (e.evaluated now).state = (match now with | none => e.state | some n => e.judged n) := by
  simp only [Entry.evaluated]
  split
  · rfl
  · split
    · rename_i gone
      exact gone.1.symm
    · rfl

/-- Evaluation changes state and refresh deadline alone. -/
theorem Entry.evaluated_rest (now : Option Nat) (e : Entry) :
    e.evaluated now = { e with state := (e.evaluated now).state, refreshDeadline := (e.evaluated now).refreshDeadline } := by
  simp only [Entry.evaluated]
  split
  · rfl
  · split <;> rfl

/-- An entry that evaluation newly makes GONE loses its refresh deadline; any other keeps it (R42). -/
theorem Entry.evaluated_deadline (now : Option Nat) (e : Entry) (here : e.state ≠ .gone) :
    (e.evaluated now).refreshDeadline = if (e.evaluated now).state = .gone then none else e.refreshDeadline := by
  cases now with
  | none => simp [Entry.evaluated, here]
  | some n =>
    simp only [Entry.evaluated]
    by_cases gone : e.judged n = .gone <;> simp [gone, here]

theorem Entry.judged_of_gone {e : Entry} (gone : e.state = .gone) (n : Nat) : e.judged n = .gone := by
  simp [Entry.judged, gone]

/-- A GONE entry stays as it is. -/
theorem Entry.evaluated_of_gone {e : Entry} (gone : e.state = .gone) (now : Option Nat) : e.evaluated now = e := by
  cases now with
  | none => rfl
  | some n =>
    simp only [Entry.evaluated, gone, Entry.judged_of_gone gone]
    rw [← gone]
    simp

theorem Part.reportLeft_changes (p : Part) (e : Entry) (code : ResultCode) (t : TrainKey) :
    p.Changes (p.reportLeft e code) t id := .of_board (by simp)

theorem Part.post_changes (p : Part) (n : Notice) (t : TrainKey) : p.Changes (p.post n) t id := .of_board (by simp)

theorem Part.evaluateEntry_changes (p : Part) (e : Entry) (now : Nat) (tell : Bool)
    (found : p.board.find e.train = some e) :
    p.Changes (p.evaluateEntry e now tell).1 e.train (Entry.evaluated (some now)) := by
  have only : ∀ {g : Entry → Entry}, g e = e.evaluated (some now) →
      ∀ x, p.board.find e.train = some x → Entry.evaluated (some now) x = g x := by
    intro g same x hx
    rw [found] at hx
    cases hx
    exact same.symm
  simp only [Part.evaluateEntry]
  split
  · rename_i still
    refine (Part.Changes.of_board rfl).congr (only ?_)
    by_cases gone : e.state = .gone
    · simp [Entry.evaluated_of_gone gone]
    · simp [Entry.evaluated, still, gone]
  rename_i moved
  split
  · rename_i gone
    have goes := (p.modifyEntry_changes e.train (fun x => { x with state := .gone, refreshDeadline := none })
      (fun _ => rfl)).trans (Part.reportLeft_changes _ e .trainGone e.train)
    have same : e.evaluated (some now) = { e with state := .gone, refreshDeadline := none } := by
      have here : e.state ≠ .gone := fun h => moved (by rw [gone, h])
      simp [Entry.evaluated, gone, here]
    split
    · exact (goes.trans (Part.post_changes _ _ _)).congr (only same.symm)
    · exact goes.congr (only same.symm)
  · rename_i here
    exact (p.modifyEntry_changes e.train (fun x => { x with state := e.judged now }) (fun _ => rfl)).congr
      (only (by simp [Entry.evaluated, here]))

/-- The evaluation of a train's entry at the clock's minute, while the clock is set (R22). -/
theorem Part.evaluateNow_changes (p : Part) (t : TrainKey) (tell : Bool) :
    p.Changes (p.evaluateNow t tell) t (Entry.evaluated p.clock.now?) := by
  simp only [Part.evaluateNow]
  split
  · rename_i now e clock found
    have train := (DepartureList.find_some found).2
    rw [clock, ← train]
    exact p.evaluateEntry_changes e now tell (by rw [train, found])
  · rename_i other
    refine (Part.Changes.of_board rfl).congr fun e he => ?_
    cases h : p.clock.now? with
    | none => rfl
    | some now => exact absurd he (other now e h)

/-- An evaluation that does not make the entry GONE leaves the quota unit alone (R25). -/
theorem Part.evaluateNow_quota (p : Part) (t : TrainKey) (tell : Bool) {e : Entry} (found : p.board.find t = some e)
    (here : (e.evaluated p.clock.now?).state ≠ .gone) : (p.evaluateNow t tell).quota = p.quota := by
  simp only [Part.evaluateNow]
  split
  · rename_i now x clock hx
    rw [found] at hx
    cases hx
    simp only [clock, Entry.evaluated_state] at here
    simp only [Part.evaluateEntry, here, if_false]
    split <;> simp
  · rfl

theorem QuotaUnit.modify_of_find_none {q : QuotaUnit} {t : TrainKey} (none : q.find t = none)
    (f : LedgerRecord → LedgerRecord) : q.modify t f = q := by
  have same : q.ledger.map (fun r => if r.train = t then f r else r) = q.ledger := by
    rw [List.map_congr_left (g := id), List.map_id]
    intro r hr
    simp [QuotaUnit.find_none none r hr]
  simp only [QuotaUnit.modify, same]

/-- A train that leaves without a link and without a record leaves the quota unit alone (R25, R94). -/
theorem Part.reportLeft_quota (p : Part) (e : Entry) (code : ResultCode) (unlinked : e.linked = false)
    (none : p.quota.find e.train = none) : (p.reportLeft e code).quota = p.quota := by
  simp only [Part.reportLeft, unlinked, Bool.false_eq_true, if_false, Part.salesTrainLeft]
  split
  · rfl
  · rename_i i issue
    have train := (SalesUnit.issueFor_eq_some issue).2
    simp [Part.endIssue, train, Part.moveOn, QuotaUnit.modify_of_find_none none]

theorem Part.evaluateNow_quota_unlinked (p : Part) (t : TrainKey) (tell : Bool) {e : Entry}
    (found : p.board.find t = some e) (unlinked : e.linked = false) (none : p.quota.find t = none) :
    (p.evaluateNow t tell).quota = p.quota := by
  have train := (DepartureList.find_some found).2
  simp only [Part.evaluateNow]
  split
  · rename_i now x clock hx
    rw [found] at hx
    cases hx
    have gone : (p.enterGone e).quota = p.quota := by
      refine (Part.reportLeft_quota _ e _ unlinked ?_).trans (by simp)
      rw [train]
      simpa using none
    simp only [Part.evaluateEntry]
    (repeat' split) <;> simp [gone]
  · rfl

/-! ### An entry that joins the list (R28, R29, R38, R113) -/

/-- Whether a train gets its ledger link (R29, R113). -/
def Part.linksTo (p : Part) (t : TrainKey) (total : Nat) : Bool :=
  decide (total ≠ 0 ∧ ((p.quota.find t).isSome ∨ p.quota.ledger.length < 32))

theorem Part.linkLedger_link (p : Part) (t : TrainKey) (total : Nat) : (p.linkLedger t total).2 = p.linksTo t total := by
  simp only [Part.linkLedger, Part.linksTo]
  split
  · simp [*]
  split
  · simp [*]
  split <;> simp [*]

theorem Part.addEntry_entries (p : Part) (e : Entry) :
    (p.addEntry e).board
      = { p.board with entries := p.board.entries ++ [{ e with linked := p.linksTo e.train e.quotaTotal }] } := by
  simp [Part.addEntry, Part.linkLedger_link]

theorem Part.linkLedger_quota_new (p : Part) (t : TrainKey) (total : Nat) (some : total ≠ 0) (new : p.quota.find t = none)
    (room : p.quota.ledger.length < 32) : (p.linkLedger t total).1.quota
      = { p.quota with ledger := p.quota.ledger ++ [LedgerRecord.fresh t total (p.newShare total)] } := by
  simp [Part.linkLedger, some, new, room]

theorem Part.linkLedger_zero (p : Part) (t : TrainKey) : p.linkLedger t 0 = (p, false) := by simp [Part.linkLedger]

/-- A change at a train whose only entry ends the list. -/
theorem Part.Changes.append {p q : Part} {t : TrainKey} {g : Entry → Entry} (c : p.Changes q t g) {l : List Entry}
    {e : Entry} (entries : p.board.entries = l ++ [e]) (new : ∀ x ∈ l, x.train ≠ t) (train : e.train = t) :
    q.board.entries = l ++ [g e] := by
  obtain ⟨f, board, -, entry⟩ := c
  have found : p.board.find t = some e := by
    have none : l.find? (fun x => decide (x.train = t)) = none := by simpa [List.find?_eq_none] using new
    simp [DepartureList.find, entries, none, train]
  have same : l.map (fun x => if x.train = t then f x else x) = l := by
    rw [List.map_congr_left (g := id), List.map_id]
    intro x hx
    simp [new x hx]
  simp [board, DepartureList.modify, entries, same, train, entry e found]

end Sys2Proof.Machine
end

section
namespace Sys2Proof.Machine

/-! ### LOAD TRAIN (R28) -/

/-- The entry that a loaded train gets, evaluated (R28). -/
def Part.loadedEntry (p : Part) (r : TrainRecord) : Entry :=
  Entry.evaluated p.clock.now? { r.entry with linked := p.linksTo r.train r.quotaTotal }

theorem Part.loadEntry_board (p : Part) (r : TrainRecord) (new : p.board.find r.train = none) :
    (p.loadEntry r).board = { p.board with entries := p.board.entries ++ [p.loadedEntry r] } := by
  have added := p.addEntry_entries r.entry
  have changes := (p.addEntry r.entry).evaluateNow_changes r.train true
  have entries := changes.append (l := p.board.entries) (e := { r.entry with linked := p.linksTo r.train r.quotaTotal })
    (by rw [added]; rfl) (DepartureList.find_none new) rfl
  have clock : (p.addEntry r.entry).clock = p.clock := by simp
  rw [clock] at entries
  simp only [Part.loadEntry, Part.boardChanged_frame]
  rw [changes.rest, entries, added]
  rfl

/-- A loaded train's state, judged by its scheduled minute (R23). -/
theorem Part.loadedEntry_state (p : Part) (r : TrainRecord) :
    (p.loadedEntry r).state = (match p.clock.now? with
      | none => .listed
      | some now =>
        if absTrainMinute r.train r.scheduled + 3 ≤ now then .gone
        else if absTrainMinute r.train r.scheduled ≤ now + 2 then .due
        else .listed) := by
  rw [Part.loadedEntry, Entry.evaluated_state]
  cases p.clock.now? <;> rfl

theorem Part.loadedEntry_rest (p : Part) (r : TrainRecord) :
    p.loadedEntry r = { r.entry with linked := (p.loadedEntry r).linked, state := (p.loadedEntry r).state } := by
  have deadline : (p.loadedEntry r).refreshDeadline = none := by
    rw [Part.loadedEntry, Entry.evaluated_deadline _ _ (by simp [TrainRecord.entry])]
    split <;> rfl
  rw [Part.loadedEntry] at deadline ⊢
  conv_lhs => rw [Entry.evaluated_rest, deadline]
  conv_rhs => rw [Entry.evaluated_rest]
  rfl

theorem Part.loadedEntry_linked (p : Part) (r : TrainRecord) :
    (p.loadedEntry r).linked = p.linksTo r.train r.quotaTotal := by
  rw [Part.loadedEntry, Entry.evaluated_rest]

/-- The new entry is the one found for its train. -/
theorem Part.addEntry_find (p : Part) (e : Entry) (new : p.board.find e.train = none) :
    (p.addEntry e).board.find e.train = some { e with linked := p.linksTo e.train e.quotaTotal } := by
  rw [Part.addEntry_entries, DepartureList.find_append, new]
  simp

theorem Part.loadEntry_quota_new (p : Part) (r : TrainRecord) (new : p.board.find r.train = none)
    (here : (p.loadedEntry r).state ≠ .gone) (some : r.quotaTotal ≠ 0) (unrecorded : p.quota.find r.train = none)
    (room : p.quota.ledger.length < 32) : (p.loadEntry r).quota
      = { p.quota with ledger := p.quota.ledger ++ [LedgerRecord.fresh r.train r.quotaTotal (p.newShare r.quotaTotal)] } := by
  have found := p.addEntry_find r.entry new
  have clock : (p.addEntry r.entry).clock = p.clock := by simp
  simp only [Part.loadEntry, Part.boardChanged_frame]
  rw [Part.evaluateNow_quota _ r.train true found (by rw [clock]; exact here)]
  exact p.linkLedger_quota_new r.train r.quotaTotal some unrecorded room

theorem Part.loadEntry_quota_zero (p : Part) (r : TrainRecord) (new : p.board.find r.train = none)
    (zero : r.quotaTotal = 0) (unrecorded : p.quota.find r.train = none) : (p.loadEntry r).quota = p.quota := by
  have found := p.addEntry_find r.entry new
  have quota : (p.addEntry r.entry).quota = p.quota := by
    simp [Part.addEntry, TrainRecord.entry, zero, Part.linkLedger_zero]
  simp only [Part.loadEntry, Part.boardChanged_frame]
  rw [Part.evaluateNow_quota_unlinked _ r.train true found (by simp [Part.linksTo, TrainRecord.entry, zero])
    (by rw [quota]; exact unrecorded), quota]

theorem Part.Attentive.loadTrain {p : Part} (attentive : p.Attentive) (r : TrainRecord) (fits : r.fits = true) :
    p.sendRequest (.loadTrain r) = replied .loadTrain (p.afterTaking.answerLoadTrain r) :=
  attentive.sendRequest (.loadTrain r) fits (by simp [Request.kind]) rfl

/-- A record in range for a new train, with a transfer open and room, is taken (R28). -/
theorem Part.answerLoadTrain_takes (p : Part) (r : TrainRecord) {l : LoadTransfer} (opened : p.board.load = some l)
    (more : l.taken + l.kept + l.refused ≠ l.declared) (inRange : r.inRange = true) (new : p.board.find r.train = none)
    (room : p.board.entries.length < 32) :
    p.answerLoadTrain r
      = ((p.setLoad (some { l with taken := l.taken + 1 })).loadEntry r, ⟨.done, .loadMark .taken⟩) := by
  simp [Part.answerLoadTrain, opened, LoadTransfer.judged, more, inRange, new, room]

/-- Settles O23: the refusals by the first check that fails, the record taken by what its entry and its link become. -/
theorem loadTrainJudgesTheRecord : Obligations.LoadTrainJudgesTheRecord := by
  refine ⟨fun r s attentive fits => ?_, fun r l s attentive fits opened more => ?_⟩
  · simp only [exec_loadTrain, Part.send, attentive.loadTrain r fits]
    refine ⟨fun closed => ?_, fun l opened whole => ?_⟩
    · have closed : s.part.afterTaking.board.load = none := closed
      simp only [Part.answerLoadTrain, closed]
      rfl
    · have opened : s.part.afterTaking.board.load = some l := opened
      simp only [Part.answerLoadTrain, opened, LoadTransfer.judged, whole, if_true]
      rfl
  have opened : s.part.afterTaking.board.load = some l := opened
  simp only [exec_loadTrain, Part.send, attentive.loadTrain r fits]
  refine ⟨fun outOfRange => ?_, fun inRange held => ?_, fun inRange new full => ?_, fun inRange new room => ?_⟩
  · simp only [Part.answerLoadTrain, opened, LoadTransfer.judged, more, outOfRange, if_false]
    rfl
  · have held : (s.part.afterTaking.board.find r.train).isSome = true := held
    simp only [Part.answerLoadTrain, opened, LoadTransfer.judged, more, inRange, held, if_false]
    rfl
  · have new : s.part.afterTaking.board.find r.train = none := new
    have full : 32 ≤ s.part.afterTaking.board.entries.length := full
    simp only [Part.answerLoadTrain, opened, LoadTransfer.judged, more, inRange, new, full, if_false]
    rfl
  · let p := s.part.afterTaking.setLoad (some { l with taken := l.taken + 1 })
    have new' : p.board.find r.train = none := new
    rw [Part.answerLoadTrain_takes s.part.afterTaking r opened more inRange new room]
    have port : (p.loadEntry r).port = s.part.afterTaking.port := by simp [p]
    have awake : p.doze.state ≠ .dozing := by simp [p, Part.setLoad, Part.afterTaking, attentive.2.1]
    refine ⟨_, p.loadedEntry r, rfl, rfl, p.loadEntry_board r new', replied_port port _, p.loadedEntry_rest r,
      p.loadedEntry_state r, p.loadedEntry_linked r, fun here some unrecorded room => ?_,
      fun zero unrecorded => ?_, ?_⟩
    · exact p.loadEntry_quota_new r new' here some unrecorded room
    · exact p.loadEntry_quota_zero r new' zero unrecorded
    · have doze := p.loadEntry_running r awake
      simpa [p, Part.afterTaking] using doze

end Sys2Proof.Machine
end

section
namespace Sys2Proof.Machine

/-! ### Frames and their judgement (R136 to R143, R148, R149) -/

/-- A complete frame reaches the receiver. -/
theorem exec_of_frameOf {c : Instr} {f : LineFrame} (h : frameOf c = some f) (s : State) (up : s.part.up = true) :
    exec c s = .next ⟨s.part.receiveFrame f, s.pending⟩ := by
  simp only [frameOf] at h
  split at h <;> cases h <;> simp [Part.hear, up]

/-- The characters of a busy spell reach the receiver. -/
theorem exec_of_heardCharsOf {c : Instr} {chars : List LineChar} (h : heardCharsOf c = some chars) (s : State)
    (up : s.part.up = true) : exec c s = .next ⟨s.part.receiveChars chars, s.pending⟩ := by
  simp only [heardCharsOf] at h
  split at h <;> cases h <;> simp [Part.hear, up]

theorem Part.receiveFrame_of_ok (p : Part) {f : LineFrame} (ok : f.ok = true) : p.receiveFrame f = p.receiveGood f := by
  simp [Part.receiveFrame, ok]

/-- A wake that a notice brings about in DOZING (R202). -/
theorem Part.post_wakes (p : Part) (n : Notice) (dozing : p.doze.state = .dozing) (room : p.notices.entries.length < 64)
    (wakes : n.isWake = true) :
    (p.post n).doze.state = .running ∧ ∃ w, (p.post n).doze.lastWake = some w ∧ w.cause = .notice n.kind := by
  have report : p.notices.wakeReport n = some n.kind := by simp [NoticeQueue.wakeReport, room, wakes]
  have woken : p.post n = (p.note n).wake (.notice n.kind) := by simp [Part.post, report, dozing]
  rw [woken]
  exact ⟨Part.wake_state _ _, ⟨⟨.notice n.kind, (p.note n).dozeLength⟩, by simp [Part.wake], rfl⟩⟩

/-- A frame under the part's own number (R137). -/
theorem Part.hearOwnNumber_peers (p : Part) (kind : FrameKind) :
    (p.hearOwnNumber kind).peers.duplicateNode = min (p.peers.duplicateNode + 1) 65535
      ∧ (p.hearOwnNumber kind).peers.records = p.peers.records := by
  simp only [Part.hearOwnNumber]
  split <;> simp [bump, satAdd, Part.withPeers]

theorem Part.hearOwnNumber_wakes (p : Part) (kind : FrameKind) (dozing : p.doze.state = .dozing)
    (room : p.notices.entries.length < 64)
    (due : ∀ x, p.peers.duplicateNodeTime = some x → x + 60000 ≤ p.lineTime) :
    (p.hearOwnNumber kind).doze.state = .running
      ∧ ∃ w, (p.hearOwnNumber kind).doze.lastWake = some w ∧ w.cause = .notice .duplicateNode := by
  have isDue : p.duplicateNodeDue = true := by
    simp only [Part.duplicateNodeDue]
    split
    · rfl
    · simpa using due _ ‹_›
  simp only [Part.hearOwnNumber, isDue, if_true]
  exact Part.post_wakes _ (mkNotice .duplicateNode _ _ _ _ _) dozing room rfl

/-- The record of an accepted frame's sender (R139), and every other record. -/
theorem Part.acceptFrame_find (p : Part) (sender seq : Nat) {r : PeerRecord} (found : p.peers.find sender = some r) :
    (p.acceptFrame sender seq).peers.find sender = some (r.heardAt seq p.lineTime p.beaconMs)
      ∧ ∀ n, n ≠ sender → (p.acceptFrame sender seq).peers.find n = p.peers.find n := by
  have peers : (p.acceptFrame sender seq).peers
      = p.peers.modify sender (fun r => r.heardAt seq p.lineTime p.beaconMs) := by
    simp only [Part.acceptFrame, found]
    split <;> simp [Part.withPeers]
  rw [peers]
  refine ⟨?_, fun n other => p.peers.find_modify_other n sender _ (fun _ => rfl) other⟩
  rw [p.peers.find_modify sender (fun r => r.heardAt seq p.lineTime p.beaconMs) (fun _ => rfl), found]
  rfl

theorem Part.receiveGood_of_hears {p : Part} {f : LineFrame} (hears : p.Hears f.sender f.seq) :
    p.receiveGood f = (p.acceptFrame f.sender f.seq).deliver f := by
  obtain ⟨-, awake, -, -, -, other, new⟩ := hears
  simp [Part.receiveGood, awake, other, new]

/-- A frame that is no BEACON leaves the peer table to its acceptance. -/
theorem Part.deliver_peers (p : Part) (f : LineFrame) (other : ∀ b, f.payload ≠ .beacon b) :
    (p.deliver f).peers = p.peers := by
  simp only [Part.deliver]
  split
  · exact absurd ‹_› (other _)
  all_goals simp

/-- A record in which a BEACON's advertisement is noted (R141). -/
def PeerRecord.advertised (r : PeerRecord) (b : BeaconPayload) : PeerRecord := { r with advert := some b.advert }

/-- The own seller index is another seller's too (R143). -/
def Part.clashesWith (p : Part) (b : BeaconPayload) : Bool :=
  match p.port.record with
  | none => false
  | some own => own.clashes b

theorem Part.checkTimetable_find (p : Part) (sender edition n : Nat) :
    (p.checkTimetable sender edition).peers.find n = p.peers.find n := by
  simp only [Part.checkTimetable]
  split <;> simp [Part.withPeers, PeerTable.find]

theorem Part.checkFareEdition_find (p : Part) (sender edition n : Nat) :
    (p.checkFareEdition sender edition).peers.find n = p.peers.find n := by
  simp only [Part.checkFareEdition]
  split <;> simp [Part.withPeers, PeerTable.find]

/-- The clash mark of a sender is set for another seller of the part's index, and never cleared (R143). -/
theorem Part.checkClash_find (p : Part) (sender : Nat) (b : BeaconPayload) :
    (p.checkClash sender b).peers.find sender
        = (p.peers.find sender).map (fun r => { r with clash := r.clash || p.clashesWith b })
      ∧ ∀ n, n ≠ sender → (p.checkClash sender b).peers.find n = p.peers.find n := by
  have marks : ∀ q : Part, q.peers = p.peers.modify sender (fun r => { r with clash := true }) → p.clashesWith b = true →
      q.peers.find sender = (p.peers.find sender).map (fun r => { r with clash := r.clash || p.clashesWith b })
        ∧ ∀ n, n ≠ sender → q.peers.find n = p.peers.find n := by
    intro q peers clash
    rw [peers]
    exact ⟨by simp [p.peers.find_modify sender, clash], fun n other => p.peers.find_modify_other n sender _ (fun _ => rfl) other⟩
  have stands : (∀ r, p.peers.find sender = some r → (r.clash || p.clashesWith b) = r.clash) →
      p.peers.find sender = (p.peers.find sender).map (fun r => { r with clash := r.clash || p.clashesWith b }) := by
    intro same
    cases h : p.peers.find sender with
    | none => rfl
    | some r => simp [same r h]
  simp only [Part.checkClash]
  split
  · rename_i unset
    exact ⟨stands (fun r _ => by simp [Part.clashesWith, unset]), fun _ _ => rfl⟩
  rename_i own record
  split
  · rename_i clash
    simp only [Bool.and_eq_true] at clash
    exact marks _ (by simp [Part.withPeers]) (by simp [Part.clashesWith, record, clash.1])
  · rename_i no
    refine ⟨stands (fun r found => ?_), fun _ _ => rfl⟩
    have marked : own.clashes b = true → r.clash = true := by simpa [PeerTable.marked, found] using no
    simp only [Part.clashesWith, record]
    cases h : own.clashes b with
    | false => simp
    | true => simp [marked h]

/-- A BEACON's sender is recorded with what it advertises, and with its clash (R141, R143). -/
theorem Part.hearBeacon_find (p : Part) (sender : Nat) (b : BeaconPayload) {r : PeerRecord}
    (found : p.peers.find sender = some r) :
    (p.hearBeacon sender b).peers.find sender
        = some { r with advert := some b.advert, clash := r.clash || p.clashesWith b }
      ∧ ∀ n, n ≠ sender → (p.hearBeacon sender b).peers.find n = p.peers.find n := by
  let q := p.withPeers (fun t => t.modify sender (fun r => r.advertised b))
  let checked := (q.checkTimetable sender b.timetable).checkFareEdition sender b.fare
  obtain ⟨own, others⟩ := checked.checkClash_find sender b
  have peers : (p.hearBeacon sender b).peers = (checked.checkClash sender b).peers := by
    simp [Part.hearBeacon, checked, q, PeerRecord.advertised]
  have before : ∀ n, checked.peers.find n = q.peers.find n := fun n => by
    rw [Part.checkFareEdition_find, Part.checkTimetable_find]
  have clash : checked.clashesWith b = p.clashesWith b := by simp [Part.clashesWith, checked, q]
  rw [peers]
  refine ⟨?_, fun n other => ?_⟩
  · rw [own, before, clash]
    simp [q, Part.withPeers, p.peers.find_modify sender, PeerRecord.advertised, found]
  · rw [others n other, before]
    exact p.peers.find_modify_other n sender _ (fun _ => rfl) other

/-- Settles O56: the judgements in the order of the receive path, then the record of an accepted frame's sender. -/
theorem framesAreJudgedBeforeTheirOwner : Obligations.FramesAreJudgedBeforeTheirOwner := by
  refine ⟨fun s up => ⟨?_, ?_, fun c chars heard => ?_, fun c f frame => ?_⟩, fun p f r ok hears other found => ?_,
    fun p f b r ok hears beacon found => ?_⟩
  · simp [up, Part.countBad, bump, satAdd]
  · simp [up, Part.countMalformed, bump, satAdd]
  · rw [exec_of_heardCharsOf heard s up]
    exact ⟨fun bad => by simp [Part.receiveChars, bad, up], fun malformed => by simp [Part.receiveChars, malformed, up]⟩
  · rw [exec_of_frameOf frame s up]
    refine ⟨fun bad => by simp [Part.receiveFrame, bad, up], fun ok idle => ?_, fun ok awake own => ?_,
      fun ok awake other repeated => ?_⟩
    · simp [Part.receiveFrame_of_ok _ ok, Part.receiveGood, idle, Part.countUnheeded, Part.withPeers, bump, satAdd]
    · have dropped : s.part.receiveFrame f = s.part.hearOwnNumber f.payload.kind := by
        simp [Part.receiveFrame_of_ok _ ok, Part.receiveGood, awake, own]
      obtain ⟨count, records⟩ := s.part.hearOwnNumber_peers f.payload.kind
      rw [dropped]
      exact ⟨_, rfl, rfl, by simp, by simp, by simp, count, records, s.part.hearOwnNumber_wakes _⟩
    · simp [Part.receiveFrame_of_ok _ ok, Part.receiveGood, awake, other, repeated, Part.countDuplicate, bump, satAdd]
  · rw [p.receiveFrame_of_ok ok, Part.receiveGood_of_hears hears, Part.deliver_peers _ f other]
    exact p.acceptFrame_find f.sender f.seq found
  · obtain ⟨accepted, rest⟩ := p.acceptFrame_find f.sender f.seq found
    obtain ⟨own, others⟩ := (p.acceptFrame f.sender f.seq).hearBeacon_find f.sender b accepted
    have delivered : (p.acceptFrame f.sender f.seq).deliver f = (p.acceptFrame f.sender f.seq).hearBeacon f.sender b := by
      simp [Part.deliver, beacon]
    rw [p.receiveFrame_of_ok ok, Part.receiveGood_of_hears hears, delivered]
    refine ⟨?_, fun n another => by rw [others n another, rest n another]⟩
    have port : (p.acceptFrame f.sender f.seq).port = p.port := by simp
    rw [own, Part.clashesWith, port]
    rfl

end Sys2Proof.Machine
end

section
namespace Sys2Proof.Machine

/-! ### The lender of a frame (R123 to R126) -/

/-- The lender's record is on the ledger, and the grant is its first that the frame lends. -/
theorem QuotaUnit.lender_spec {q : QuotaUnit} {frame : Nat} {l : LedgerRecord} {x : GrantRecord}
    (h : q.lender frame = some (l, x)) : l ∈ q.ledger ∧ l.grants.find? (fun g => g.lendsBy frame) = some x := by
  obtain ⟨r, hr, found⟩ := List.exists_of_findSome?_eq_some h
  simp only [Option.map_eq_some_iff, Prod.mk.injEq] at found
  obtain ⟨g, hg, rfl, rfl⟩ := found
  exact ⟨hr, hg⟩

theorem QuotaUnit.find_of_mem {q : QuotaUnit} (nodup : (q.ledger.map LedgerRecord.train).Nodup) {l : LedgerRecord}
    (hl : l ∈ q.ledger) : q.find l.train = some l := by
  cases h : q.find l.train with
  | none => exact absurd rfl (QuotaUnit.find_none h l hl)
  | some r => rw [QuotaUnit.eq_of_find nodup h hl rfl]

/-- A move on the record of the lender. -/
theorem Part.moveOn_find_lender (p : Part) {frame : Nat} {l : LedgerRecord} {x : GrantRecord}
    (lender : p.quota.lender frame = some (l, x)) (nodup : (p.quota.ledger.map LedgerRecord.train).Nodup)
    {f : LedgerRecord → LedgerRecord} (move : LedgerRecord.Move f) :
    (p.moveOn (some l.train) f).quota.find l.train = some (f l)
      ∧ ∀ k, k ≠ l.train → (p.moveOn (some l.train) f).quota.find k = p.quota.find k := by
  have found := QuotaUnit.find_of_mem nodup (QuotaUnit.lender_spec lender).1
  simp only [Part.moveOn]
  refine ⟨?_, fun k other => p.quota.find_modify_other k l.train f move.train other⟩
  rw [p.quota.find_modify l.train f move.train, found, Option.map_some]

theorem mem_modifyFirst {α : Type} {hit : α → Bool} (f : α → α) {l : List α} {x : α} (h : l.find? hit = some x) :
    f x ∈ modifyFirst hit f l := by
  induction l with
  | nil => simp at h
  | cons y ys ih =>
    simp only [modifyFirst]
    cases hy : hit y <;> simp only [List.find?_cons, hy] at h
    · exact List.mem_cons_of_mem _ (ih h)
    · cases h; simp

/-- With the first hit known the change is at its place. -/
theorem modifyFirst_append {α : Type} (hit : α → Bool) (f : α → α) (before after : List α) (x : α) (hx : hit x = true)
    (others : ∀ y ∈ before, hit y = false) :
    modifyFirst hit f (before ++ x :: after) = before ++ f x :: after := by
  induction before with
  | nil => simp [modifyFirst, hx]
  | cons y ys ih =>
    have hy := others y (by simp)
    simp [modifyFirst, hy, ih (fun z hz => others z (by simp [hz]))]

namespace LedgerRecord
variable {r : LedgerRecord} {frame : Nat} {x : GrantRecord}

theorem grantSent_of_find (found : r.grants.find? (fun g => g.lendsBy frame) = some x) (deadline : Nat) :
    r.grantSent frame deadline = { r with
      lending := r.lending - x.count, awaiting := r.awaiting + x.count,
      grants := (r.grantSent frame deadline).grants }
    ∧ { x with state := .awaiting deadline } ∈ (r.grantSent frame deadline).grants := by
  simp only [grantSent, found, true_and]
  exact mem_modifyFirst (fun g => { g with state := .awaiting deadline }) found

theorem grantGivenUp_of_find (found : r.grants.find? (fun g => g.lendsBy frame) = some x) :
    r.grantGivenUp frame = { r with
      lending := r.lending - x.count, doubtful := r.doubtful + x.count, grants := (r.grantGivenUp frame).grants }
    ∧ { x with state := .doubtful } ∈ (r.grantGivenUp frame).grants := by
  simp only [grantGivenUp, found, true_and]
  exact mem_modifyFirst (fun g => { g with state := .doubtful }) found

theorem grantLapsed_of_find (found : r.grants.find? (fun g => g.lendsBy frame) = some x) :
    r.grantLapsed frame = { r with
      lending := r.lending - x.count, lapsed := r.lapsed + x.count,
      grants := r.grants.eraseP (fun g => g.lendsBy frame) } := by
  simp [grantLapsed, found]

end LedgerRecord

/-! ### What the owners of a frame are told (R41, R125, R126, R158, R160) -/

/-- No entry keeps a mark of a frame that was reported. -/
theorem Part.trainReported_unmarked (p : Part) (frame : Nat) :
    ∀ e ∈ (p.trainReported frame).board.entries, ∀ m ∈ e.frame, m.frame ≠ frame := by
  rw [Part.trainReported_entries]
  intro e he m hm same
  obtain ⟨x, -, rfl⟩ := List.mem_map.mp he
  simp only [Entry.freed, Option.mem_def] at hm
  split at hm
  · cases hm
  · rename_i kept
    exact kept (by simp [hm, same])

theorem Part.grantSent_lender (p : Part) {frame : Nat} {l : LedgerRecord} {x : GrantRecord}
    (lender : p.quota.lender frame = some (l, x)) (nodup : (p.quota.ledger.map LedgerRecord.train).Nodup) :
    (p.grantSent frame).quota.find l.train = some (l.grantSent frame (p.lineTime + 2000)) := by
  simp only [Part.grantSent, lender, Part.post_frame]
  exact (p.moveOn_find_lender lender nodup (LedgerRecord.grantSent_move _ _).toMove).1

theorem Part.grantGivenUp_lender (p : Part) {frame : Nat} {l : LedgerRecord} {x : GrantRecord}
    (lender : p.quota.lender frame = some (l, x)) (nodup : (p.quota.ledger.map LedgerRecord.train).Nodup) :
    (p.grantGivenUp frame).quota.find l.train
      = some (if p.trainSellable l.train then l.grantGivenUp frame else l.grantLapsed frame) := by
  simp only [Part.grantGivenUp, lender]
  split
  · simp only [Part.post_frame]
    exact (p.moveOn_find_lender lender nodup (LedgerRecord.grantGivenUp_move _).toMove).1
  · exact (p.moveOn_find_lender lender nodup (LedgerRecord.grantLapsed_move _).toMove).1

/-! ### The ends of an attempt (R158 to R160) -/

theorem LineInterface.find_id {l : LineInterface} {f : Nat} {sl : Slot} (h : l.find f = some sl) : sl.id = f :=
  (LineInterface.mem_ids_of_find h).1

/-- The store with a frame's slot freed and the transmitter let go. -/
def LineInterface.without (l : LineInterface) (f : Nat) : LineInterface :=
  { l with slots := l.slots.filter (fun x => x.id ≠ f), tx := .idle }

theorem LineInterface.drop_one (l : LineInterface) (f : Nat) :
    { l.drop [f] with tx := .idle } = l.without f := by
  simp [LineInterface.drop, LineInterface.without]

/-- SENT WHOLE: the slot freed, and the owner told (R158). -/
theorem Part.sentWhole_eq (p : Part) {f : Nat} {sl : Slot} (found : p.line.find f = some sl)
    (sending : p.line.tx = .sending f) :
    p.sentWhole = ({ p with line := { p.line.without f with onLine := none } }).tellSent sl := by
  simp only [Part.sentWhole, sending, found, Part.withLine, ← LineInterface.drop_one]

/-- A frame below its eighth attempt stays at BREAK END (R159). -/
theorem Part.endBreak_keeps_frame (p : Part) {f : Nat} {sl : Slot} (found : p.line.find f = some sl)
    (breaking : p.line.tx = .breaking f) (low : sl.attempts < 8) : p.endBreak = p.keepFrame sl := by
  simp [Part.endBreak, breaking, found, Nat.not_le.mpr low]

/-- A frame at its eighth attempt is given up at BREAK END (R160). -/
theorem Part.endBreak_gives_up (p : Part) {f : Nat} {sl : Slot} (found : p.line.find f = some sl)
    (breaking : p.line.tx = .breaking f) (high : 8 ≤ sl.attempts) : p.endBreak = p.giveUp sl := by
  simp [Part.endBreak, breaking, found, high]

/-- A GRANT cut by a collision is collided, or withdrawn with its places lapsed (R124). -/
theorem Part.grantCut_lender (p : Part) {f : Nat} {l : LedgerRecord} {x : GrantRecord} {before after : List GrantRecord}
    (lender : p.quota.lender f = some (l, x)) (grants : l.grants = before ++ x :: after)
    (first : ∀ y ∈ before, y.state ≠ .lending f) (nodup : (p.quota.ledger.map LedgerRecord.train).Nodup)
    (idle : p.line.tx = .idle) :
    p.grantCut f = { p with quota := (p.grantCut f).quota, line := (p.grantCut f).line }
      ∧ (∀ k, k ≠ l.train → (p.grantCut f).quota.find k = p.quota.find k)
      ∧ (p.trainSellable l.train = true →
          (p.grantCut f).quota.find l.train = some { l with grants := before ++ { x with collided := true } :: after }
            ∧ (p.grantCut f).line = p.line)
      ∧ (p.trainSellable l.train = false →
          (p.grantCut f).quota.find l.train = some { l with
              lending := l.lending - x.count, lapsed := l.lapsed + x.count, grants := before ++ after }
            ∧ (p.grantCut f).line = p.line.without f) := by
  have found := (QuotaUnit.lender_spec lender).2
  have hit : x.lendsBy f = true := by simpa using List.find?_some found
  have others : ∀ y ∈ before, y.lendsBy f = false := fun y hy => by simpa [GrantRecord.lendsBy] using first y hy
  cases sold : p.trainSellable l.train with
  | true =>
    obtain ⟨own, rest⟩ := p.moveOn_find_lender lender nodup (LedgerRecord.grantCollided_move f).toMove
    have cut : p.grantCut f = p.moveOn (some l.train) (fun r => r.grantCollided f) := by
      simp [Part.grantCut, lender, sold]
    rw [cut]
    refine ⟨rfl, rest, fun _ => ⟨?_, rfl⟩, fun h => by cases h⟩
    rw [own, LedgerRecord.grantCollided, grants, modifyFirst_append _ _ before after x hit others]
  | false =>
    obtain ⟨own, rest⟩ := p.moveOn_find_lender lender nodup (LedgerRecord.grantLapsed_move f).toMove
    have cut : p.grantCut f
        = { p.moveOn (some l.train) (fun r => r.grantLapsed f) with line := p.line.without f } := by
      simp [Part.grantCut, lender, sold, Part.withdraw, LineInterface.inTransmission, idle, LineInterface.chose,
        Transmitter.chosen, LineInterface.drop, LineInterface.without]
    rw [cut]
    refine ⟨rfl, rest, fun h => (by cases h), fun _ => ⟨?_, rfl⟩⟩
    have erased : (before ++ x :: after).eraseP (fun g => g.lendsBy f) = before ++ after := by
      rw [List.eraseP_append_right _ (by simpa using others), List.eraseP_cons_of_pos (by simpa using hit)]
    refine own.trans ?_
    rw [LedgerRecord.grantLapsed_of_find found, grants, erased]

/-- A frame given up: its slot freed and counted, LINE posted, and the owner told (R160). -/
theorem Part.giveUp_eq (p : Part) {f : Nat} {sl : Slot} (id : sl.id = f) :
    p.giveUp sl = (({ p with line := { p.line.without f with
        counts := { p.line.counts with giveUp := min (p.line.counts.giveUp + 1) 65535 } } }).post
      (mkNotice .line .none none (p.frameSubject sl) sl.body.kind.code
        (min (p.line.counts.giveUp + 1) 65535 : Nat))).tellGivenUp sl := by
  simp [Part.giveUp, Part.withLine, id, bump, satAdd, LineInterface.drop, LineInterface.without]

theorem Part.tellGivenUp_notices (p : Part) (sl : Slot) (other : ∀ g, sl.body ≠ .grant g) :
    (p.tellGivenUp sl).notices = p.notices := by
  simp only [Part.tellGivenUp]
  split
  · simp
  · exact absurd ‹_› (other _)
  all_goals rfl

/-- What the lender's record is after its GRANT was given up, by whether its train is sold (R126, R130). -/
theorem LedgerRecord.givenUp_of_find {l : LedgerRecord} {x : GrantRecord} {frame : Nat}
    (found : l.grants.find? (fun g => g.lendsBy frame) = some x) (sold : Bool) (l' : LedgerRecord)
    (is : l' = if sold then l.grantGivenUp frame else l.grantLapsed frame) :
    l'.lending = l.lending - x.count ∧ l'.held = l.held ∧ l'.awaiting = l.awaiting
      ∧ (sold = true → l'.doubtful = l.doubtful + x.count ∧ l'.lapsed = l.lapsed
          ∧ { x with state := .doubtful } ∈ l'.grants)
      ∧ (sold = false → l'.lapsed = l.lapsed + x.count ∧ l'.doubtful = l.doubtful
          ∧ l'.grants.length + 1 = l.grants.length) := by
  obtain ⟨doubtful, mem⟩ := LedgerRecord.grantGivenUp_of_find found
  have lapsed := LedgerRecord.grantLapsed_of_find found
  cases sold with
  | true =>
    simp only [if_true] at is
    rw [is]
    refine ⟨?_, ?_, ?_, fun _ => ⟨?_, ?_, mem⟩, fun h => by cases h⟩ <;> rw [doubtful]
  | false =>
    simp only [Bool.false_eq_true, if_false] at is
    rw [is, lapsed]
    refine ⟨rfl, rfl, rfl, fun h => (by cases h), fun _ => ⟨rfl, rfl, ?_⟩⟩
    have mem := List.mem_of_find?_eq_some found
    have pos := List.length_pos_of_mem mem
    have hit : x.lendsBy frame = true := by simpa using List.find?_some found
    have shorter := List.length_eraseP_of_mem (p := fun g => g.lendsBy frame) mem hit
    simp only [shorter]
    omega

/-- Settles O55: each end of an attempt by the owner of the frame. -/
theorem attemptEnds : Obligations.AttemptEnds := by
  intro f sl s up found _
  have id := LineInterface.find_id found
  refine ⟨fun sending => ⟨?_, ?_⟩, fun breaking => ⟨fun low other => ?_, fun low g body l before x after lender grants
    first nodup => ?_, fun high => ?_⟩⟩
  · refine ⟨⟨s.part.sentWhole, s.pending⟩, by simp [up], rfl, ?_⟩
    simp only [s.part.sentWhole_eq found sending]
    refine ⟨by simp [LineInterface.without], fun u body => ?_, fun g body l x lender nodup => ?_, fun other => ?_, by simp,
      by simp⟩
    · simp only [Part.tellSent, body, ← id]
      exact Part.trainReported_unmarked _ _
    · obtain ⟨sent, mem⟩ := LedgerRecord.grantSent_of_find (QuotaUnit.lender_spec lender).2 (s.part.lineTime + 2000)
      refine ⟨l.grantSent f (s.part.lineTime + 2000), ?_, ?_, ?_, ?_, ?_, mem⟩
      · simp only [Part.tellSent, body, id]
        exact Part.grantSent_lender _ lender nodup
      all_goals rw [sent]
    · rcases other with body | ⟨a, body⟩ | ⟨k, body⟩ <;> simp [Part.tellSent, body]
  · have own := s.part.line.find_modify f Slot.collided (fun _ => rfl)
    rw [found] at own
    refine ⟨⟨s.part.collide, s.pending⟩, by simp [up], rfl, ?_⟩
    rw [Part.collide, sending]
    exact ⟨rfl, rfl, rfl, rfl, own, fun f' other => s.part.line.find_modify_other f f' Slot.collided (fun _ => rfl) other⟩
  · rw [exec_breakEnd, if_pos up, s.part.endBreak_keeps_frame found breaking low, Part.keepFrame]
    split
    · exact absurd ‹_› (other _)
    · rfl
  · refine ⟨⟨s.part.endBreak, s.pending⟩, by simp [up], rfl, ?_⟩
    obtain ⟨frame, others, sold, unsold⟩ := Part.grantCut_lender (s.part.withLine (fun l => { l with tx := .idle }))
      lender grants first nodup rfl
    simp only [s.part.endBreak_keeps_frame found breaking low, Part.keepFrame, body, id]
    exact ⟨frame, others, sold, unsold⟩
  · refine ⟨⟨s.part.endBreak, s.pending⟩, by simp [up], rfl, ?_⟩
    simp only [s.part.endBreak_gives_up found breaking high, s.part.giveUp_eq id]
    refine ⟨by simp [LineInterface.without], fun running other => ?_, fun u body => ?_, fun g body l x lender nodup => ?_,
      by simp, by simp⟩
    · rw [Part.tellGivenUp_notices _ sl other, Part.post_eq_note _ _ (by simp [running])]
      simp [Part.note, running, Part.holdOff]
    · simp only [Part.tellGivenUp, body, ← id]
      exact Part.trainReported_unmarked _ _
    · have sold : ∀ (q : Part), q.board = s.part.board → q.trainSellable l.train = s.part.trainSellable l.train :=
        fun q board => by simp [Part.trainSellable, board]
      refine ⟨_, ?_, LedgerRecord.givenUp_of_find (QuotaUnit.lender_spec lender).2 (s.part.trainSellable l.train) _ rfl⟩
      simp only [Part.tellGivenUp, body, id]
      rw [Part.grantGivenUp_lender _ (by simpa using lender) (by simpa using nodup), sold _ (by simp)]

end Sys2Proof.Machine
end

section
namespace Sys2Proof.Machine

/-! ### Frames withdrawn (R153) -/

@[simp] theorem Part.settleTransmitter_numbers (p : Part) :
    p.settleTransmitter.line.nextFrame = p.line.nextFrame ∧ p.settleTransmitter.line.nextSeq = p.line.nextSeq := by
  simp only [Part.settleTransmitter, Part.choose, Part.runWait]
  repeat' split
  all_goals exact ⟨rfl, rfl⟩

@[simp] theorem Part.withdraw_numbers (p : Part) (ids : List Nat) :
    (p.withdraw ids).line.nextFrame = p.line.nextFrame ∧ (p.withdraw ids).line.nextSeq = p.line.nextSeq := by
  simp only [Part.withdraw]
  split
  · simp [LineInterface.drop]
  · exact ⟨rfl, rfl⟩

theorem Part.withdraw_unwaited (p : Part) (ids : List Nat) :
    (p.withdraw ids).line.slots.map Slot.unwaited
      = (p.line.slots.filter (fun s => s.id ∉ ids.filter (fun id => !p.line.inTransmission id))).map Slot.unwaited := by
  simp only [Part.withdraw]
  split
  · rw [Part.settleTransmitter_unwaited]; rfl
  · rfl

/-- A withdrawal never takes room away. -/
theorem Part.withdraw_hasRoom (p : Part) (ids : List Nat) (c : FrameClass) (room : p.line.hasRoom c = true) :
    (p.withdraw ids).line.hasRoom c = true := by
  have views : ∀ (l : LineInterface) c', l.used c' = ((l.slots.map Slot.unwaited).filter (fun s => s.cls = c')).length := by
    intro l c'
    rw [LineInterface.used, List.filter_map, List.length_map]
    rfl
  have lengths : (p.withdraw ids).line.slots.length = ((p.withdraw ids).line.slots.map Slot.unwaited).length := by simp
  have sub : ((p.line.slots.filter (fun s => s.id ∉ ids.filter (fun id => !p.line.inTransmission id))).map
      Slot.unwaited).Sublist (p.line.slots.map Slot.unwaited) := List.filter_sublist.map _
  have used : ∀ c', (p.withdraw ids).line.used c' ≤ p.line.used c' := fun c' => by
    rw [views, views, p.withdraw_unwaited]
    exact (sub.filter _).length_le
  have size : (p.withdraw ids).line.slots.length ≤ p.line.slots.length := by
    rw [lengths, p.withdraw_unwaited]
    simpa using sub.length_le
  have normal := used .normal
  have bulk := used .bulk
  simp only [LineInterface.hasRoom, Bool.and_eq_true, Bool.or_eq_true, decide_eq_true_eq] at room ⊢
  obtain ⟨some, room⟩ := room
  exact ⟨by omega, room.imp id (fun h => by omega)⟩

/-! ### The entry that an update leaves (R33 to R35, R40, R42) -/

/-- An entry that differs at most in what follows an update: state, refresh deadline and frame in the store. -/
def Entry.Alike (e e' : Entry) : Prop :=
  e' = { e with state := e'.state, refreshDeadline := e'.refreshDeadline, frame := e'.frame }

theorem Entry.Alike.trans {a b c : Entry} (h : a.Alike b) (h' : b.Alike c) : a.Alike c := by
  unfold Entry.Alike at h h' ⊢
  rw [h', h]

theorem Entry.Alike.judged {a b : Entry} (h : a.Alike b) (n : Nat) : b.judged n = { a with state := b.state }.judged n := by
  rw [h]; rfl

theorem Entry.Alike.frameUpdate {a b : Entry} (h : a.Alike b) (announce : Bool) :
    b.frameUpdate announce = a.frameUpdate announce := by
  rw [h]; rfl

/-- The refresh deadline restarted, unless the entry is GONE (R42). -/
def Entry.restarted (deadline : Nat) (e : Entry) : Entry :=
  if e.state = .gone then e else { e with refreshDeadline := some deadline }

/-- An entry once its frame's mark, its refresh deadline and its state are settled. -/
def Entry.finished (m : Entry → Option FrameMark) (deadline : Nat) (now : Option Nat) (e : Entry) : Entry :=
  ((e.marked m).restarted deadline).evaluated now

theorem Entry.marked_alike (m : Entry → Option FrameMark) (e : Entry) : e.Alike (e.marked m) := rfl

theorem Entry.restarted_alike (d : Nat) (e : Entry) : e.Alike (e.restarted d) := by
  simp only [Entry.restarted]
  split <;> rfl

theorem Entry.restarted_state (d : Nat) (e : Entry) : (e.restarted d).state = e.state := by
  simp only [Entry.restarted]
  split <;> rfl

theorem Entry.evaluated_alike (now : Option Nat) (e : Entry) : e.Alike (e.evaluated now) := by
  rw [Entry.evaluated_rest]; rfl

theorem Entry.finished_alike (m : Entry → Option FrameMark) (d : Nat) (now : Option Nat) (e : Entry) :
    e.Alike (e.finished m d now) :=
  ((e.marked_alike m).trans (Entry.restarted_alike d _)).trans (Entry.evaluated_alike now _)

theorem Entry.finished_state (m : Entry → Option FrameMark) (d : Nat) (now : Option Nat) (e : Entry) :
    (e.finished m d now).state = (match now with | none => e.state | some n => e.judged n) := by
  have alike := (e.marked_alike m).trans (Entry.restarted_alike d _)
  have state : ((e.marked m).restarted d).state = e.state := Entry.restarted_state d _
  simp only [Entry.finished, Entry.evaluated_state]
  split
  · exact state
  · rw [alike.judged, state]

theorem Entry.finished_deadline (m : Entry → Option FrameMark) (d : Nat) (now : Option Nat) (e : Entry)
    (here : e.state ≠ .gone) :
    (e.finished m d now).refreshDeadline = if (e.finished m d now).state = .gone then none else some d := by
  have state : ((e.marked m).restarted d).state = e.state := Entry.restarted_state d _
  have deadline : ((e.marked m).restarted d).refreshDeadline = some d := by simp [Entry.restarted, Entry.marked, here]
  rw [Entry.finished, Entry.evaluated_deadline now _ (by rw [state]; exact here), deadline]

/-- A GONE entry never comes back by its evaluation. -/
theorem Entry.finished_of_gone (m : Entry → Option FrameMark) (d : Nat) (now : Option Nat) {e : Entry}
    (gone : e.state = .gone) : (e.finished m d now).state = .gone := by
  rw [Entry.finished_state]
  split
  · exact gone
  · exact Entry.judged_of_gone gone _

/-! ### The frames of an update (R35, R40) -/

theorem Entry.dropMark_marked (e : Entry) (l : LineInterface) : e.dropMark l = e.marked (fun e => (e.dropMark l).frame) := by
  simp only [Entry.marked, Entry.dropMark]
  repeat' split
  all_goals rfl

theorem Part.withdrawTrain_changes (p : Part) (t : TrainKey) :
    ∃ m, p.Changes (p.withdrawTrain t) t (Entry.marked m) := by
  refine ⟨fun e => (e.dropMark (p.withdraw (p.line.trainFrames t)).line).frame, ?_⟩
  have dropped := Part.modifyEntry_changes (p.withdraw (p.line.trainFrames t)) t
    (fun e => e.dropMark (p.withdraw (p.line.trainFrames t)).line) (fun e => (e.dropMark_same _).1)
  have withdrawn : p.Changes (p.withdraw (p.line.trainFrames t)) t id := .of_board (by simp)
  exact (withdrawn.trans dropped).congr fun e _ => (e.dropMark_marked _).symm

/-- The frames of an update settled: what they leave of the entry, and the frame queued for a local update. -/
theorem Part.updateFrames_changes (p : Part) (source : Option Nat) (t : TrainKey) :
    ∃ m, p.Changes (p.updateFrames source t).1 t (Entry.marked m) := by
  obtain ⟨m, withdrawn⟩ := p.withdrawTrain_changes t
  simp only [Part.updateFrames]
  split
  · exact ⟨m, withdrawn⟩
  split
  · exact ⟨m, withdrawn⟩
  rename_i e found
  have train := (DepartureList.find_some found).2
  have queued := (p.withdrawTrain t).queueTrain_changes e .update .normal
  rw [train] at queued
  split at queued
  · exact ⟨_, withdrawn.trans queued⟩
  · exact ⟨m, withdrawn.trans queued⟩

/-- A local update queues its frame whenever the store had room (R40). -/
theorem Part.updateFrames_queued (p : Part) (t : TrainKey) {e : Entry} (found : p.board.find t = some e)
    (room : p.line.hasRoom .normal = true) : (p.updateFrames none t).2 = true := by
  obtain ⟨m, withdrawn⟩ := p.withdrawTrain_changes t
  have entry := withdrawn.find
  rw [found, Option.map_some] at entry
  have still : (p.withdrawTrain t).line.hasRoom .normal = true := by
    simpa [Part.withdrawTrain] using p.withdraw_hasRoom (p.line.trainFrames t) .normal room
  simp only [Part.updateFrames, entry, Part.queueTrain, still, if_true]

/-- The frame that a local update queued is in the store, built from the entry (R41). -/
theorem Part.updateFrames_mem (p : Part) (t : TrainKey) {e : Entry} (found : p.board.find t = some e)
    (queued : (p.updateFrames none t).2 = true) :
    ∃ x ∈ (p.updateFrames none t).1.line.slots.map Slot.unwaited,
      x.id = p.line.nextFrame ∧ x.cls = .normal ∧ x.body = .train (e.frameUpdate false) := by
  obtain ⟨m, withdrawn⟩ := p.withdrawTrain_changes t
  have entry := withdrawn.find
  rw [found, Option.map_some] at entry
  have room : (p.withdrawTrain t).line.hasRoom .normal = true := by
    simp only [Part.updateFrames, entry, Part.queueTrain] at queued
    by_contra full
    simp [full] at queued
  refine ⟨(p.withdrawTrain t).line.newSlot .normal (.train (e.frameUpdate false)), ?_, ?_, rfl, rfl⟩
  · simp only [Part.updateFrames, entry]
    exact Part.queueTrain_mem _ _ .update .normal room
  · simp [LineInterface.newSlot, Part.withdrawTrain]

/-! ### An update applied (R34, R35) -/

/-- An entry with a newer update's fields and the state the update moves it to. -/
def Entry.updated (u : Update) (e : Entry) : Entry := { e.apply u with state := movedState e.state u.estimate }

theorem Part.restartRefresh_changes (p : Part) (t : TrainKey) :
    p.Changes (p.restartRefresh t) t (Entry.restarted (p.lineTime + p.refreshMs)) :=
  p.modifyEntry_changes t _ (fun e => by split <;> rfl)

/-- The report of a cancelled entry leaves the entry as it is: it is CANCELLED already. -/
theorem Part.reportCancelled_changes (p : Part) (t : TrainKey) (before : EntryState) :
    p.Changes (p.reportCancelled t before) t id := by
  simp only [Part.reportCancelled]
  split
  · exact .of_board rfl
  rename_i e found
  have train := (DepartureList.find_some found).2
  split
  · rename_i cancelled
    have left := (p.modifyEntry_changes e.train (fun x => { x with state := .cancelled }) (fun _ => rfl)).trans
      (Part.reportLeft_changes _ e .trainCancelled e.train)
    rw [train] at left
    refine Part.Changes.congr (by simpa only [Part.enterCancelled, train] using left) fun x hx => ?_
    rw [found] at hx
    cases hx
    simp only [Function.comp, id]
    rw [← cancelled.1]
  · exact .of_board rfl

theorem Part.boardChanged_changes (p : Part) (t : TrainKey) : p.Changes p.boardChanged t id := .of_board (by simp)

/-- The frames, the refresh and the evaluation that finish an update's entry, whatever the reports between them. -/
theorem Part.Changes.finish {p a b : Part} {t : TrainKey} {m : Entry → Option FrameMark}
    (framed : p.Changes a t (Entry.marked m)) (reported : (a.restartRefresh t).Changes b t id)
    (time : a.lineTime = p.lineTime) (period : a.refreshMs = p.refreshMs) (clock : b.clock = p.clock) (tell : Bool) :
    p.Changes (b.evaluateNow t tell) t (Entry.finished m (p.lineTime + p.refreshMs) p.clock.now?) := by
  have restarted := a.restartRefresh_changes t
  have evaluated := b.evaluateNow_changes t tell
  rw [time, period] at restarted
  rw [clock] at evaluated
  exact ((framed.trans restarted).trans reported).trans evaluated

/-- The notice and the page builder's turn that follow leave the list. -/
theorem Part.Changes.told {p q : Part} {t : TrainKey} {g : Entry → Entry} (c : p.Changes q t g) (n : Notice) :
    p.Changes (q.post n).boardChanged t g :=
  c.trans ((q.post_changes n t).trans (Part.boardChanged_changes _ t))

/-- The part once a newer update is in its entry and its frames, its reports and its evaluation are settled. -/
def Part.updating (p : Part) (source : Option Nat) (u : Update) (before : EntryState) : Part :=
  ((((p.modifyEntry u.train (Entry.updated u)).updateFrames source u.train).1.restartRefresh u.train).reportCancelled
    u.train before).evaluateNow u.train false

theorem Part.applyUpdate_eq (p : Part) (source : Option Nat) (u : Update) (e : Entry) :
    p.applyUpdate source u e
      = (((p.updating source u e.state).post (boardNotice .update source u.train u.serial
          ((p.updating source u e.state).stateValue u.train))).boardChanged,
        ((p.modifyEntry u.train (Entry.updated u)).updateFrames source u.train).2) := rfl

theorem Part.updating_changes (p : Part) (source : Option Nat) (u : Update) (before : EntryState) :
    ∃ m, p.Changes (p.updating source u before) u.train
      (Entry.finished m (p.lineTime + p.refreshMs) p.clock.now? ∘ Entry.updated u) := by
  obtain ⟨m, framed⟩ := (p.modifyEntry u.train (Entry.updated u)).updateFrames_changes source u.train
  have finished := framed.finish (Part.reportCancelled_changes _ u.train before) (by simp) (by simp [Part.refreshMs])
    (by simp) false
  exact ⟨m, (p.modifyEntry_changes u.train (Entry.updated u) (fun _ => rfl)).trans finished⟩

theorem Part.applyUpdate_changes (p : Part) (source : Option Nat) (u : Update) (e : Entry) :
    ∃ m, p.Changes (p.applyUpdate source u e).1 u.train
      (Entry.finished m (p.lineTime + p.refreshMs) p.clock.now? ∘ Entry.updated u) := by
  obtain ⟨m, changes⟩ := p.updating_changes source u e.state
  rw [Part.applyUpdate_eq]
  exact ⟨m, changes.told _⟩

/-! ### An entry created (R38) -/

/-- The entry that an update creates, its link set (R29, R38). -/
def Part.created (p : Part) (u : Update) (b : NewTrain) : Entry :=
  { u.entry b with linked := p.linksTo u.train b.quotaTotal }

/-- The part once an entry was added and its frames and its evaluation are settled. -/
def Part.creating (p : Part) (source : Option Nat) (u : Update) (b : NewTrain) : Part :=
  (((p.addEntry (u.entry b)).updateFrames source u.train).1.restartRefresh u.train).evaluateNow u.train true

theorem Part.createEntry_eq (p : Part) (source : Option Nat) (u : Update) (b : NewTrain) (displaced : Nat) :
    p.createEntry source u b displaced
      = (((p.creating source u b).post (boardNotice .created source u.train u.serial displaced)).boardChanged,
        ((p.addEntry (u.entry b)).updateFrames source u.train).2) := rfl

theorem Part.createEntry_changes (p : Part) (source : Option Nat) (u : Update) (b : NewTrain) (displaced : Nat) :
    ∃ m, (p.addEntry (u.entry b)).Changes (p.createEntry source u b displaced).1 u.train
      (Entry.finished m (p.lineTime + p.refreshMs) p.clock.now?) := by
  obtain ⟨m, framed⟩ := (p.addEntry (u.entry b)).updateFrames_changes source u.train
  have finished := framed.finish (.of_board rfl) (by simp) (by simp [Part.refreshMs]) (by simp) true
  have time : (p.addEntry (u.entry b)).lineTime + (p.addEntry (u.entry b)).refreshMs = p.lineTime + p.refreshMs := by
    simp [Part.refreshMs]
  have clock : (p.addEntry (u.entry b)).clock = p.clock := by simp
  rw [time, clock] at finished
  rw [Part.createEntry_eq]
  exact ⟨m, finished.told _⟩

/-- The list after an entry was created for a train without one. -/
theorem Part.createEntry_board (p : Part) (source : Option Nat) (u : Update) (b : NewTrain) (displaced : Nat)
    (new : p.board.find u.train = none) :
    (∃ m, (p.createEntry source u b displaced).1.board.find u.train
        = some ((p.created u b).finished m (p.lineTime + p.refreshMs) p.clock.now?))
      ∧ (∀ k, k ≠ u.train → (p.createEntry source u b displaced).1.board.find k = p.board.find k)
      ∧ (p.createEntry source u b displaced).1.board.entries.length = p.board.entries.length + 1
      ∧ (p.createEntry source u b displaced).1.board.fullCount = p.board.fullCount := by
  obtain ⟨m, changes⟩ := p.createEntry_changes source u b displaced
  have added := p.addEntry_entries (u.entry b)
  refine ⟨⟨m, ?_⟩, fun k other => ?_, ?_, ?_⟩
  · rw [changes.find]
    exact congrArg (Option.map _) (p.addEntry_find (u.entry b) new)
  · rw [changes.find_other other, added, DepartureList.find_append]
    have otherTrain : (u.entry b).train ≠ k := fun h => other h.symm
    simp [otherTrain]
  · rw [changes.length, added]; simp
  · rw [changes.rest, added]

/-! ### What an update makes of an entry's fields (R34) -/

/-- An expected minute kept within 10 before and 720 after a scheduled minute of the day (R34). -/
theorem clampExpected_eq (scheduled minute : Nat) (day : scheduled ≤ 1799) :
    clampExpected scheduled minute
      = (max (scheduled - 10) (min minute (min (scheduled + 720) 1799)),
          decide (max (scheduled - 10) (min minute (min (scheduled + 720) 1799)) ≠ minute)) := by
  simp only [clampExpected]
  split
  · rw [Prod.mk.injEq, eq_comm (a := true), decide_eq_true_eq]; omega
  split
  · rw [Prod.mk.injEq, eq_comm (a := true), decide_eq_true_eq]; omega
  · rw [Prod.mk.injEq, eq_comm (a := false), decide_eq_false_iff_not]; omega

theorem Update.clamped_of_other {u : Update} (other : u.estimate ≠ .expected) (scheduled : Nat) :
    u.clamped scheduled = (none, false) := by
  cases h : u.estimate <;> simp_all [Update.clamped]

theorem Update.clamped_of_expected {u : Update} (expected : u.estimate = .expected) {m : Nat} (minute : u.expected = some m)
    (scheduled : Nat) (day : scheduled ≤ 1799) :
    u.clamped scheduled = (some (max (scheduled - 10) (min m (min (scheduled + 720) 1799))),
      decide (some (max (scheduled - 10) (min m (min (scheduled + 720) 1799))) ≠ some m)) := by
  simp [Update.clamped, expected, minute, clampExpected_eq scheduled m day]

/-- An entry alike to the updated one has taken the update (R34). -/
theorem Entry.takes_update {u : Update} {e e' : Entry} (alike : (e.updated u).Alike e') (day : e.scheduled ≤ 1799) :
    EntryTakesUpdate u e e' := by
  rw [alike]
  refine ⟨rfl, rfl, rfl, rfl, rfl, rfl, rfl, rfl, rfl, ?_, fun other => ?_, fun m expected minute => ?_⟩
  · simp [Entry.updated, Entry.apply]
  · simp [Entry.updated, Entry.apply, Update.clamped_of_other other]
  · simp [Entry.updated, Entry.apply, Update.clamped_of_expected expected minute e.scheduled day]

/-- An entry alike to the created one, its state as evaluated, is what the update creates (R38). -/
theorem Part.created_by {p : Part} {u : Update} {b : NewTrain} {e : Entry} (alike : (p.created u b).Alike e)
    (day : b.scheduled ≤ 1799) (now : Option Nat) (state : e.state = stateAfterUpdate now .listed e) :
    CreatedBy u b now e := by
  refine ⟨?_, ?_, ?_, ?_, ?_, ?_, ?_, ?_, ?_, fun other => ?_, fun m expected minute => ?_, state⟩
  all_goals rw [alike]
  all_goals simp only [Part.created, Update.entry]
  · simp [Update.clamped_of_other other]
  · simp [Update.clamped_of_expected expected minute b.scheduled day]

/-- The state that an update leaves, of the entry it has finished (R23, R24, R34). -/
theorem Entry.finished_stateAfterUpdate (m : Entry → Option FrameMark) (d : Nat) (now : Option Nat) (x : Entry)
    (before : EntryState) (moved : x.state = movedState before x.estimate) :
    (x.finished m d now).state = stateAfterUpdate now before (x.finished m d now) := by
  have alike := x.finished_alike m d now
  have estimate : (x.finished m d now).estimate = x.estimate := by rw [alike]
  have judged : ∀ n, { x.finished m d now with state := x.state }.judged n = x.judged n := fun n => by rw [alike]; rfl
  have moving : (if (x.finished m d now).estimate = .cancelled then EntryState.cancelled
      else if before = .cancelled then .listed else before) = x.state := by rw [estimate, moved, movedState]
  simp only [stateAfterUpdate, moving]
  rw [Entry.finished_state]
  cases now with
  | none => rfl
  | some n => exact (judged n).symm

end Sys2Proof.Machine
end

section
namespace Sys2Proof.Machine

/-! ### The entry displaced from a full list (R38) -/

theorem Entry.unsellable_iff (e : Entry) : e.sellable = false ↔ e.state = .gone ∨ e.state = .cancelled := by
  cases h : e.state <;> simp [Entry.sellable, h]

/-- The order in which entries are displaced (R38). -/
theorem Entry.displacedBefore_iff (a b : Entry) :
    a.displacedBefore b = true ↔ a.absScheduled < b.absScheduled
      ∨ a.absScheduled = b.absScheduled
          ∧ (a.train.id < b.train.id ∨ a.train.id = b.train.id ∧ a.train.day ≤ b.train.day) := by
  simp only [Entry.displacedBefore]
  split
  · rw [decide_eq_true_eq]; omega
  split
  · rw [decide_eq_true_eq]; omega
  · rw [decide_eq_true_eq]; omega

theorem entryToDisplace_none {l : List Entry} : entryToDisplace l = none ↔ ∀ e ∈ l, e.sellable = true := by
  induction l with
  | nil => simp [entryToDisplace]
  | cons e es ih =>
    rw [List.forall_mem_cons, ← ih]
    simp only [entryToDisplace]
    split
    · rename_i none
      by_cases h : e.sellable = true <;> simp [h, none]
    · rename_i d some
      constructor
      · intro h; split at h <;> cases h
      · rintro ⟨-, none⟩; rw [none] at some; cases some

/-- The entry displaced comes before every other that could be (R38). -/
theorem entryToDisplace_first {l : List Entry} {d : Entry} (h : entryToDisplace l = some d) :
    ∀ x ∈ l, x.sellable = false → d.displacedBefore x = true := by
  induction l generalizing d with
  | nil => simp [entryToDisplace] at h
  | cons e es ih =>
    simp only [entryToDisplace] at h
    intro x hx unsold
    rcases List.mem_cons.mp hx with rfl | later
    · split at h
      · simp only [unsold, Bool.false_eq_true, if_false, Option.some.injEq] at h
        rw [← h, Entry.displacedBefore_iff]; omega
      · rename_i y _
        split at h
        · cases h; rw [Entry.displacedBefore_iff]; omega
        · rename_i after
          cases h
          simp only [unsold, Bool.not_false, Bool.true_and] at after
          rw [Entry.displacedBefore_iff] at after ⊢
          omega
    · split at h
      · rename_i none
        have := entryToDisplace_none.mp none x later
        simp [unsold] at this
      · rename_i y some
        have first := ih some x later unsold
        split at h
        · rename_i before
          cases h
          simp only [Bool.and_eq_true] at before
          have before := before.2
          rw [Entry.displacedBefore_iff] at before first ⊢
          omega
        · cases h; exact first

/-- The entry that the rules name is the one displaced. -/
theorem DisplacedFrom.entryToDisplace_eq {l : List Entry} {d : Entry} (h : DisplacedFrom l d)
    (nodup : (l.map Entry.train).Nodup) : entryToDisplace l = some d := by
  obtain ⟨mem, left, least⟩ := h
  cases found : entryToDisplace l with
  | none =>
    have sold := entryToDisplace_none.mp found d mem
    simp [d.unsellable_iff.mpr left] at sold
  | some x =>
    obtain ⟨hx, unsold⟩ := entryToDisplace_spec found
    have first := entryToDisplace_first found d mem (d.unsellable_iff.mpr left)
    have last := least x hx (x.unsellable_iff.mp unsold)
    rw [Entry.displacedBefore_iff] at first
    have id : x.train.id = d.train.id := by omega
    have day : x.train.day = d.train.day := by omega
    have train : x.train = d.train := by
      cases hx : x.train; cases hd : d.train; simp_all
    rw [List.inj_on_of_nodup_map nodup hx mem train]

/-! ### Notices that join the queue (R166) -/

/-- Going from `p` to `q` at most `n` notices join the queue's end. -/
def Part.Posts (p q : Part) (n : Nat) : Prop :=
  ∃ extra, q.notices.entries = p.notices.entries ++ extra ∧ extra.length ≤ n

theorem Part.Posts.of_same {p q : Part} (same : q.notices = p.notices) : p.Posts q 0 := ⟨[], by simp [same], Nat.le_refl _⟩

theorem Part.Posts.trans {p q r : Part} {m n : Nat} (a : p.Posts q m) (b : q.Posts r n) : p.Posts r (m + n) := by
  obtain ⟨x, hx, lx⟩ := a
  obtain ⟨y, hy, ly⟩ := b
  exact ⟨x ++ y, by rw [hy, hx, List.append_assoc], by rw [List.length_append]; omega⟩

theorem Part.Posts.mono {p q : Part} {m n : Nat} (a : p.Posts q m) (le : m ≤ n) : p.Posts q n := by
  obtain ⟨x, hx, lx⟩ := a
  exact ⟨x, hx, lx.trans le⟩

theorem Part.Posts.mem {p q : Part} {n : Nat} (a : p.Posts q n) {x : Notice} (h : x ∈ p.notices.entries) :
    x ∈ q.notices.entries := by
  obtain ⟨extra, entries, -⟩ := a
  rw [entries]; exact List.mem_append_left _ h

theorem Part.Posts.length {p q : Part} {n : Nat} (a : p.Posts q n) :
    q.notices.entries.length ≤ p.notices.entries.length + n := by
  obtain ⟨extra, entries, le⟩ := a
  rw [entries, List.length_append]; omega

theorem NoticeQueue.store_entries (q : NoticeQueue) (st : PartState) (h now : Nat) (n : Notice) :
    (q.store st h now n).entries = if q.entries.length < 64 then q.entries ++ [{ n with lineTime := now }] else q.entries := by
  simp only [NoticeQueue.store]
  split <;> simp

theorem Part.note_posts (p : Part) (n : Notice) : p.Posts (p.note n) 1 := by
  simp only [Part.Posts, Part.note, NoticeQueue.store_entries]
  split
  · exact ⟨[{ n with lineTime := p.lineTime }], rfl, Nat.le_refl _⟩
  · exact ⟨[], by simp, by simp⟩

theorem Part.rebuild_posts (p : Part) (pick : Nat → Nat → Nat) : p.Posts (p.rebuild pick) 1 := by
  simp only [Part.rebuild, Part.holdPage]
  split
  · exact (Part.Posts.of_same rfl).mono (by omega)
  split
  · exact (Part.Posts.of_same rfl).mono (by omega)
  · exact Part.Posts.trans (.of_same rfl) (Part.note_posts _ _)

theorem Part.boardChanged_posts (p : Part) : p.Posts p.boardChanged 1 := by
  simp only [Part.boardChanged]
  split
  · exact p.rebuild_posts _
  · exact (Part.Posts.of_same rfl).mono (by omega)

theorem Part.startPages_posts (p : Part) : p.Posts p.startPages 1 := by
  simp only [Part.startPages]
  split
  · exact (p.rebuild_posts _).trans (n := 0) (.of_same rfl)
  · exact (Part.Posts.of_same rfl).mono (by omega)

theorem Part.wake_posts (p : Part) (c : WakeCause) : p.Posts (p.wake c) 2 := by
  refine Part.Posts.trans (m := 1) ?_ (Part.startPages_posts _)
  exact p.note_posts _

/-- A notice posted brings at most those of a wake with it, and is stored while there is room. -/
theorem Part.post_posts (p : Part) (n : Notice) : p.Posts (p.post n) 3 := by
  simp only [Part.post]
  split
  · exact (p.note_posts n).mono (by omega)
  split
  · exact (p.note_posts n).trans (Part.wake_posts _ _)
  · exact (p.note_posts n).mono (by omega)

theorem Part.post_mem (p : Part) (n : Notice) (room : p.notices.entries.length < 64) :
    { n with lineTime := p.lineTime } ∈ (p.post n).notices.entries := by
  have noted : { n with lineTime := p.lineTime } ∈ (p.note n).notices.entries := by
    simp [Part.note, NoticeQueue.store_entries, room]
  simp only [Part.post]
  split
  · exact noted
  split
  · exact (Part.wake_posts _ _).mem noted
  · exact noted

theorem Part.linkLedger_posts (p : Part) (t : TrainKey) (total : Nat) : p.Posts (p.linkLedger t total).1 3 := by
  simp only [Part.linkLedger]
  split
  · exact (Part.Posts.of_same rfl).mono (by omega)
  split
  · exact (Part.Posts.of_same rfl).mono (by omega)
  split
  · exact Part.Posts.trans (m := 0) (.of_same rfl) (Part.post_posts _ _)
  · exact Part.Posts.trans (m := 0) (.of_same rfl) (Part.post_posts _ _)

theorem Part.lapseTrain_posts (p : Part) (t : TrainKey) : p.Posts (p.lapseTrain t) 3 := by
  simp only [Part.lapseTrain]
  split
  · exact (Part.Posts.of_same rfl).mono (by omega)
  split
  · exact (Part.Posts.of_same (by simp)).mono (by omega)
  · exact Part.Posts.trans (m := 0) (.of_same (by simp)) (Part.post_posts _ _)

theorem Part.salesTrainLeft_posts (p : Part) (t : TrainKey) (code : ResultCode) : p.Posts (p.salesTrainLeft t code) 3 := by
  simp only [Part.salesTrainLeft, Part.endIssue]
  split
  · exact (Part.Posts.of_same rfl).mono (by omega)
  · exact Part.Posts.trans (m := 0) (.of_same (by simp)) (Part.post_posts _ _)

theorem Part.reportLeft_posts (p : Part) (e : Entry) (code : ResultCode) : p.Posts (p.reportLeft e code) 6 := by
  simp only [Part.reportLeft]
  split
  · exact (p.lapseTrain_posts _).trans (Part.salesTrainLeft_posts _ _ _)
  · exact (p.salesTrainLeft_posts _ _).mono (by omega)

theorem Part.evaluateNow_posts (p : Part) (t : TrainKey) (tell : Bool) : p.Posts (p.evaluateNow t tell) 9 := by
  simp only [Part.evaluateNow, Part.evaluateEntry, Part.enterGone]
  split
  · split
    · exact (Part.Posts.of_same rfl).mono (by omega)
    split
    · have left := fun (q : Part) e code => q.reportLeft_posts e code
      split
      · exact Part.Posts.trans (m := 6) (Part.Posts.trans (m := 0) (.of_same (by simp)) (left _ _ _)) (Part.post_posts _ _)
      · exact (Part.Posts.trans (m := 0) (.of_same (by simp)) (left _ _ _)).mono (by omega)
    · exact (Part.Posts.of_same (by simp)).mono (by omega)
  · exact (Part.Posts.of_same rfl).mono (by omega)

/-- With 50 notices at most in the queue there is room for CREATED behind those that come before it (R38, R46). -/
theorem Part.createEntry_mem (p : Part) (source : Option Nat) (u : Update) (b : NewTrain) (displaced : Nat)
    (few : p.notices.entries.length ≤ 50) :
    { boardNotice .created source u.train u.serial displaced with lineTime := p.lineTime }
      ∈ (p.createEntry source u b displaced).1.notices.entries := by
  have added : p.Posts (p.addEntry (u.entry b)) 3 :=
    (p.linkLedger_posts _ _).trans (n := 0) (.of_same rfl)
  have framed : (p.addEntry (u.entry b)).Posts
      (((p.addEntry (u.entry b)).updateFrames source u.train).1.restartRefresh u.train) 0 := .of_same (by simp)
  have before := (added.trans framed).trans (Part.evaluateNow_posts _ u.train true)
  have room := before.length
  have stored := Part.post_mem _ (boardNotice .created source u.train u.serial displaced) (lt_of_le_of_lt room (by omega))
  simp only [Part.evaluateNow_frame, Part.restartRefresh_frame, Part.updateFrames_frame, Part.addEntry_frame] at stored
  exact (Part.boardChanged_posts _).mem stored

end Sys2Proof.Machine
end

section
namespace Sys2Proof.Machine

/-! ### A slot that the lapses of an update pass by (R130, R153) -/

/-- A slot is in the store, its wait apart, and no grant lends by its frame. -/
structure Part.Carries (p : Part) (x : Slot) : Prop where
  mem : x ∈ p.line.slots.map Slot.unwaited
  unlent : ∀ l ∈ p.quota.ledger, ∀ g ∈ l.grants, g.state ≠ .lending x.id

section
variable {p q : Part} {x : Slot}

theorem Part.Carries.congr (k : p.Carries x) (line : q.line = p.line)
    (grants : ∀ l ∈ q.quota.ledger, ∃ l' ∈ p.quota.ledger, ∀ g ∈ l.grants, g ∈ l'.grants) : q.Carries x := by
  refine ⟨by rw [line]; exact k.mem, fun l hl g hg => ?_⟩
  obtain ⟨l', hl', sub⟩ := grants l hl
  exact k.unlent l' hl' g (sub g hg)

theorem Part.Carries.of_same (k : p.Carries x) (line : q.line = p.line) (quota : q.quota = p.quota) : q.Carries x :=
  k.congr line (by rw [quota]; exact fun l hl => ⟨l, hl, fun _ h => h⟩)

theorem Part.Carries.withdraw (k : p.Carries x) (ids : List Nat) (other : x.id ∉ ids) : (p.withdraw ids).Carries x := by
  refine ⟨?_, by simpa using k.unlent⟩
  rw [p.withdraw_unwaited]
  obtain ⟨sl, mem, rfl⟩ := List.mem_map.mp k.mem
  refine List.mem_map_of_mem (List.mem_filter.mpr ⟨mem, ?_⟩)
  simp only [decide_eq_true_eq]
  exact fun h => other (List.mem_of_mem_filter h)

/-- A move that gives no record a new grant. -/
theorem Part.Carries.moveOn (k : p.Carries x) (t : Option TrainKey) (f : LedgerRecord → LedgerRecord)
    (grants : ∀ r, ∀ g ∈ (f r).grants, g ∈ r.grants) : (p.moveOn t f).Carries x := by
  cases t with
  | none => exact k
  | some t =>
    refine k.congr rfl fun l hl => ?_
    obtain ⟨r, hr, rfl⟩ := List.mem_map.mp hl
    refine ⟨r, hr, ?_⟩
    split
    · exact grants r
    · exact fun g hg => hg

theorem Part.Carries.lapseTrain (k : p.Carries x) (t : TrainKey) : (p.lapseTrain t).Carries x := by
  simp only [Part.lapseTrain]
  split
  · exact k
  rename_i r found
  have lapsed : ((p.moveOn (some t) (fun r => r.lapse p.line.mayWithdraw)).withdraw
      ((r.grants.filter p.line.mayWithdraw).flatMap GrantRecord.frames)).Carries x := by
    refine (k.moveOn (some t) _ (fun r g hg => ?_)).withdraw _ fun h => ?_
    · exact List.mem_of_mem_filter hg
    · obtain ⟨g, hg, frame⟩ := List.mem_flatMap.mp h
      have other := k.unlent r (QuotaUnit.find_some found).1 g (List.mem_of_mem_filter hg)
      simp only [GrantRecord.frames] at frame
      split at frame
      · rename_i f lending
        exact other (by rw [lending, List.mem_singleton.mp frame])
      · simp at frame
  split
  · exact lapsed
  · exact lapsed.of_same (by simp) (by simp)

theorem Part.Carries.salesTrainLeft (k : p.Carries x) (t : TrainKey) (code : ResultCode) :
    (p.salesTrainLeft t code).Carries x := by
  simp only [Part.salesTrainLeft, Part.endIssue]
  split
  · exact k
  · rename_i i _
    exact (k.moveOn i.request.inputs.train LedgerRecord.lapseReserved (fun _ _ hg => hg)).of_same (by simp) (by simp)

theorem Part.Carries.reportLeft (k : p.Carries x) (e : Entry) (code : ResultCode) : (p.reportLeft e code).Carries x := by
  simp only [Part.reportLeft]
  split
  · exact (k.lapseTrain _).salesTrainLeft _ _
  · exact k.salesTrainLeft _ _

theorem Part.Carries.reportCancelled (k : p.Carries x) (t : TrainKey) (before : EntryState) :
    (p.reportCancelled t before).Carries x := by
  simp only [Part.reportCancelled, Part.enterCancelled]
  split
  · exact k
  split
  · refine Part.Carries.reportLeft ?_ _ _
    exact k.of_same (by simp) (by simp)
  · exact k

theorem Part.Carries.enterGone (k : p.Carries x) (e : Entry) : (p.enterGone e).Carries x := by
  refine Part.Carries.reportLeft ?_ e .trainGone
  exact k.of_same (by simp) (by simp)

theorem Part.Carries.post (k : p.Carries x) (n : Notice) : (p.post n).Carries x := k.of_same (by simp) (by simp)

theorem Part.Carries.boardChanged (k : p.Carries x) : p.boardChanged.Carries x := k.of_same (by simp) (by simp)

theorem Part.Carries.evaluateNow (k : p.Carries x) (t : TrainKey) (tell : Bool) : (p.evaluateNow t tell).Carries x := by
  simp only [Part.evaluateNow, Part.evaluateEntry]
  split
  · split
    · exact k
    split
    · split
      · exact (k.enterGone _).post _
      · exact k.enterGone _
    · exact k.of_same (by simp) (by simp)
  · exact k

theorem Part.Carries.updating {source : Option Nat} {u : Update}
    (k : ((p.modifyEntry u.train (Entry.updated u)).updateFrames source u.train).1.Carries x) (before : EntryState) :
    (p.updating source u before).Carries x := by
  refine ((Part.Carries.of_same k ?_ ?_).reportCancelled u.train before).evaluateNow u.train false
  · simp
  · simp

end

/-- The frame that a local update queued outlasts the update, unless an own grant lends by its number. -/
theorem Part.applyUpdate_carries (p : Part) (u : Update) (e : Entry) {y : Entry} (found : p.board.find u.train = some y)
    (queued : (p.applyUpdate none u e).2 = true)
    (unlent : ∀ l ∈ p.quota.ledger, ∀ g ∈ l.grants, g.state ≠ .lending p.line.nextFrame) :
    ∃ sl ∈ (p.applyUpdate none u e).1.line.slots, sl.cls = .normal ∧ sl.body = .train ((y.updated u).frameUpdate false) := by
  have entry : (p.modifyEntry u.train (Entry.updated u)).board.find u.train = some (y.updated u) := by
    rw [(p.modifyEntry_changes u.train (Entry.updated u) (fun _ => rfl)).find, found]; rfl
  rw [Part.applyUpdate_eq] at queued ⊢
  dsimp only at queued ⊢
  obtain ⟨x, mem, id, cls, body⟩ := Part.updateFrames_mem _ u.train entry queued
  have framed : ((p.modifyEntry u.train (Entry.updated u)).updateFrames none u.train).1.Carries x :=
    ⟨mem, by rw [id]; simpa using unlent⟩
  have told := (framed.updating e.state).post (boardNotice .update none u.train u.serial
    ((p.updating none u e.state).stateValue u.train)) |>.boardChanged
  obtain ⟨sl, hsl, -, -, cls', body'⟩ := Slot.of_unwaited_mem told.mem
  exact ⟨sl, hsl, cls'.trans cls, body'.trans body⟩

/-! ### The list with room made in it (R38) -/

theorem Part.removeEntry_entries (p : Part) (d : Entry) :
    (p.removeEntry d).board = { p.board with entries := p.board.entries.filter (fun x => x.train ≠ d.train) } := by
  simp [Part.removeEntry]

theorem Part.removeEntry_find (p : Part) (d : Entry) :
    (p.removeEntry d).board.find d.train = none
      ∧ ∀ k, k ≠ d.train → (p.removeEntry d).board.find k = p.board.find k := by
  rw [Part.removeEntry_entries]
  refine ⟨by simp [DepartureList.find, List.find?_eq_none], fun k other => ?_⟩
  simp only [DepartureList.find, List.find?_filter]
  congr 1
  funext x
  by_cases h : x.train = k <;> simp [h, other]

theorem Part.removeEntry_length (p : Part) (d : Entry) (nodup : (p.board.entries.map Entry.train).Nodup)
    (mem : d ∈ p.board.entries) : (p.removeEntry d).board.entries.length + 1 = p.board.entries.length := by
  have one := List.count_eq_one_of_mem nodup (List.mem_map_of_mem mem)
  rw [List.count, List.countP_map] at one
  have split := List.length_eq_countP_add_countP (fun e : Entry => e.train == d.train) (l := p.board.entries)
  have rest : (p.removeEntry d).board.entries.length
      = p.board.entries.countP (fun e => !(e.train == d.train)) := by
    rw [Part.removeEntry_entries, List.countP_eq_length_filter]
    simp only [ne_eq, decide_not, beq_eq_decide]
  have one : p.board.entries.countP (fun e => e.train == d.train) = 1 := one
  simp only [decide_not, Bool.decide_eq_true] at split
  omega

/-- A new entry in the place of a displaced one (R38). -/
theorem Part.displace_board (p : Part) (source : Option Nat) (u : Update) (b : NewTrain) (d : Entry)
    (new : p.board.find u.train = none) (nodup : (p.board.entries.map Entry.train).Nodup) (mem : d ∈ p.board.entries) :
    (∃ m, ((p.removeEntry d).createEntry source u b d.train.id).1.board.find u.train
        = some ((p.removeEntry d).created u b |>.finished m (p.lineTime + p.refreshMs) p.clock.now?))
      ∧ MadeRoom p.board ((p.removeEntry d).createEntry source u b d.train.id).1.board d u.train
      ∧ ((p.removeEntry d).createEntry source u b d.train.id).1.board.fullCount = p.board.fullCount := by
  obtain ⟨gone, others⟩ := p.removeEntry_find d
  have other : d.train ≠ u.train := fun h => DepartureList.find_none new d mem h
  have length := p.removeEntry_length d nodup mem
  obtain ⟨⟨m, found⟩, rest, grown, full⟩ := (p.removeEntry d).createEntry_board source u b d.train.id
    (by rw [others _ other.symm, new])
  have time : (p.removeEntry d).lineTime + (p.removeEntry d).refreshMs = p.lineTime + p.refreshMs := by
    simp [Part.removeEntry, Part.refreshMs]
  have clock : (p.removeEntry d).clock = p.clock := by simp [Part.removeEntry]
  rw [time, clock] at found
  refine ⟨⟨m, found⟩, ⟨by omega, by rw [rest _ other, gone], fun j notNew notGone => ?_⟩, ?_⟩
  · rw [rest j notNew, others j notGone]
  · rw [full, Part.removeEntry_entries]

/-! ### The ends of an update (R33, R36 to R39) -/

theorem Part.dayPast_eq_false {p : Part} {t : TrainKey} : p.dayPast t = false ↔ ∀ d, p.clock.salesDay = some d → d ≤ t.day := by
  simp only [Part.dayPast]
  split
  · simp [*]
  · simp [*]

section
variable {p : Part} {u : Update} {b : NewTrain} (source : Option Nat)

theorem Part.MayCreate.takeUpdate (h : p.MayCreate u b) :
    p.takeUpdate source u = ((p.createEntry source u b 0).1, .applied (p.createEntry source u b 0).2) := by
  obtain ⟨new, block, day, room⟩ := h
  simp [Part.takeUpdate, new, Part.newUpdate, block, Part.dayPast_eq_false.mpr day, room]

theorem Part.NoEntryFor.takeUpdate (h : p.NoEntryFor u) : p.takeUpdate source u = p.dropUnknown source := by
  obtain ⟨new, none | ⟨d, sales, past⟩⟩ := h
  · simp [Part.takeUpdate, new, Part.newUpdate, none]
  · have isPast : p.dayPast u.train = true := by simp [Part.dayPast, sales, past]
    simp only [Part.takeUpdate, new, Part.newUpdate, isPast, if_true]
    split <;> rfl

theorem Part.MeetsFullList.takeUpdate_full (h : p.MeetsFullList u b)
    (sold : ∀ x ∈ p.board.entries, x.state = .listed ∨ x.state = .due) :
    p.takeUpdate source u = p.dropFull source u := by
  obtain ⟨new, block, day, full⟩ := h
  have none : entryToDisplace p.board.entries = none :=
    entryToDisplace_none.mpr (fun e he => by simpa [Entry.sellable] using sold e he)
  simp [Part.takeUpdate, new, Part.newUpdate, block, Part.dayPast_eq_false.mpr day, Nat.not_lt.mpr full, none]

theorem Part.MeetsFullList.takeUpdate_displaces (h : p.MeetsFullList u b) {d : Entry}
    (nodup : (p.board.entries.map Entry.train).Nodup) (displaced : DisplacedFrom p.board.entries d) :
    p.takeUpdate source u = (((p.removeEntry d).createEntry source u b d.train.id).1,
      .applied ((p.removeEntry d).createEntry source u b d.train.id).2) := by
  obtain ⟨new, block, day, full⟩ := h
  simp [Part.takeUpdate, new, Part.newUpdate, block, Part.dayPast_eq_false.mpr day, Nat.not_lt.mpr full,
    displaced.entryToDisplace_eq nodup]

theorem Part.takeUpdate_newer {e : Entry} (found : p.board.find u.train = some e) (newer : e.serial < u.serial) :
    p.takeUpdate source u = ((p.applyUpdate source u e).1, .applied (p.applyUpdate source u e).2) := by
  simp [Part.takeUpdate, found, newer]

theorem Part.takeUpdate_equal {e : Entry} (found : p.board.find u.train = some e) (equal : e.serial = u.serial) :
    p.takeUpdate source u = p.repeatUpdate source u := by
  simp [Part.takeUpdate, found, equal]

theorem Part.takeUpdate_older {e : Entry} (found : p.board.find u.train = some e) (older : u.serial < e.serial) :
    p.takeUpdate source u = p.olderUpdate source e := by
  have notEqual : ¬ e.serial = u.serial := by omega
  simp [Part.takeUpdate, found, Nat.not_lt.mpr older.le, notEqual]

end

end Sys2Proof.Machine
end

section
namespace Sys2Proof.Machine

/-! ### What an update leaves of its train's entry (R34, R38) -/

theorem Update.ok_scheduled {u : Update} (ok : u.ok = true) {b : NewTrain} (block : u.newTrain = some b) :
    b.scheduled ≤ 1799 := by
  simp only [Update.ok, block, Bool.and_eq_true, NewTrain.inRange, decide_eq_true_eq] at ok
  omega

theorem Part.created_moved (p : Part) (u : Update) (b : NewTrain) :
    (p.created u b).state = movedState .listed (p.created u b).estimate := by
  simp [Part.created, Update.entry, movedState]

theorem Part.created_here (p : Part) (u : Update) (b : NewTrain) : (p.created u b).state ≠ .gone := by
  simp only [Part.created, Update.entry]
  split <;> simp

/-- The entry that an update created, once it is finished (R34, R38). -/
theorem Part.created_finished (p : Part) {u : Update} {b : NewTrain} (day : b.scheduled ≤ 1799)
    (m : Entry → Option FrameMark) (d : Nat) (now : Option Nat) :
    CreatedBy u b now ((p.created u b).finished m d now) :=
  Part.created_by (Entry.finished_alike m d now _) day now
    (Entry.finished_stateAfterUpdate m d now _ .listed (p.created_moved u b))

section
variable {p : Part} {u : Update} {b : NewTrain} (source : Option Nat)

/-- An update for a train without an entry creates it while the list has room (R38). -/
theorem Part.MayCreate.creates (h : p.MayCreate u b) (ok : u.ok = true) :
    ∃ e, (p.takeUpdate source u).1.board.find u.train = some e ∧ CreatedBy u b p.clock.now? e
      ∧ e.refreshDeadline = (if e.state = .gone then none else some (p.lineTime + p.refreshMs))
      ∧ (p.takeUpdate source u).1.board.entries.length = p.board.entries.length + 1
      ∧ ∀ k, k ≠ u.train → (p.takeUpdate source u).1.board.find k = p.board.find k := by
  obtain ⟨⟨m, found⟩, others, length, -⟩ := p.createEntry_board source u b 0 h.1
  rw [h.takeUpdate source]
  exact ⟨_, found, p.created_finished (Update.ok_scheduled ok h.2.1) m _ _,
    Entry.finished_deadline m _ _ _ (p.created_here u b), length, others⟩

/-- An update for a train without an entry displaces one of a full list (R38). -/
theorem Part.MeetsFullList.displaces (h : p.MeetsFullList u b) (ok : u.ok = true) {d : Entry}
    (nodup : (p.board.entries.map Entry.train).Nodup) (displaced : DisplacedFrom p.board.entries d) :
    ∃ e, (p.takeUpdate source u).1.board.find u.train = some e ∧ CreatedBy u b p.clock.now? e
      ∧ MadeRoom p.board (p.takeUpdate source u).1.board d u.train
      ∧ (p.takeUpdate source u).1.board.fullCount = p.board.fullCount := by
  obtain ⟨⟨m, found⟩, room, full⟩ := p.displace_board source u b d h.1 nodup displaced.1
  rw [h.takeUpdate_displaces source nodup displaced]
  exact ⟨_, found, Part.created_finished _ (Update.ok_scheduled ok h.2.1) m _ _, room, full⟩

/-- A newer update is taken by its train's entry (R34, R42). -/
theorem Part.takeUpdate_takes {e : Entry} (found : p.board.find u.train = some e) (newer : e.serial < u.serial)
    (day : e.scheduled ≤ 1799) :
    ∃ e', (p.takeUpdate source u).1.board.find u.train = some e' ∧ (e.updated u).Alike e' ∧ EntryTakesUpdate u e e'
      ∧ e'.state = stateAfterUpdate p.clock.now? e.state e'
      ∧ (e'.state ≠ .gone → e'.refreshDeadline = some (p.lineTime + p.refreshMs)) := by
  obtain ⟨m, changes⟩ := p.applyUpdate_changes source u e
  have alike := Entry.finished_alike m (p.lineTime + p.refreshMs) p.clock.now? (e.updated u)
  have moved : (e.updated u).state = movedState e.state (e.updated u).estimate := rfl
  refine ⟨_, ?_, alike, Entry.takes_update alike day, Entry.finished_stateAfterUpdate m _ _ _ _ moved, fun here => ?_⟩
  · rw [Part.takeUpdate_newer source found newer, changes.find, found]
    rfl
  · rw [Entry.finished_deadline m _ _ _ (fun gone => here (Entry.finished_of_gone m _ _ gone)), if_neg here]

/-- A newer update changes nothing of the list but its entry. -/
theorem Part.takeUpdate_newer_rest {e : Entry} (found : p.board.find u.train = some e) (newer : e.serial < u.serial) :
    (∀ k, k ≠ u.train → (p.takeUpdate source u).1.board.find k = p.board.find k)
      ∧ (p.takeUpdate source u).1.board
          = { p.board with entries := (p.takeUpdate source u).1.board.entries } := by
  obtain ⟨m, changes⟩ := p.applyUpdate_changes source u e
  rw [Part.takeUpdate_newer source found newer]
  exact ⟨fun k other => changes.find_other other, changes.rest⟩

end

/-- A local update that creates its entry queues its frame when there is room (R40). -/
theorem Part.createEntry_queued (p : Part) (u : Update) (b : NewTrain) (displaced : Nat)
    (new : p.board.find u.train = none) (room : p.line.hasRoom .normal = true) :
    (p.createEntry none u b displaced).2 = true := by
  have added : (p.addEntry (u.entry b)).line = p.line := by simp
  rw [Part.createEntry_eq]
  dsimp only
  rw [Part.updateFrames_queued _ u.train (p.addEntry_find (u.entry b) new) (by rw [added]; exact room)]

/-- A local update that its entry takes queues its frame when there is room (R40). -/
theorem Part.applyUpdate_queued (p : Part) (u : Update) (e : Entry) {y : Entry} (found : p.board.find u.train = some y)
    (room : p.line.hasRoom .normal = true) : (p.applyUpdate none u e).2 = true := by
  have entry := (p.modifyEntry_changes u.train (Entry.updated u) (fun _ => rfl)).find
  rw [found] at entry
  rw [Part.applyUpdate_eq]
  dsimp only
  rw [Part.updateFrames_queued _ u.train entry room]

/-! ### TRAIN UPDATE answered (R33 to R40) -/

theorem Part.Attentive.trainUpdate {p : Part} (attentive : p.Attentive) (u : Update) (fits : u.fits = true) :
    p.sendRequest (.trainUpdate (some u)) = replied .trainUpdate (p.afterTaking.answerTrainUpdate (some u)) :=
  attentive.sendRequest (.trainUpdate (some u)) fits (by simp [Request.kind]) rfl

/-- A NEW update dropped for want of room, in RUNNING: the full count and the FULL notice (R38). -/
theorem Part.dropFull_of_running {p : Part} (source : Option Nat) (u : Update) (running : p.doze.state = .running) :
    p.dropFull source u = ({ p with
      board := { p.board with fullCount := bump p.board.fullCount }
      notices := p.notices.store .running p.holdOff p.lineTime
        (boardNotice .full source u.train u.serial (bump p.board.fullCount)) }, .refused .listFull) := by
  rw [Part.dropFull, Part.post_eq_note _ _ (by simp [running]), Part.note]
  simp only [running]
  rfl

section
variable {p q : Part} {u : Update}

theorem Part.answerTrainUpdate_notRole (hub : p.roles.uplink = false) :
    p.answerTrainUpdate (some u) = (p, .bare .notRole) := by
  simp [Part.answerTrainUpdate, hub, Part.refuse]

theorem Part.answerTrainUpdate_illFormed (uplink : p.roles.uplink = true) (bad : u.ok = false) :
    p.answerTrainUpdate (some u) = (p, .bare .badRequest) := by
  simp [Part.answerTrainUpdate, uplink, bad, Part.refuse]

theorem Part.answerTrainUpdate_refused (uplink : p.roles.uplink = true) (ok : u.ok = true) {code : ResultCode}
    (refused : p.takeUpdate none u = (q, .refused code)) : p.answerTrainUpdate (some u) = (q, .bare code) := by
  simp [Part.answerTrainUpdate, uplink, ok, refused]

theorem Part.answerTrainUpdate_applied (uplink : p.roles.uplink = true) (ok : u.ok = true) {queued : Bool}
    (applied : (p.takeUpdate none u).2 = .applied queued) {e : Entry}
    (found : (p.takeUpdate none u).1.board.find u.train = some e) :
    p.answerTrainUpdate (some u) = ((p.takeUpdate none u).1, ⟨.done, .update e.state e.clamped queued⟩) := by
  simp [Part.answerTrainUpdate, uplink, ok, applied, Part.updateReply, found]

end

/-- An applied TRAIN UPDATE: the reply, and the blocks as the departure list leaves them (R40). -/
theorem Part.Attentive.trainUpdate_applied {s : State} (attentive : s.part.Attentive) (uplink : s.part.roles.uplink = true)
    {u : Update} (fits : u.fits = true) (ok : u.ok = true) {queued : Bool}
    (applied : (s.part.afterTaking.takeUpdate none u).2 = .applied queued) {e : Entry}
    (found : (s.part.afterTaking.takeUpdate none u).1.board.find u.train = some e) :
    ∃ t, exec (.trainUpdate (.clean u)) s = .next t ∧ t.pending = s.pending
      ∧ t.part.board = (s.part.afterTaking.takeUpdate none u).1.board
      ∧ t.part.notices = (s.part.afterTaking.takeUpdate none u).1.notices
      ∧ t.part.line = (s.part.afterTaking.takeUpdate none u).1.line
      ∧ t.part.port = s.part.answered 8 .done (.update e.state e.clamped queued)
      ∧ t.part.clock = s.part.clock ∧ t.part.peers = s.part.peers ∧ t.part.doze = s.part.doze
      ∧ t.part.lineTime = s.part.lineTime := by
  have awake : s.part.afterTaking.doze.state ≠ .dozing := by simp [Part.afterTaking, attentive.2.1]
  have answer := Part.answerTrainUpdate_applied (p := s.part.afterTaking) uplink ok applied found
  have run : exec (.trainUpdate (.clean u)) s
      = .next ⟨replied .trainUpdate ((s.part.afterTaking.takeUpdate none u).1, ⟨.done, .update e.state e.clamped queued⟩),
          s.pending⟩ := by
    rw [exec_trainUpdate, Part.send, attentive.trainUpdate u fits, answer]
  refine ⟨_, run, rfl, ?_⟩
  have doze := Part.takeUpdate_running s.part.afterTaking none u awake
  have port : (s.part.afterTaking.takeUpdate none u).1.port = s.part.afterTaking.port := by simp
  simp only [replied_frame, Part.takeUpdate_frame, doze, true_and]
  exact ⟨replied_port port .trainUpdate, rfl, rfl, rfl, rfl⟩

/-- Settles O24: the refusals, and each end of an update by what it leaves of the list. -/
theorem trainUpdateIsApplied : Obligations.TrainUpdateIsApplied := by
  refine ⟨fun u s code attentive fits why => ?_, fun u b s attentive uplink fits ok may => ?_,
    fun u b s attentive uplink fits ok meets => ⟨fun sold => ?_, fun d nodup displaced => ?_⟩,
    fun u e s attentive uplink fits ok found equal => ?_, fun u e s attentive uplink fits ok found newer day => ?_⟩
  · have answer : s.part.afterTaking.answerTrainUpdate (some u) = (s.part.afterTaking, .bare code) := by
      rcases why with ⟨hub, rfl⟩ | ⟨uplink, bad, rfl⟩ | ⟨uplink, ok, rfl, none | ⟨e, found, older⟩⟩
      · exact Part.answerTrainUpdate_notRole hub
      · exact Part.answerTrainUpdate_illFormed uplink bad
      · exact Part.answerTrainUpdate_refused (p := s.part.afterTaking) uplink ok (Part.NoEntryFor.takeUpdate .none none)
      · exact Part.answerTrainUpdate_refused (p := s.part.afterTaking) uplink ok (Part.takeUpdate_older none found older)
    rw [exec_trainUpdate, Part.send, attentive.trainUpdate u fits, answer]
    rfl
  · have may' : s.part.afterTaking.MayCreate u b := may
    obtain ⟨e, found, created, deadline, length, others⟩ := may'.creates none ok
    have applied := congrArg Prod.snd (may'.takeUpdate none)
    obtain ⟨t, run, pending, board, -, -, port, clock, peers, doze, -⟩ :=
      attentive.trainUpdate_applied uplink fits ok applied found
    refine ⟨t, e, _, run, pending, by rw [board, found], created, deadline, by rw [board, length]; rfl, port,
      fun room => ?_, fun k other => by rw [board, others k other]; rfl, clock, peers, doze⟩
    exact Part.createEntry_queued s.part.afterTaking u b 0 may.1 room
  · have meets' : s.part.afterTaking.MeetsFullList u b := meets
    have dropped := (meets'.takeUpdate_full none sold).trans (Part.dropFull_of_running none u attentive.2.1)
    rw [exec_trainUpdate, Part.send, attentive.trainUpdate u fits, Part.answerTrainUpdate_refused (p := s.part.afterTaking) uplink ok dropped]
    rfl
  · have meets' : s.part.afterTaking.MeetsFullList u b := meets
    obtain ⟨e, found, created, room, full⟩ := meets'.displaces none ok nodup displaced
    have taken := meets'.takeUpdate_displaces none nodup displaced
    obtain ⟨t, run, pending, board, notices, -, port, clock, peers, doze, -⟩ :=
      attentive.trainUpdate_applied uplink fits ok (congrArg Prod.snd taken) found
    refine ⟨t, e, _, run, pending, by rw [board, found], created, by rw [board]; exact room, by rw [board, full]; rfl, port,
      fun few => ?_, clock, peers, doze⟩
    simp only [notices, taken]
    exact ⟨_, Part.createEntry_mem _ none u b d.train.id (by simpa [Part.afterTaking] using few), rfl, rfl, rfl, rfl, rfl, rfl⟩
  · have answer := Part.answerTrainUpdate_refused (p := s.part.afterTaking) uplink ok (Part.takeUpdate_equal none found equal)
    rw [exec_trainUpdate, Part.send, attentive.trainUpdate u fits, answer]
    rfl
  · obtain ⟨e', found', alike, takes, state, deadline⟩ :=
      Part.takeUpdate_takes (p := s.part.afterTaking) none found newer day
    obtain ⟨others, rest⟩ := Part.takeUpdate_newer_rest (p := s.part.afterTaking) none found newer
    have taken := Part.takeUpdate_newer (p := s.part.afterTaking) none found newer
    obtain ⟨t, run, pending, board, -, line, port, clock, peers, doze, time⟩ :=
      attentive.trainUpdate_applied uplink fits ok (congrArg Prod.snd taken) found'
    refine ⟨t, e', _, run, pending, by rw [board, found'], takes, state, ?_, port, fun room => ?_, fun queued unlent => ?_,
      fun k other => by rw [board, others k other]; rfl, by rw [board, rest]; rfl, by rw [board, rest]; rfl, clock, peers,
      doze, time⟩
    · split
      · rfl
      · exact deadline ‹_›
    · exact Part.applyUpdate_queued s.part.afterTaking u e found room
    · simp only [line, taken, alike.frameUpdate]
      exact Part.applyUpdate_carries _ u e found queued unlent

end Sys2Proof.Machine
end

section
namespace Sys2Proof.Machine

/-! ### A TRAIN frame heard (R136, R138, R139) -/

/-- What the acceptance of a frame leaves for the owner of its kind: every block the departure list works on, and the
notice queue with at most three notices more. -/
structure Part.AcceptedAs (p q : Part) : Prop where
  board : q.board = p.board
  clock : q.clock = p.clock
  quota : q.quota = p.quota
  line : q.line = p.line
  fares : q.fares = p.fares
  port : q.port = p.port
  lineTime : q.lineTime = p.lineTime
  posts : p.Posts q 3

theorem Part.acceptFrame_accepted (p : Part) (sender seq : Nat) : p.AcceptedAs (p.acceptFrame sender seq) := by
  refine ⟨by simp, by simp, by simp, by simp, by simp, by simp, by simp, ?_⟩
  simp only [Part.acceptFrame]
  split
  · exact (Part.Posts.of_same rfl).mono (by omega)
  split
  · exact (Part.Posts.of_same rfl).mono (by omega)
  · exact Part.Posts.trans (m := 0) (.of_same rfl) (Part.post_posts _ _)

section
variable {p q : Part} {u : Update} {b : NewTrain}

theorem Part.AcceptedAs.refreshMs (h : p.AcceptedAs q) : q.refreshMs = p.refreshMs := by
  simp only [Part.refreshMs, h.port]

theorem Part.AcceptedAs.mayCreate (h : p.AcceptedAs q) (may : p.MayCreate u b) : q.MayCreate u b := by
  rw [Part.MayCreate, h.board, h.clock]; exact may

theorem Part.AcceptedAs.noEntryFor (h : p.AcceptedAs q) (none : p.NoEntryFor u) : q.NoEntryFor u := by
  rw [Part.NoEntryFor, h.board, h.clock]; exact none

theorem Part.AcceptedAs.meetsFullList (h : p.AcceptedAs q) (full : p.MeetsFullList u b) : q.MeetsFullList u b := by
  rw [Part.MeetsFullList, h.board, h.clock]; exact full

end

/-- A TRAIN frame that the part hears, accepted, is an update from its sender (R33, R136). -/
theorem exec_train_heard {sender seq : Nat} {u : Update} {s : State} (hears : s.part.Hears sender seq) (ok : u.ok = true) :
    ∃ q, exec (.train (.clean sender seq u)) s = .next ⟨(q.takeUpdate (some sender) u).1, s.pending⟩
      ∧ s.part.AcceptedAs q := by
  have whole : (LineFrame.mk sender seq (.train u)).ok = true := by
    obtain ⟨-, -, low, high, byte, -⟩ := hears
    simp [LineFrame.ok, isNode, isByte, low, high, byte, Payload.ok, ok]
  refine ⟨_, ?_, s.part.acceptFrame_accepted sender seq⟩
  rw [exec_of_frameOf (f := ⟨sender, seq, .train u⟩) rfl s hears.1, Part.receiveFrame_of_ok _ whole,
    Part.receiveGood_of_hears (f := ⟨sender, seq, .train u⟩) hears, Part.deliver]

/-! ### A peer's update that its entry does not take (R36, R37) -/

section
variable {p : Part} {u : Update} {e : Entry} (sender : Nat)

theorem Entry.restarted_marked (m : Entry → Option FrameMark) (d : Nat) (e : Entry) :
    (e.marked m).restarted d
      = { e with frame := m e, refreshDeadline := if e.state = .gone then e.refreshDeadline else some d } := by
  by_cases gone : e.state = .gone <;> simp [Entry.restarted, Entry.marked, gone]

/-- An update with its entry's serial restarts the refresh deadline; its frames are withdrawn (R36). -/
theorem Part.takeUpdate_repeats (found : p.board.find u.train = some e) (equal : e.serial = u.serial) :
    ∃ m, p.Changes (p.takeUpdate (some sender) u).1 u.train
      (Entry.restarted (p.lineTime + p.refreshMs) ∘ Entry.marked m) := by
  obtain ⟨m, withdrawn⟩ := p.withdrawTrain_changes u.train
  have restarted := (p.withdrawTrain u.train).restartRefresh_changes u.train
  have time : (p.withdrawTrain u.train).lineTime + (p.withdrawTrain u.train).refreshMs = p.lineTime + p.refreshMs := by
    simp [Part.refreshMs]
  rw [time] at restarted
  rw [Part.takeUpdate_equal _ found equal]
  exact ⟨m, withdrawn.trans restarted⟩

/-- The part with one more stale frame counted (R37). -/
def Part.countStale (p : Part) : Part := { p with board := { p.board with staleCount := bump p.board.staleCount } }

theorem Part.olderUpdate_part :
    (p.olderUpdate (some sender) e).1
      = if e.state ≠ .gone ∧ e.frame = none then (p.countStale.queueTrain e .correction .normal).1 else p.countStale := by
  simp only [Part.olderUpdate]
  split <;> rfl

/-- A frame older than its entry marks it with the correction, if there is one (R37). -/
theorem Part.takeUpdate_corrects (found : p.board.find u.train = some e) (older : u.serial < e.serial) :
    p.countStale.Changes (p.takeUpdate (some sender) u).1 u.train
      (if (e.state ≠ .gone ∧ e.frame = none) ∧ p.line.hasRoom .normal = true then
        Entry.marked (fun _ => some ⟨.correction, p.line.nextFrame⟩) else id) := by
  have queued := p.countStale.queueTrain_changes e .correction .normal
  rw [(DepartureList.find_some found).2] at queued
  rw [Part.takeUpdate_older _ found older, Part.olderUpdate_part]
  by_cases due : e.state ≠ .gone ∧ e.frame = none
  · rw [if_pos due]
    simp only [and_iff_right due]
    exact queued
  · rw [if_neg due, if_neg (fun h => due h.1)]
    exact .of_board rfl

/-- The correction queued stands in the store, built from the entry (R37). -/
theorem Part.takeUpdate_correction (found : p.board.find u.train = some e) (older : u.serial < e.serial)
    (here : e.state ≠ .gone) (unmarked : e.frame = none) (room : p.line.hasRoom .normal = true) :
    ∃ sl ∈ (p.takeUpdate (some sender) u).1.line.slots, sl.id = p.line.nextFrame ∧ sl.seq = p.line.nextSeq
      ∧ sl.cls = .normal ∧ sl.body = .train (e.frameUpdate false) := by
  have queued := p.countStale.queueTrain_mem e .correction .normal room
  obtain ⟨sl, mem, id, seq, cls, body⟩ := Slot.of_unwaited_mem queued
  rw [Part.takeUpdate_older _ found older, Part.olderUpdate_part, if_pos ⟨here, unmarked⟩]
  exact ⟨sl, mem, id, seq, cls, body⟩

end

/-- The FULL notice of a frame dropped joins a queue with room (R38). -/
theorem Part.dropFull_mem (p : Part) (source : Option Nat) (u : Update) (room : p.notices.entries.length < 64) :
    { boardNotice .full source u.train u.serial (bump p.board.fullCount) with lineTime := p.lineTime }
      ∈ (p.dropFull source u).1.notices.entries :=
  Part.post_mem { p with board := { p.board with fullCount := bump p.board.fullCount } } _ room

theorem Part.dropFull_board (p : Part) (source : Option Nat) (u : Update) :
    (p.dropFull source u).1.board = { p.board with fullCount := bump p.board.fullCount } := by
  simp [Part.dropFull]

/-- Settles O25: a train without an entry by what the list does with it, a train with one by the order of the serials. -/
theorem trainFrameIsComparedBySerial : Obligations.TrainFrameIsComparedBySerial := by
  refine ⟨fun sender seq u s hears ok => ⟨fun b may => ?_, fun none => ?_, fun b full => ⟨fun sold => ?_,
    fun d nodup displaced => ?_⟩⟩, fun sender seq u e s hears ok found day => ?_⟩
  all_goals obtain ⟨q, run, accepted⟩ := exec_train_heard hears ok
  · obtain ⟨e, found, created, deadline, length, others⟩ := (accepted.mayCreate may).creates (some sender) ok
    rw [accepted.clock] at created
    rw [accepted.lineTime, accepted.refreshMs] at deadline
    rw [accepted.board] at length others
    exact ⟨_, e, run, rfl, found, created, deadline, length, others, by simp [accepted.clock], by simp [accepted.port]⟩
  · refine ⟨_, run, rfl, ?_⟩
    simp only [(accepted.noEntryFor none).takeUpdate (some sender), Part.dropUnknown, accepted.board, accepted.quota,
      accepted.line, accepted.clock, true_and]
    exact ⟨rfl, trivial⟩
  · have dropped := (accepted.meetsFullList full).takeUpdate_full (some sender) (by rw [accepted.board]; exact sold)
    refine ⟨_, run, rfl, ?_⟩
    simp only [dropped, Part.dropFull_frame, Part.dropFull_board, accepted.board, accepted.quota, accepted.line,
      accepted.clock, and_true]
    refine ⟨rfl, fun few => ?_⟩
    have room := accepted.posts.length
    refine ⟨_, q.dropFull_mem (some sender) u (by omega), rfl, rfl, rfl, rfl, rfl, ?_⟩
    rw [accepted.board]; rfl
  · obtain ⟨e, found, created, room, count⟩ := (accepted.meetsFullList full).displaces (some sender) ok
      (by rw [accepted.board]; exact nodup) (by rw [accepted.board]; exact displaced)
    rw [accepted.clock] at created
    rw [accepted.board] at room count
    exact ⟨_, e, run, rfl, found, created, room, count, by simp [accepted.clock], by simp [accepted.port]⟩
  · have found' : q.board.find u.train = some e := by rw [accepted.board]; exact found
    have kept : (q.takeUpdate (some sender) u).1.fares = s.part.fares ∧ (q.takeUpdate (some sender) u).1.clock = s.part.clock
        ∧ (q.takeUpdate (some sender) u).1.port = s.part.port := by
      simp [accepted.fares, accepted.clock, accepted.port]
    rcases lt_trichotomy e.serial u.serial with newer | equal | older
    · obtain ⟨e', entry, -, takes, state, deadline⟩ := Part.takeUpdate_takes (some sender) found' newer day
      obtain ⟨others, rest⟩ := Part.takeUpdate_newer_rest (some sender) found' newer
      rw [accepted.clock] at state
      rw [accepted.lineTime, accepted.refreshMs] at deadline
      rw [accepted.board] at others rest
      exact ⟨_, e', run, rfl, entry, fun _ => ⟨takes, state, deadline⟩, fun equal => by omega, fun older => by omega,
        others, by rw [rest], by rw [rest], kept⟩
    · obtain ⟨m, changes⟩ := Part.takeUpdate_repeats sender found' equal
      have entry := changes.find
      have rest := changes.rest
      rw [found', Option.map_some, accepted.lineTime, accepted.refreshMs] at entry
      rw [accepted.board] at rest
      refine ⟨_, _, run, rfl, entry, fun newer => by omega, fun _ => ?_, fun older => by omega,
        fun k other => by rw [changes.find_other other, accepted.board], by rw [rest], by rw [rest], kept⟩
      rw [Function.comp, Entry.restarted_marked]
    · have changes := Part.takeUpdate_corrects sender found' older
      have entry := changes.find
      have rest := changes.rest
      rw [show q.countStale.board.find u.train = some e from found', Option.map_some, accepted.line] at entry
      refine ⟨_, _, run, rfl, entry, fun newer => by omega, fun equal => by omega,
        fun _ => ⟨?_, by rw [rest, Part.countStale, accepted.board]; rfl, fun here unmarked room => ⟨?_, ?_⟩⟩,
        fun k other => by rw [changes.find_other other, Part.countStale, accepted.board]; rfl,
        by rw [rest, Part.countStale, accepted.board], by rw [rest, Part.countStale, accepted.board], kept⟩
      · split <;> rfl
      · simp [here, unmarked, room, Entry.marked]
      · have correction := Part.takeUpdate_correction sender found' older here unmarked (by rw [accepted.line]; exact room)
        rw [accepted.line] at correction
        exact correction

end Sys2Proof.Machine
end

section
namespace Sys2Proof.Machine

/-! ### The pages of the shown entries (R49) -/

theorem pageCount_of_fits {rows m : Nat} (fits : m ≤ rows) : pageCount rows m = 1 := by
  simp [pageCount, fits]

theorem pageEntries_of_fits {rows : Nat} {shown : List Entry} (k : Nat) (fits : shown.length ≤ rows) :
    pageEntries rows k shown = shown := by
  simp [pageEntries, fits]

/-- Past the rows of the screen a page is the pinned row and the `rows - 1` entries that follow its offset. -/
theorem pageEntries_pinned {rows : Nat} {pinned : Entry} {rest : List Entry} (k : Nat) (two : 2 ≤ rows)
    (more : rows < (pinned :: rest).length) :
    pageEntries rows k (pinned :: rest) = pinned :: (rest.drop (k * (rows - 1))).take (rows - 1) := by
  simp only [pageEntries, if_neg (Nat.not_le.mpr more), if_neg (show ¬ rows ≤ 1 by omega)]

/-- A page index is below the count exactly if its offset falls on an entry behind the pinned one. -/
theorem lt_pageCount_iff {rows m : Nat} (k : Nat) (two : 2 ≤ rows) (more : rows < m) :
    k < pageCount rows m ↔ k * (rows - 1) < m - 1 := by
  have paged : ¬ (m ≤ rows ∨ rows ≤ 1) := by omega
  rw [pageCount, if_neg paged, Nat.lt_iff_add_one_le, Nat.le_div_iff_mul_le (by omega), Nat.add_one_mul]
  omega

theorem pageEntries_head (rows k : Nat) (shown : List Entry) :
    (pageEntries rows k shown).head? = shown.head? := by
  unfold pageEntries
  split
  · rfl
  · cases shown with
    | nil => rfl
    | cons pinned rest => dsimp only; split <;> rfl

theorem pageEntries_length_le {rows : Nat} (k : Nat) (shown : List Entry) (two : 2 ≤ rows) :
    (pageEntries rows k shown).length ≤ rows := by
  by_cases fits : shown.length ≤ rows
  · rwa [pageEntries_of_fits k fits]
  · cases shown with
    | nil => simp at fits
    | cons pinned rest =>
      rw [pageEntries_pinned k two (Nat.not_le.mp fits), List.length_cons, List.length_take]
      omega

/-- Page `i / (rows - 1)` shows entry `i` behind the pinned one. -/
theorem getElem_mem_pageEntries {rows : Nat} {pinned : Entry} {rest : List Entry} (two : 2 ≤ rows)
    (more : rows < (pinned :: rest).length) (i : Nat) (lt : i < rest.length) :
    rest[i] ∈ pageEntries rows (i / (rows - 1)) (pinned :: rest) := by
  have offset : i / (rows - 1) * (rows - 1) + i % (rows - 1) = i := Nat.div_add_mod' i (rows - 1)
  have within : i % (rows - 1) < rows - 1 := Nat.mod_lt _ (by omega)
  rw [pageEntries_pinned _ two more]
  refine List.mem_cons_of_mem _ (List.mem_iff_getElem.mpr ⟨i % (rows - 1), ?_, ?_⟩)
  · rw [List.length_take, List.length_drop]
    omega
  · simp only [List.getElem_take, List.getElem_drop, offset]

theorem exists_page_of_mem {rows : Nat} {shown : List Entry} {e : Entry} (two : 2 ≤ rows) (mem : e ∈ shown) :
    ∃ k < pageCount rows shown.length, e ∈ pageEntries rows k shown := by
  by_cases fits : shown.length ≤ rows
  · exact ⟨0, by simp [pageCount_of_fits fits], by rwa [pageEntries_of_fits 0 fits]⟩
  have more := Nat.not_le.mp fits
  cases shown with
  | nil => cases mem
  | cons pinned rest =>
    rcases List.mem_cons.mp mem with rfl | behind
    · refine ⟨0, (lt_pageCount_iff 0 two more).mpr (by omega), ?_⟩
      rw [pageEntries_pinned 0 two more]
      exact List.mem_cons_self
    · obtain ⟨i, lt, rfl⟩ := List.mem_iff_getElem.mp behind
      refine ⟨i / (rows - 1), (lt_pageCount_iff _ two more).mpr ?_, getElem_mem_pageEntries two more i lt⟩
      exact Nat.lt_of_le_of_lt (Nat.div_mul_le_self i (rows - 1)) lt

theorem two_le_pageEntries_length {rows k : Nat} {shown : List Entry} (two : 2 ≤ rows) (more : rows < shown.length)
    (page : k < pageCount rows shown.length) : 2 ≤ (pageEntries rows k shown).length := by
  rw [lt_pageCount_iff k two more] at page
  cases shown with
  | nil => simp at more
  | cons pinned rest =>
    rw [List.length_cons] at page
    rw [pageEntries_pinned k two more, List.length_cons, List.length_take, List.length_drop]
    omega

/-- Settles O49: a page is the pinned row and a slice of the entries behind it, and the slices cover them. -/
theorem pagesHoldEveryEntry : Obligations.PagesHoldEveryEntry :=
  fun rows shown two =>
    ⟨fun _ mem => exists_page_of_mem two mem, fun k => pageEntries_length_le k shown two,
      fun k => pageEntries_head rows k shown, fun _ page _ more => two_le_pageEntries_length two more page,
      pageCount_of_fits⟩

end Sys2Proof.Machine
end

section
namespace Sys2Proof.Machine

/-! ### INTERVAL DEADLINE (R52) -/

theorem Part.intervalCame_of_running {p : Part} {r : StartRecord} {d : Nat} (up : p.up = true)
    (running : p.doze.state = .running) (record : p.port.record = some r) (shows : r.roles.shows = true)
    (deadline : p.page.deadline = some d) (came : d ≤ p.lineTime) : p.intervalCame = true := by
  simp [Part.intervalCame, Part.pageRunning, Part.roles, up, running, record, shows, deadline, reached, came]

/-- A turn in RUNNING: the interval restarted, the page of the index after the one held, and PAGE posted if it differs
(R52, R55). -/
theorem Part.turnPage_of_record {p : Part} {r : StartRecord} (running : p.doze.state = .running)
    (record : p.port.record = some r) :
    p.turnPage =
      (let shown := p.shownEntries r
       let k := turnIndex p.page.index (pageCount r.rows shown.length)
       let built := p.buildPage r k
       { p with
         page := ⟨built, k, some (p.lineTime + r.pageInterval * 1000), shown.length⟩
         notices := if built = p.page.held then p.notices
           else p.notices.store .running r.holdOff p.lineTime
             (mkNotice .page .none none (trainSubject (shown.head?.map Entry.train)) k built.count) }) := by
  have interval : p.intervalMs = r.pageInterval * 1000 := by simp only [Part.intervalMs, record]
  have holdOff : p.holdOff = r.holdOff := by simp only [Part.holdOff, record]
  rw [← interval, ← holdOff, ← running]
  exact Part.rebuild_of_record _ turnIndex r record

/-- Settles O48. -/
theorem intervalDeadlineTurnsThePage : Obligations.IntervalDeadlineTurnsThePage := by
  intro r d s up running record shows deadline came
  refine ⟨⟨s.part.turnPage, s.pending⟩, ?_, rfl, ?_⟩
  · simp only [exec_intervalDeadline, Part.intervalCame_of_running up running record shows deadline came, if_true]
  · rw [Part.turnPage_of_record running record]
    exact ⟨rfl, rfl, rfl, rfl, rfl, rfl⟩

end Sys2Proof.Machine
end

section
namespace Sys2Proof.Machine

/-! ### DOZE (R200) -/

/-- The five ways a DOZE is refused are the checks of R200 in their order. -/
theorem Part.DozeRefusedBy.dozeRefusal {p : Part} {code : ResultCode} {reason : DozeReason} {train : Option TrainKey}
    (refused : p.DozeRefusedBy code reason train) : p.dozeRefusal = some (code, reason, train) := by
  rcases refused with ⟨issue, rfl, rfl, rfl⟩ | ⟨issue, load, rfl, rfl, rfl⟩ | ⟨issue, load, fares, rfl, rfl, rfl⟩
    | ⟨issue, load, fares, waiting, rfl, rfl, rfl⟩ | ⟨issue, load, fares, waiting, ⟨e, near, rfl⟩, rfl, rfl⟩
  · simp [Part.dozeRefusal, issue]
  · simp [Part.dozeRefusal, issue, load]
  · simp [Part.dozeRefusal, issue, load, fares]
  · simp [Part.dozeRefusal, issue, load, fares, waiting]
  · simp [Part.dozeRefusal, issue, load, fares, waiting, near]

theorem Part.dozeRefusal_none {p : Part} (issue : p.sales.issue = none) (load : p.board.load = none)
    (fares : p.fares.transfer = none) (waiting : p.notices.wakeWaiting = false) (near : p.departureNear = none) :
    p.dozeRefusal = none := by
  simp [Part.dozeRefusal, issue, load, fares, waiting, near]

/-- A DOZE refused changes nothing but the reply. -/
theorem Part.replied_doze_refused {p : Part} {code : ResultCode} {reason : DozeReason} {train : Option TrainKey}
    (refused : p.DozeRefusedBy code reason train) :
    replied .doze p.answerDoze
      = { p with port := { p.port with reply := some ⟨23, code, .dozeReason reason train⟩ } } := by
  rw [Part.answerDoze, refused.dozeRefusal]
  rfl

/-- A DOZE that passes every check enters DOZING and is answered DONE. -/
theorem Part.replied_doze_entered {p : Part} (allowed : p.dozeRefusal = none) :
    replied .doze p.answerDoze = p.enterDoze.putReply 23 (.bare .done) := by
  rw [Part.answerDoze, allowed]
  rfl

theorem Part.Attentive.doze {p : Part} (attentive : p.Attentive) :
    p.sendRequest .doze = replied .doze p.afterTaking.answerDoze :=
  attentive.sendRequest .doze rfl (by simp [Request.kind]) rfl

/-- Settles O40. -/
theorem dozeIsRefusedOrEntered : Obligations.DozeIsRefusedOrEntered := by
  intro s attentive
  simp only [exec_doze, Part.send, attentive.doze]
  constructor
  · intro code reason train refused
    have refused : s.part.afterTaking.DozeRefusedBy code reason train := refused
    rw [Part.replied_doze_refused refused]
    rfl
  · intro issue load fares waiting near
    have allowed : s.part.afterTaking.dozeRefusal = none := Part.dozeRefusal_none issue load fares waiting near
    rw [Part.replied_doze_entered allowed]
    rfl

end Sys2Proof.Machine
end

section
namespace Sys2Proof.Machine

/-! ### Request commands and their state check (R181, R183, R184) -/

/-- A command that carries a request in a complete frame is a SEND of that request. -/
theorem exec_of_requestOf {c : Instr} {r : Request} (carries : requestOf c = some r) (s : State) :
    exec c s = .next ⟨s.part.sendRequest r, s.pending⟩ := by
  unfold requestOf at carries
  split at carries <;> cases carries <;> rfl

/-- A request other than the two quiet ones wakes a dozing part (R184). -/
theorem Part.wakeFor_of_dozing {p : Part} {k : RequestKind} (dozing : p.doze.state = .dozing)
    (loud : k.quiet = false) : p.wakeFor k = p.awoken (.request k) := by
  rw [Part.wakeFor, if_pos ⟨dozing, loud⟩, Part.wake_eq_awoken p _ dozing]

/-- No request wakes a part in RUNNING, and READ STATUS and TAKE NOTICES wake none at all (R184). -/
theorem Part.wakeFor_of_awake {p : Part} {k : RequestKind}
    (awake : p.doze.state = .running ∨ p.doze.state = .dozing ∧ (k = .readStatus ∨ k = .takeNotices)) :
    p.wakeFor k = p := by
  refine if_neg fun ⟨dozing, loud⟩ => ?_
  rcases awake with running | ⟨-, rfl | rfl⟩
  · simp [running] at dozing
  · simp [RequestKind.quiet] at loud
  · simp [RequestKind.quiet] at loud

theorem Part.judgeState_start {p : Part} {r : Request} (running : p.doze.state = .running) (start : r.kind = .start) :
    p.judgeState r = p.putReply 1 (.bare .locked) := by
  simp only [Part.judgeState, PartState.refusal, running, start, if_true]
  rfl

/-- In RUNNING the state check lets every request but START through to its owner (R183). -/
theorem Part.judgeState_running {p : Part} {r : Request} (running : p.doze.state = .running) (other : r.kind ≠ .start) :
    p.judgeState r = p.handle r := by
  simp only [Part.judgeState, PartState.refusal, running, if_neg other]

/-! ### A woken part (R203) -/

/-- A wake changes the doze record, the notices and the page. -/
theorem Part.awoken_eq (p : Part) (c : WakeCause) :
    p.awoken c = { p with
      doze := { p.doze with state := .running, dozeStart := none, lastWake := some ⟨c, p.dozeLength⟩ }
      notices := (p.awoken c).notices
      page := (p.awoken c).page } := by
  simp only [Part.awoken]
  (repeat' split) <;> rfl

theorem Part.awoken_running (p : Part) (c : WakeCause) : (p.awoken c).doze.state = .running := by
  rw [Part.awoken_eq]

/-! ### Resets (R192, R194) -/

theorem Part.resetWith_keepsStore (p : Part) (kind : ResetKind) : p.KeepsStore (p.resetWith kind) :=
  ⟨rfl, rfl, rfl, rfl, rfl, rfl, rfl, rfl, rfl, rfl⟩

theorem Part.resetWith_afterReset (p : Part) (kind : ResetKind) : p.AfterReset (p.resetWith kind) kind :=
  ⟨rfl, rfl, rfl, rfl, rfl, rfl, rfl, rfl, rfl, rfl, rfl, rfl, rfl, rfl, rfl, rfl, rfl, rfl⟩

/-- A reset takes back all that a taken frame and a wake changed. -/
theorem Part.resetWith_awoken (p : Part) (c : WakeCause) (kind : ResetKind) :
    (p.afterTaking.awoken c).resetWith kind = p.resetWith kind := by
  rw [Part.awoken_eq]
  rfl

/-! ### A request in DOZING (R184, R189, R200) -/

/-- A request that wakes the part is judged on the woken part. -/
theorem exec_wakes {c : Instr} {s : State} {r : Request} (carries : requestOf c = some r) (fits : r.fits = true)
    (up : s.part.up = true) (free : s.part.port.reply = none) (dozing : s.part.doze.state = .dozing)
    (loud : r.kind.quiet = false) :
    exec c s = .next ⟨(s.part.afterTaking.awoken (.request r.kind)).judgeState r, s.pending⟩ := by
  rw [exec_of_requestOf carries, s.part.sendRequest_eq_judgeState r up free (by simp [dozing]) fits,
    Part.wakeFor_of_dozing (p := s.part.afterTaking) dozing loud]

theorem Part.judgeState_doze {p : Part} {r : Request} (running : p.doze.state = .running) (doze : r.kind = .doze) :
    p.judgeState r = replied .doze p.answerDoze := by
  rw [Part.judgeState_running running (by simp [doze])]
  cases r <;> cases doze
  rfl

theorem Part.judgeState_restart {p : Part} {r : Request} (running : p.doze.state = .running)
    (restart : r.kind = .restart) : p.judgeState r = p.resetWith .restart := by
  rw [Part.judgeState_running running (by simp [restart])]
  cases r <;> cases restart
  rfl

/-- Settles O18: the wake, and then the state check of a part in RUNNING. -/
theorem dozingRequestWakesFirst : Obligations.DozingRequestWakesFirst := by
  refine ⟨?_, ?_⟩
  · intro c s r carries fits up free dozing noStatus noNotices w
    have loud : r.kind.quiet = false := by simp [RequestKind.quiet, noStatus, noNotices]
    have run := exec_wakes carries fits up free dozing loud
    have running : w.doze.state = .running := Part.awoken_running _ _
    refine ⟨run, fun start => ?_, fun doze => ⟨fun code reason train refused => ?_, ?_⟩, fun restart => ?_⟩
    · rw [run, Part.judgeState_start running start]
      rfl
    · rw [run, Part.judgeState_doze running doze, Part.replied_doze_refused refused]
    · intro issue load fares waiting near
      rw [run, Part.judgeState_doze running doze,
        Part.replied_doze_entered (Part.dozeRefusal_none issue load fares waiting near)]
      rfl
    · rw [Part.judgeState_restart running restart, Part.resetWith_awoken] at run
      exact ⟨_, run, rfl, s.part.resetWith_keepsStore _, s.part.resetWith_afterReset _⟩
  · intro c s r carries fits up free state
    have untested : s.part.doze.state ≠ .selfTest := by rcases state with h | ⟨h, -⟩ <;> simp [h]
    rw [exec_of_requestOf carries, s.part.sendRequest_eq_judgeState r up free untested fits,
      Part.wakeFor_of_awake (p := s.part.afterTaking) state]

end Sys2Proof.Machine
end

section
namespace Sys2Proof.Machine

/-! ### The exact total rounded once (R78) -/

/-- ROUNDED_UP is the mode's choice on the remainder. -/
theorem roundFare_roundedUp (mode : RoundingMode) (step n : Nat) :
    (roundFare mode step n).2.2 = roundsUp mode (n % stepUnit step) (stepUnit step) := rfl

/-- The rounded amount, in the unit of the exact total: the quotient, and one more when ROUNDED_UP tells it. -/
theorem roundFare_scaled (mode : RoundingMode) (step n : Nat) :
    (roundFare mode step n).1 * 100000000000
      = (n / stepUnit step + (roundFare mode step n).2.2.toNat) * stepUnit step := by
  rw [roundFare_roundedUp, roundFare]
  cases roundsUp mode (n % stepUnit step) (stepUnit step) <;> simp [stepUnit, Nat.mul_assoc]

theorem dvd_roundFare (mode : RoundingMode) (step n : Nat) : step ∣ (roundFare mode step n).1 := Nat.dvd_mul_left _ _

theorem roundFare_inexact_iff (mode : RoundingMode) (step n : Nat) :
    (roundFare mode step n).2.1 = true ↔ ¬ stepUnit step ∣ n := by
  simp [roundFare, Nat.dvd_iff_mod_eq_zero, Nat.pos_iff_ne_zero]

/-- Without a remainder no mode rounds up. -/
theorem roundsUp_zero (mode : RoundingMode) {u : Nat} (pos : 0 < u) : roundsUp mode 0 u = false := by
  cases mode with
  | halfUp => simp [roundsUp, pos.ne']
  | down => rfl
  | up => rfl

/-- Where the rounded amount stands: below the exact total by the remainder, or above it by what the remainder lacks of
the unit. -/
theorem roundFare_distance (mode : RoundingMode) {step : Nat} (n : Nat) (pos : 0 < step) :
    if (roundFare mode step n).2.2 = true then
      0 < n % stepUnit step ∧ (roundFare mode step n).1 * 100000000000 + n % stepUnit step = n + stepUnit step
    else (roundFare mode step n).1 * 100000000000 + n % stepUnit step = n := by
  have unit : 0 < stepUnit step := Nat.mul_pos pos (by decide)
  have whole := Nat.div_add_mod' n (stepUnit step)
  rw [roundFare_scaled, Nat.add_mul]
  split
  · next up =>
    refine ⟨Nat.pos_of_ne_zero fun none => ?_, by simp only [up, Bool.toNat_true]; omega⟩
    simp [roundFare_roundedUp, none, roundsUp_zero mode unit] at up
  · next stays =>
    simp only [stays, Bool.toNat_false]
    omega

/-- Settles O28: each mode's rule on the remainder, read as a distance from the exact total. -/
theorem roundingTakesTheStep : Obligations.RoundingTakesTheStep := by
  intro step n pos u
  have below : n % stepUnit step < stepUnit step := Nat.mod_lt n (Nat.mul_pos pos (by decide))
  have unit : u = stepUnit step := rfl
  refine ⟨fun mode => ⟨dvd_roundFare mode step n, roundFare_inexact_iff mode step n, ?_⟩, ?_, ?_, ?_⟩
  · have place := roundFare_distance mode n pos
    split at place
    · next up => simp only [up, true_iff]; omega
    · next stays => simp only [stays, Bool.false_eq_true, false_iff]; omega
  · have place := roundFare_distance .down n pos
    simp only [roundFare_roundedUp, roundsUp, Bool.false_eq_true, if_false] at place
    omega
  · have place := roundFare_distance .up n pos
    simp only [roundFare_roundedUp, roundsUp, decide_eq_true_eq] at place
    split at place <;> omega
  · have place := roundFare_distance .halfUp n pos
    simp only [roundFare_roundedUp, roundsUp, decide_eq_true_eq] at place
    split at place <;> omega

end Sys2Proof.Machine
end

section
namespace Sys2Proof.Machine

/-! ### A completed computation, stage by stage (R71 to R80) -/

theorem countsValid_iff (adults children : Nat) :
    countsValid adults children = true
      ↔ 1 ≤ adults + children ∧ adults ≤ 9 ∧ children ≤ 9 ∧ adults + children ≤ 9 := by
  simp only [countsValid, Bool.and_eq_true, decide_eq_true_eq]
  omega

theorem correctCounts_valid (adults children : Nat) :
    countsValid (correctCounts adults children).1 (correctCounts adults children).2 = true := by
  rw [countsValid_iff, correctCounts]
  split <;> omega

/-- A completed computation has passed stage 1: it went on with valid counts (R72). -/
theorem fareOf_fare {ctx : FareContext} {tables : TableSet} {i : FareInputs} {r : FareResult} {flags : FareFlags}
    (active : ctx.active = some tables) (fare : fareOf ctx i = ⟨.fare r, flags⟩) :
    ∃ adults children raised, countsValid adults children = true
      ∧ lookUpFare ctx tables i adults children raised = ⟨.fare r, flags⟩ := by
  simp only [fareOf, active] at fare
  split at fare
  · next valid => exact ⟨_, _, _, valid, fare⟩
  split at fare
  · exact ⟨_, _, _, correctCounts_valid _ _, fare⟩
  · cases fare

/-- A completed computation has passed stage 2: its price is of the destination record found (R73, R74). -/
theorem lookUpFare_fare {ctx : FareContext} {tables : TableSet} {dest : DestinationRecord} {i : FareInputs}
    {adults children : Nat} {raised flags : FareFlags} {r : FareResult}
    (found : tables.destinations.find? (fun d => d.code = i.destination) = some dest)
    (fare : lookUpFare ctx tables i adults children raised = ⟨.fare r, flags⟩) :
    ∃ prod discount raised', priceFare ctx tables dest (dest.base i.fareClass) prod discount adults children raised'
      = ⟨.fare r, flags⟩ := by
  simp only [lookUpFare, found] at fare
  split at fare
  · cases fare
  split at fare
  · cases fare
  split at fare
  · cases fare
  split at fare
  · exact ⟨_, _, _, fare⟩
  split at fare
  · exact ⟨_, _, _, fare⟩
  · cases fare

/-- What stages 3 to 7 leave in a completed result: the counts, the flags, and the amount that stage 6 let through,
taken by stage 7 (R79, R80). -/
theorem priceFare_fare {ctx : FareContext} {tables : TableSet} {dest : DestinationRecord}
    {base discount adults children : Nat} {prod : ProductRecord} {raised flags : FareFlags} {r : FareResult}
    (fare : priceFare ctx tables dest base prod discount adults children raised = ⟨.fare r, flags⟩) :
    r.flags = flags ∧ r.adults = adults ∧ r.children = children
      ∧ ∃ amount, amount ≤ 99999 ∧ (flags.overflow = false → ctx.settings.step ∣ amount)
        ∧ floorThenCap ctx.settings.minimum dest.cap amount = (r.amount, flags.floored, flags.capped) := by
  unfold priceFare at fare
  extract_lets minute untimed band n rounded inexact tooBig overflow final capped at fare
  split at fare
  · cases fare
  simp only [FareOutcome.mk.injEq, FareVerdict.fare.injEq] at fare
  obtain ⟨rfl, sameFlags⟩ := fare
  rw [← sameFlags]
  refine ⟨rfl, rfl, rfl, _, ?_, fun fitting => ?_, rfl⟩
  · split
    · exact Nat.le_refl _
    · next inRange => exact Nat.le_of_not_lt (by simpa [tooBig] using inRange)
  · rw [if_neg (by simpa [capped, overflow] using fitting)]
    exact dvd_roundFare _ _ _

/-- Stage 7 (R80) in its three outcomes: the cap, the minimum, or the amount it was given, each with its flags. -/
theorem floorThenCap_cases {minimum cap amount fare : Nat} {floored capped : Bool}
    (final : floorThenCap minimum cap amount = (fare, floored, capped)) :
    capped = true ∧ fare = cap ∧ 0 < cap
      ∨ (0 < cap → fare ≤ cap) ∧ floored = true ∧ fare = minimum
      ∨ (0 < cap → fare ≤ cap) ∧ fare = amount ∧ (amount = 0 ∨ minimum ≤ amount) := by
  simp only [floorThenCap, Prod.mk.injEq] at final
  obtain ⟨rfl, rfl, rfl⟩ := final
  by_cases low : 0 < amount ∧ amount < minimum
  · by_cases high : 0 < cap ∧ cap < minimum
    · exact .inl (by simp [low, high])
    · have under : 0 < cap → minimum ≤ cap := by omega
      exact .inr (.inl (by simpa [low, high] using under))
  · by_cases high : 0 < cap ∧ cap < amount
    · exact .inl (by simp [low, high])
    · have under : 0 < cap → amount ≤ cap := by omega
      have enough : amount = 0 ∨ minimum ≤ amount := by omega
      exact .inr (.inr (by simpa [low, high, enough] using under))

/-- Settles O29: the stages in turn. -/
theorem completedFareIsInRange : Obligations.CompletedFareIsInRange := by
  intro ctx tables dest i r flags active found _ minimum cap fare
  obtain ⟨adults, children, raised, valid, fare⟩ := fareOf_fare active fare
  obtain ⟨prod, discount, raised', fare⟩ := lookUpFare_fare found fare
  obtain ⟨sameFlags, rfl, rfl, amount, inRange, multiple, final⟩ := priceFare_fare fare
  have counts := (countsValid_iff _ _).mp valid
  subst sameFlags
  rcases floorThenCap_cases final with ⟨capped, same, positive⟩ | ⟨under, floored, same⟩ | ⟨under, same, high⟩
  · exact ⟨by omega, fun _ => by omega, by simp [capped], .inr (.inl capped), rfl, counts⟩
  · exact ⟨by omega, under, by simp [floored], .inr (.inr (by omega)), rfl, counts⟩
  · exact ⟨by omega, under, fun _ _ fitting => same ▸ multiple fitting, by omega, rfl, counts⟩

end Sys2Proof.Machine
end

section
namespace Sys2Proof.Machine

/-! ### A request command answered by its owner (R178 to R181) -/

section
variable {s : State} {c : Instr}

/-- A request that its owner answers without touching the port: the owner's part, and the port with the answer. -/
theorem Part.Attentive.exec_answered (attentive : s.part.Attentive) (r : Request) (carries : requestOf c = some r)
    (fits : r.fits = true) {o : Part × Answer} {q : Part} {a : Answer}
    (handled : s.part.afterTaking.answer r = (o.1, some o.2)) (owner : o = (q, a))
    (port : q.port = s.part.afterTaking.port) (other : r.kind ≠ .start := by simp [Request.kind]) :
    exec c s = .next { s with part := { q with port := s.part.answered r.kind.code a.result a.body } } := by
  subst owner
  rw [exec_of_requestOf carries, attentive.sendRequest r fits other handled,
    ← replied_port (o := (q, a)) port r.kind]
  rfl

/-- A request that its owner refuses changes nothing but the port. -/
theorem Part.Attentive.exec_refused (attentive : s.part.Attentive) (r : Request) (carries : requestOf c = some r)
    (fits : r.fits = true) {o : Part × Answer} {code : ResultCode}
    (handled : s.part.afterTaking.answer r = (o.1, some o.2)) (owner : o = s.part.afterTaking.refuse code)
    (other : r.kind ≠ .start := by simp [Request.kind]) :
    exec c s = .next { s with part := { s.part with port := s.part.answered r.kind.code code .empty } } :=
  attentive.exec_answered r carries fits handled owner rfl other

end

/-- Settles O27: the owner's answer is the statement. -/
theorem clearFlagsReportsAndEmpties : Obligations.ClearFlagsReportsAndEmpties := fun s attentive =>
  attentive.exec_answered .clearFlags rfl rfl (o := s.part.afterTaking.answerClearFlags) rfl rfl rfl

/-! ### A record put into a fare table (R64, R66) -/

section
variable {α : Type} (key : α → Nat) (r : α) (l : List α)

/-- The record under the key of `r` replaced by `r`: every other record stands as it was. -/
theorem mem_filter_append_singleton (y : α) :
    y ∈ l.filter (fun x => key x ≠ key r) ++ [r] ↔ y = r ∨ y ∈ l ∧ key y ≠ key r := by
  simp [or_comm]

theorem nodup_keys_filter_append_singleton (nodup : (l.map key).Nodup) :
    ((l.filter (fun x => key x ≠ key r) ++ [r]).map key).Nodup := by
  have kept : ((l.filter (fun x => key x ≠ key r)).map key).Nodup := nodup.sublist (List.filter_sublist.map key)
  rw [List.map_append]
  refine kept.append (List.nodup_singleton _) (List.disjoint_singleton.mpr ?_)
  simp +contextual

end

theorem mem_insertBand (b y : Band) (l : List Band) : y ∈ insertBand b l ↔ y = b ∨ y ∈ l := by
  induction l with
  | nil => simp [insertBand]
  | cons x xs ih =>
    simp only [insertBand]
    split
    · simp
    · simp only [List.mem_cons, ih]
      tauto

/-- A band of a start minute that no other has keeps the bands in ascending order (R64). -/
theorem insertBand_ascending (b : Band) (l : List Band) (ascending : l.Pairwise (fun x y => x.start < y.start))
    (new : ∀ x ∈ l, x.start ≠ b.start) : (insertBand b l).Pairwise (fun x y => x.start < y.start) := by
  induction l with
  | nil => simp [insertBand]
  | cons x xs ih =>
    obtain ⟨first, rest⟩ := List.pairwise_cons.mp ascending
    have apart : x.start ≠ b.start := new x (by simp)
    simp only [insertBand]
    split
    · next before =>
      refine List.pairwise_cons.mpr ⟨fun y mem => ?_, ascending⟩
      rcases List.mem_cons.mp mem with rfl | mem
      · exact before
      · exact before.trans (first y mem)
    · next after =>
      refine List.pairwise_cons.mpr ⟨fun y mem => ?_, ih rest fun y mem => new y (by simp [mem])⟩
      rcases (mem_insertBand b y xs).mp mem with rfl | mem
      · omega
      · exact first y mem

theorem TableSet.put_bands_ascending (x : TableSet) (i : FareItem)
    (ascending : x.bands.Pairwise (fun a b => a.start < b.start)) :
    (x.put i).bands.Pairwise (fun a b => a.start < b.start) := by
  cases i with
  | band r => exact insertBand_ascending r _ (ascending.filter _) (by simp)
  | destination _ | product _ | concession _ => exact ascending

/-! ### The fare load at its owner (R65 to R68) -/

theorem Part.answerFaresBegin_opens {p : Part} (edition : Nat) (closed : p.fares.transfer = none)
    (idle : p.sales.issue = none) :
    p.answerFaresBegin edition = (p.setTransfer (some ⟨edition, TableSet.empty⟩), .bare .done) := by
  simp [Part.answerFaresBegin, closed, idle]

theorem Part.answerFaresBegin_busy {p : Part} (edition : Nat) (busy : p.fares.transfer.isSome ∨ p.sales.issue.isSome) :
    p.answerFaresBegin edition = p.refuse .busy := by
  simp only [Part.answerFaresBegin]
  split
  · rfl
  · next closed => rw [if_pos (busy.resolve_left closed)]

theorem Part.answerFaresItem_closed {p : Part} (i : Option FareItem) (closed : p.fares.transfer = none) :
    p.answerFaresItem i = p.refuse .noTransfer := by
  simp [Part.answerFaresItem, closed]

theorem Part.answerFaresEnd_closed {p : Part} (closed : p.fares.transfer = none) :
    p.answerFaresEnd = p.refuse .noTransfer := by
  simp [Part.answerFaresEnd, closed]

theorem Part.answerFaresAbort_closed {p : Part} (closed : p.fares.transfer = none) :
    p.answerFaresAbort = p.refuse .noTransfer := by
  simp [Part.answerFaresAbort, closed]

section
variable {p : Part} {x : FareTransfer} {i : FareItem} (opened : p.fares.transfer = some x)
include opened

theorem Part.answerFaresItem_outOfRange (out : i.inRange = false) :
    p.answerFaresItem (some i) = p.refuse .badRequest := by
  simp [Part.answerFaresItem, opened, out]

theorem Part.answerFaresItem_full (inRange : i.inRange = true) (full : x.staged.bandsFull i = true) :
    p.answerFaresItem (some i) = p.refuse .tableFull := by
  simp [Part.answerFaresItem, opened, inRange, full]

theorem Part.answerFaresItem_staged (inRange : i.inRange = true) (room : x.staged.bandsFull i = false) :
    p.answerFaresItem (some i) = (p.setTransfer (some { x with staged := x.staged.put i }),
      ⟨.done, .staged (if x.staged.holds i then .replaced else .added) (x.staged.put i).counts⟩) := by
  simp [Part.answerFaresItem, opened, inRange, room]

theorem Part.answerFaresEnd_opened :
    p.answerFaresEnd
      = ({ p with fares := { p.fares with active := some x.staged, edition := x.edition, transfer := none } },
      ⟨.done, .faresEnd x.edition x.staged.counts⟩) := by
  simp [Part.answerFaresEnd, opened]

theorem Part.answerFaresAbort_opened :
    p.answerFaresAbort = (p.setTransfer none, ⟨.done, .stagedCounts x.staged.counts⟩) := by
  simp [Part.answerFaresAbort, opened]

end

/-- Only a fifth band for a start minute not yet staged finds its table full (R66). -/
theorem TableSet.bandsFull_iff (t : TableSet) (i : FareItem) :
    t.bandsFull i = true ↔ ∃ b, i = .band b ∧ (∀ y ∈ t.bands, y.start ≠ b.start) ∧ 4 ≤ t.bands.length := by
  cases i with
  | band b => simp [TableSet.bandsFull, TableSet.holds]
  | destination _ | product _ | concession _ => simp [TableSet.bandsFull]

/-- Settles O26: each request by the state of the transfer, and each table by the kind of the item. -/
theorem fareTransferStagesAndReplaces : Obligations.FareTransferStagesAndReplaces := by
  refine ⟨fun s attentive => ⟨fun n short closed idle => ?_, fun n short busy => ?_,
    fun closed => ⟨fun i fits => ?_, ?_, ?_⟩,
    fun x opened => ⟨fun i fits => ⟨fun out => ?_, ?_, fun inRange room => ?_⟩, ?_, ?_⟩⟩, fun x i ascending => ?_⟩
  · exact attentive.exec_answered (.faresBegin n) rfl (decide_eq_true short) rfl
      (Part.answerFaresBegin_opens n closed idle) rfl
  · exact attentive.exec_refused (.faresBegin n) rfl (decide_eq_true short) rfl
      (Part.answerFaresBegin_busy n busy)
  · exact attentive.exec_refused (.faresItem (some i)) rfl fits rfl
      (Part.answerFaresItem_closed (some i) closed)
  · exact attentive.exec_refused .faresEnd rfl rfl rfl (Part.answerFaresEnd_closed closed)
  · exact attentive.exec_refused .faresAbort rfl rfl rfl (Part.answerFaresAbort_closed closed)
  · exact attentive.exec_refused (.faresItem (some i)) rfl fits rfl
      (Part.answerFaresItem_outOfRange opened out)
  · rintro b rfl inRange new four
    have full : x.staged.bandsFull (.band b) = true := (x.staged.bandsFull_iff _).mpr ⟨b, rfl, new, four⟩
    exact attentive.exec_refused (.faresItem (some (.band b))) rfl fits rfl
      (Part.answerFaresItem_full opened inRange full)
  · have room : x.staged.bandsFull i = false := by
      refine Bool.eq_false_iff.mpr fun full => ?_
      obtain ⟨b, rfl, new, four⟩ := (x.staged.bandsFull_iff _).mp full
      obtain small | ⟨y, mem, same⟩ := room b rfl
      · omega
      · exact new y mem same
    exact attentive.exec_answered (.faresItem (some i)) rfl fits rfl
      (Part.answerFaresItem_staged opened inRange room) rfl
  · exact attentive.exec_answered .faresEnd rfl rfl rfl (Part.answerFaresEnd_opened opened) rfl
  · exact attentive.exec_answered .faresAbort rfl rfl rfl (Part.answerFaresAbort_opened opened) rfl
  · refine ⟨x.put_bands_ascending i ascending, ?_, ?_, ?_, ?_⟩
    · rintro r rfl
      exact ⟨mem_filter_append_singleton DestinationRecord.code r _,
        nodup_keys_filter_append_singleton DestinationRecord.code r _, rfl, rfl, rfl⟩
    · rintro r rfl
      exact ⟨mem_filter_append_singleton ProductRecord.code r _,
        nodup_keys_filter_append_singleton ProductRecord.code r _, rfl, rfl, rfl⟩
    · rintro r rfl
      exact ⟨mem_filter_append_singleton ConcessionRecord.code r _,
        nodup_keys_filter_append_singleton ConcessionRecord.code r _, rfl, rfl, rfl⟩
    · rintro r rfl
      refine ⟨fun y => ?_, rfl, rfl, rfl⟩
      simp [TableSet.put, mem_insertBand]

end Sys2Proof.Machine
end

section
namespace Sys2Proof.Machine

/-! ### The fare check of QUOTE and ISSUE (R86, R88) -/

theorem FareFlags.union_none (f : FareFlags) : f.union FareFlags.none = f := by
  simp [FareFlags.union, FareFlags.none]

theorem Part.gatherFlags_none (p : Part) : p.gatherFlags FareFlags.none = p := by
  simp only [Part.gatherFlags, FareFlags.union_none]

theorem Part.computeFare_eq {p : Part} {i : FareInputs} {v : FareVerdict} {f : FareFlags}
    (fare : fareOf (p.fareContext i) i = ⟨v, f⟩) : p.computeFare i = (p.gatherFlags f, v) := by
  simp only [Part.computeFare, fare]

theorem Part.trainOk_iff (p : Part) (i : FareInputs) :
    p.trainOk i = true ↔ ∀ k, i.train = some k → p.trainSellable k = true := by
  simp only [Part.trainOk]
  split <;> simp [*]

/-- A fare lacks its link exactly when it needs places and no named train has one. -/
theorem Part.lacksLink_iff (p : Part) (i : FareInputs) (r : FareResult) :
    p.lacksLink i r = true ↔ 0 < r.placesNeeded ∧ ∀ k, i.train = some k → p.trainLinked k = false := by
  simp only [Part.lacksLink, Bool.and_eq_true, decide_eq_true_eq]
  split <;> simp [*]

/-- A refusal at the fare check is of the train, of the computation, or of the ledger link. -/
theorem FareRefusal.check {p : Part} {i : FareInputs} {code : ResultCode} {f : FareFlags}
    (refused : FareRefusal p i code f) :
    p.trainOk i = false ∧ code = .trainNotSellable ∧ p.gatherFlags f = p
      ∨ p.trainOk i = true ∧ p.computeFare i = (p.gatherFlags f, .refused code)
      ∨ p.trainOk i = true ∧ ∃ r, p.computeFare i = (p.gatherFlags f, .fare r) ∧ p.lacksLink i r = true
        ∧ code = .noQuota := by
  rcases refused with ⟨⟨k, named, unsold⟩, rfl, rfl⟩ | ⟨sold, fare⟩ | ⟨sold, ⟨r, fare, places⟩, unlinked, rfl⟩
  · have bad : p.trainOk i ≠ true := fun ok => by simp [(p.trainOk_iff i).mp ok k named] at unsold
    exact .inl ⟨by simpa using bad, rfl, p.gatherFlags_none⟩
  · exact .inr (.inl ⟨(p.trainOk_iff i).mpr sold, Part.computeFare_eq fare⟩)
  · exact .inr (.inr ⟨(p.trainOk_iff i).mpr sold, r, Part.computeFare_eq fare,
      (p.lacksLink_iff i r).mpr ⟨places, unlinked⟩, rfl⟩)

/-! ### QUOTE (R86) -/

theorem Part.answerQuote_notRole {p : Part} (i : FareInputs) (other : p.roles.sells = false) :
    p.answerQuote i = p.refuse .notRole := by
  simp [Part.answerQuote, other]

theorem Part.answerQuote_refused {p : Part} {i : FareInputs} {code : ResultCode} {f : FareFlags}
    (sells : p.roles.sells = true) (refused : FareRefusal p i code f) :
    p.answerQuote i = (p.gatherFlags f, .bare code) := by
  rcases refused.check with ⟨bad, rfl, same⟩ | ⟨ok, fare⟩ | ⟨ok, r, fare, lacks, rfl⟩
  · simp [Part.answerQuote, sells, bad, same, Part.refuse]
  · simp [Part.answerQuote, sells, ok, fare]
  · simp [Part.answerQuote, sells, ok, fare, lacks]

theorem Part.answerQuote_fare {p : Part} {i : FareInputs} {r : FareResult} {f : FareFlags}
    (sells : p.roles.sells = true) (ok : p.trainOk i = true) (fare : p.computeFare i = (p.gatherFlags f, .fare r))
    (linked : p.lacksLink i r = false) :
    p.answerQuote i = (p.gatherFlags f, ⟨.done, .quote r (p.stateOf i) (p.onHand i r)⟩) := by
  simp [Part.answerQuote, sells, ok, fare, linked]

/-- Settles O30: every check passed, the owner reports. -/
theorem quoteReportsTheFare : Obligations.QuoteReportsTheFare := by
  intro i r f s attentive sells fits sold fare linked
  have link : s.part.afterTaking.lacksLink i r = false := by
    refine Bool.eq_false_iff.mpr fun lacks => ?_
    obtain ⟨places, unlinked⟩ := (Part.lacksLink_iff _ i r).mp lacks
    obtain ⟨k, named, has⟩ := linked places
    exact Bool.false_ne_true ((unlinked k named).symm.trans has)
  exact attentive.exec_answered (.quote i) rfl fits rfl
    (Part.answerQuote_fare sells ((Part.trainOk_iff _ i).mpr sold) (Part.computeFare_eq fare) link) rfl

/-! ### ISSUE refused (R87, R88) -/

theorem Part.answerIssue_notRole {p : Part} (q : IssueRequest) (other : p.roles.sells = false) :
    p.answerIssue q = p.refuse .notRole := by
  simp [Part.answerIssue, other]

theorem Part.answerIssue_outOfRange {p : Part} {q : IssueRequest} (sells : p.roles.sells = true)
    (high : 99999 < q.agreed) : p.answerIssue q = p.refuse .badRequest := by
  simp [Part.answerIssue, sells, high]

section
variable {p : Part} {q : IssueRequest} (sells : p.roles.sells = true) (agreed : q.agreed ≤ 99999)
include sells agreed

theorem Part.answerIssue_busy (flying : p.sales.issue.isSome) : p.answerIssue q = p.refuse .busy := by
  simp [Part.answerIssue, sells, Nat.not_lt.mpr agreed, flying]

theorem Part.answerIssue_checked (idle : p.sales.issue = none) : p.answerIssue q = p.checkIssue q := by
  simp [Part.answerIssue, sells, Nat.not_lt.mpr agreed, idle]

end

theorem SalesUnit.isNone_spaceFor_iff (s : SalesUnit) :
    s.spaceFor.isNone = true ↔ 252 ≤ s.journal.length ∨ s.nextNumber = none := by
  simp only [SalesUnit.spaceFor]
  split <;> simp [*]

theorem SalesUnit.isNone_spaceFor_eq_false {s : SalesUnit} (room : s.journal.length < 252)
    (number : s.nextNumber.isSome = true) : s.spaceFor.isNone = false := by
  refine Bool.eq_false_iff.mpr fun none => ?_
  rcases s.isNone_spaceFor_iff.mp none with full | spent
  · omega
  · simp [spent] at number

theorem Part.checkIssue_journalFull {p : Part} (q : IssueRequest)
    (full : 252 ≤ p.sales.journal.length ∨ p.sales.nextNumber = none) : p.checkIssue q = p.refuse .journalFull := by
  simp [Part.checkIssue, p.sales.isNone_spaceFor_iff.mpr full]

section
variable {p : Part} {q : IssueRequest} (room : p.sales.journal.length < 252)
  (number : p.sales.nextNumber.isSome = true)
include room number

theorem Part.checkIssue_serialExhausted (spent : 10000 ≤ p.sales.nextSerial) :
    p.checkIssue q = p.refuse .serialExhausted := by
  simp [Part.checkIssue, SalesUnit.isNone_spaceFor_eq_false room number, spent]

theorem Part.checkIssue_refused {code : ResultCode} {f : FareFlags} (serial : p.sales.nextSerial < 10000)
    (refused : FareRefusal p q.inputs code f) : p.checkIssue q = (p.gatherFlags f, .bare code) := by
  have space := SalesUnit.isNone_spaceFor_eq_false room number
  have unspent := Nat.not_le.mpr serial
  rcases refused.check with ⟨bad, rfl, same⟩ | ⟨ok, fare⟩ | ⟨ok, r, fare, lacks, rfl⟩
  · simp [Part.checkIssue, space, unspent, bad, same, Part.refuse]
  · simp [Part.checkIssue, space, unspent, ok, fare]
  · simp [Part.checkIssue, space, unspent, ok, fare, lacks]

end

/-- Settles O31: the checks of each request in their order, the fare check shared by the two. -/
theorem refusedSaleLeavesOnlyItsFlags : Obligations.RefusedSaleLeavesOnlyItsFlags := by
  intro s attentive
  refine ⟨fun other => ⟨fun i fits => ?_, fun q fits => ?_⟩, fun i code f sells fits refused => ?_,
    fun q code sells fits early => ?_, fun q code f sells fits agreed idle room number serial refused => ?_⟩
  · exact attentive.exec_refused (.quote i) rfl fits rfl (Part.answerQuote_notRole i other)
  · exact attentive.exec_refused (.issue q) rfl fits rfl (Part.answerIssue_notRole q other)
  · exact attentive.exec_answered (.quote i) rfl fits rfl (Part.answerQuote_refused sells refused) rfl
  · refine attentive.exec_refused (.issue q) rfl fits rfl ?_
    rcases early with ⟨high, rfl⟩ | ⟨agreed, flying, rfl⟩ | ⟨agreed, idle, full, rfl⟩
      | ⟨agreed, idle, room, number, spent, rfl⟩
    · exact Part.answerIssue_outOfRange sells high
    · exact Part.answerIssue_busy sells agreed flying
    · exact (Part.answerIssue_checked (p := s.part.afterTaking) sells agreed idle).trans
        (Part.checkIssue_journalFull q full)
    · exact (Part.answerIssue_checked (p := s.part.afterTaking) sells agreed idle).trans
        (Part.checkIssue_serialExhausted room number spent)
  · exact attentive.exec_answered (.issue q) rfl fits rfl
      ((Part.answerIssue_checked (p := s.part.afterTaking) sells agreed idle).trans
        (Part.checkIssue_refused (p := s.part.afterTaking) room number serial refused)) rfl

end Sys2Proof.Machine
end

section
namespace Sys2Proof.Machine

/-! ### The books of the sales unit (R99, R102, R104) -/

/-- What the laws of journal and ticket numbers read of the sales unit. -/
def SalesUnit.books (s : SalesUnit) : List JournalRecord × Option Nat × Nat := (s.journal, s.nextNumber, s.nextSerial)

/-- An unset clock knows no sales day (R3). -/
def Part.DayKnown (p : Part) : Prop := p.clock.isSet = false → p.clock.salesDay = none

/-- Going from `p` to `q` keeps the journal in order and, with the sales day known while the clock is set, the ticket
numbers apart. -/
structure Part.BooksKept (p q : Part) : Prop where
  ordered : p.sales.Ordered → q.sales.Ordered
  day : p.DayKnown → q.DayKnown
  tickets : p.DayKnown → p.TicketsUnique → q.TicketsUnique

theorem Part.BooksKept.refl (p : Part) : p.BooksKept p := ⟨id, id, fun _ h => h⟩

theorem Part.BooksKept.trans {p q r : Part} (a : p.BooksKept q) (b : q.BooksKept r) : p.BooksKept r :=
  ⟨b.ordered ∘ a.ordered, b.day ∘ a.day, fun day h => b.tickets (a.day day) (a.tickets day h)⟩

theorem SalesUnit.Ordered.of_books {s s' : SalesUnit} (k : s.Ordered) (books : s'.books = s.books) : s'.Ordered := by
  simp only [SalesUnit.books, Prod.mk.injEq] at books
  simpa only [SalesUnit.Ordered, books] using k

theorem SalesUnit.tickets_of_books {s s' : SalesUnit} (books : s'.books = s.books) : s'.tickets = s.tickets := by
  simp only [SalesUnit.books, Prod.mk.injEq] at books
  simp only [SalesUnit.tickets, books]

/-- A ticket stays used when the sales day goes on to one not earlier (R3, R99). -/
theorem TicketNumber.Used.later {t : TicketNumber} {a b : Option Nat} {n : Nat} (u : t.Used a n)
    (later : ∀ d ∈ a, ∃ e ∈ b, d ≤ e) : t.Used b n := by
  obtain ⟨serial, past⟩ := u
  refine ⟨fun same => serial ?_, fun d hd => ?_⟩
  · cases ht : t.day with
    | none =>
      cases a with
      | none => rfl
      | some d =>
        obtain ⟨e, he, -⟩ := later d rfl
        simp [← same, ht] at he
    | some d =>
      obtain ⟨now, hnow, le⟩ := past d ht
      obtain ⟨e, he, le'⟩ := later now hnow
      have : d = e := by simpa [← same, ht] using he
      rw [Option.mem_def.mp hnow]
      exact congrArg some (by omega)
  · obtain ⟨now, hnow, le⟩ := past d hd
    obtain ⟨e, he, le'⟩ := later now hnow
    exact ⟨e, he, le.trans le'⟩

/-- The books stand, and the sales day goes on. -/
theorem Part.BooksKept.of_day {p q : Part} (books : q.sales.books = p.sales.books) (known : p.DayKnown → q.DayKnown)
    (later : p.DayKnown → ∀ d ∈ p.clock.salesDay, ∃ e ∈ q.clock.salesDay, d ≤ e) : p.BooksKept q := by
  refine ⟨fun k => k.of_books books, known, fun day k => ?_⟩
  have serial : q.sales.nextSerial = p.sales.nextSerial := congrArg (fun x => x.2.2) books
  rw [Part.TicketsUnique, SalesUnit.tickets_of_books books, serial]
  exact ⟨k.1, fun t ht => (k.2 t ht).later (later day)⟩

/-- Books and sales day stand, and the clock is set or as it was. -/
theorem Part.BooksKept.of_clock {p q : Part} (books : q.sales.books = p.sales.books)
    (set : q.clock.isSet = true ∨ q.clock.isSet = p.clock.isSet) (day : q.clock.salesDay = p.clock.salesDay) :
    p.BooksKept q := by
  refine .of_day books (fun known unset => ?_) (fun _ d hd => ⟨d, by rwa [day], Nat.le_refl d⟩)
  rw [day]
  exact known (set.elim (fun h => by simp [h] at unset) (fun h => h ▸ unset))

/-- An operation on neither books nor clock. -/
theorem Part.BooksKept.of_books {p q : Part} (books : q.sales.books = p.sales.books) (clock : q.clock = p.clock) :
    p.BooksKept q := .of_clock books (.inr (by rw [clock])) (by rw [clock])

/-! ### Operations that leave the books as they stand -/

section
variable (p : Part)

@[simp] theorem Part.clearIssue_books : p.clearIssue.sales.books = p.sales.books := rfl

@[simp] theorem Part.endIssue_books (i : IssueRecord) (c : ResultCode) (m : LedgerRecord → LedgerRecord) :
    (p.endIssue i c m).sales.books = p.sales.books := by
  simp [Part.endIssue, SalesUnit.books]

@[simp] theorem Part.salesTrainLeft_books (t : TrainKey) (c : ResultCode) :
    (p.salesTrainLeft t c).sales.books = p.sales.books := by
  simp only [Part.salesTrainLeft]; split <;> simp

@[simp] theorem Part.reportLeft_books (e : Entry) (c : ResultCode) : (p.reportLeft e c).sales.books = p.sales.books := by
  simp only [Part.reportLeft]; split <;> simp

@[simp] theorem Part.enterGone_books (e : Entry) : (p.enterGone e).sales.books = p.sales.books := by
  simp [Part.enterGone]

@[simp] theorem Part.enterCancelled_books (e : Entry) : (p.enterCancelled e).sales.books = p.sales.books := by
  simp [Part.enterCancelled]

@[simp] theorem Part.evaluateEntry_books (e : Entry) (now : Nat) (tell : Bool) :
    (p.evaluateEntry e now tell).1.sales.books = p.sales.books := by
  simp only [Part.evaluateEntry]; (repeat' split) <;> simp

@[simp] theorem Part.evaluateNow_books (t : TrainKey) (tell : Bool) :
    (p.evaluateNow t tell).sales.books = p.sales.books := by
  simp only [Part.evaluateNow]; split <;> simp

@[simp] theorem Part.evaluateAll_books (now : Nat) (l : List TrainKey) :
    (p.evaluateAll now l).1.sales.books = p.sales.books := by
  induction l generalizing p with
  | nil => simp [Part.evaluateAll]
  | cons t l ih => simp only [Part.evaluateAll]; split <;> simp [ih]

@[simp] theorem Part.boardMinute_books (now : Nat) : (p.boardMinute now).sales.books = p.sales.books := by
  simp [Part.boardMinute]

@[simp] theorem Part.reportCancelled_books (t : TrainKey) (before : EntryState) :
    (p.reportCancelled t before).sales.books = p.sales.books := by
  simp only [Part.reportCancelled]; (repeat' split) <;> simp

@[simp] theorem Part.applyUpdate_books (source : Option Nat) (u : Update) (e : Entry) :
    (p.applyUpdate source u e).1.sales.books = p.sales.books := by
  simp [Part.applyUpdate]

@[simp] theorem Part.addEntry_books (e : Entry) : (p.addEntry e).sales.books = p.sales.books := by
  simp [Part.addEntry]

@[simp] theorem Part.createEntry_books (source : Option Nat) (u : Update) (b : NewTrain) (displaced : Nat) :
    (p.createEntry source u b displaced).1.sales.books = p.sales.books := by
  simp [Part.createEntry]

@[simp] theorem Part.newUpdate_books (source : Option Nat) (u : Update) :
    (p.newUpdate source u).1.sales.books = p.sales.books := by
  simp only [Part.newUpdate, Part.dropUnknown, Part.dropFull]; (repeat' split) <;> simp

@[simp] theorem Part.takeUpdate_books (source : Option Nat) (u : Update) :
    (p.takeUpdate source u).1.sales.books = p.sales.books := by
  simp only [Part.takeUpdate, Part.repeatUpdate, Part.olderUpdate]; (repeat' split) <;> simp

@[simp] theorem Part.loadEntry_books (r : TrainRecord) : (p.loadEntry r).sales.books = p.sales.books := by
  simp [Part.loadEntry]

@[simp] theorem Part.minuteEvent_books : p.minuteEvent.sales.books = p.sales.books := by
  simp only [Part.minuteEvent, Part.handMinute, threeInOrder]; split <;> simp

end

/-! ### The journal written and released (R99, R102, R104, R106) -/

theorem SalesUnit.tickets_sublist {s s' : SalesUnit} (sub : s'.journal.Sublist s.journal) :
    s'.tickets.Sublist s.tickets := (sub.filterMap _).map _

/-- A journal left with some of its records stays in order. -/
theorem SalesUnit.Ordered.sublist {s s' : SalesUnit} (k : s.Ordered) (sub : s'.journal.Sublist s.journal)
    (next : s'.nextNumber = s.nextNumber) : s'.Ordered := by
  obtain ⟨size, order, numbers⟩ := k
  refine ⟨sub.length_le.trans size, order.sublist (sub.map _), ?_⟩
  rw [next]
  exact fun n hn => ⟨(numbers n hn).1, fun r hr => (numbers n hn).2 r (sub.subset hr)⟩

/-- Records released leave the laws of journal and ticket numbers standing. -/
theorem Part.BooksKept.of_sublist {p q : Part} (sub : q.sales.journal.Sublist p.sales.journal)
    (next : q.sales.nextNumber = p.sales.nextNumber) (serial : q.sales.nextSerial = p.sales.nextSerial)
    (clock : q.clock = p.clock) : p.BooksKept q := by
  have tickets := SalesUnit.tickets_sublist sub
  refine ⟨fun k => k.sublist sub next, fun k => by rwa [Part.DayKnown, clock], fun _ k => ?_⟩
  rw [Part.TicketsUnique, serial, clock]
  exact ⟨k.1.sublist tickets, fun t ht => k.2 t (tickets.subset ht)⟩

/-- A record under the next number, where there is room for it, keeps the journal in order (R102). -/
theorem Part.write_ordered {p : Part} (k : p.sales.Ordered) {n : Nat} (next : p.sales.nextNumber = some n)
    (room : p.sales.journal.length < 256) (body : JournalBody) : (p.write n body).sales.Ordered := by
  obtain ⟨-, order, numbers⟩ := k
  obtain ⟨high, below⟩ := numbers n next
  refine ⟨?_, ?_, fun m hm => ?_⟩
  · simp only [Part.write, List.length_append, List.length_cons, List.length_nil]; omega
  · simp only [Part.write, List.map_append, List.map_cons, List.map_nil, List.pairwise_append, Part.record]
    refine ⟨order, List.pairwise_singleton _ _, fun a ha b hb => ?_⟩
    obtain ⟨r, hr, rfl⟩ := List.mem_map.mp ha
    simpa [List.mem_singleton.mp hb] using below r hr
  · simp only [Part.write, Option.mem_def] at hm ⊢
    split at hm <;> cases hm
    refine ⟨by omega, fun r hr => ?_⟩
    rcases List.mem_append.mp hr with hr | hr
    · exact (below r hr).trans (Nat.lt_succ_self n)
    · simp [List.mem_singleton.mp hr, Part.record]

/-- A record that is no SALE brings no ticket number. -/
theorem Part.write_tickets (p : Part) (n : Nat) {body : JournalBody} (other : ∀ f, body ≠ .sale f) :
    (p.write n body).sales.tickets = p.sales.tickets := by
  have none : (p.record n body).sale? = none := by
    cases body with
    | sale f => exact absurd rfl (other f)
    | _ => rfl
  simp [SalesUnit.tickets, Part.write, none]

theorem Part.write_booksKept {p : Part} {n : Nat} (next : p.sales.nextNumber = some n)
    (room : p.sales.journal.length < 256) {body : JournalBody} (other : ∀ f, body ≠ .sale f) :
    p.BooksKept (p.write n body) :=
  ⟨fun k => Part.write_ordered k next room body, id, fun _ k => by
    rw [Part.TicketsUnique, p.write_tickets n other]; exact k⟩

theorem Part.overrunOldest_booksKept (p : Part) : p.BooksKept p.overrunOldest := by
  simp only [Part.overrunOldest]
  split
  · exact .refl p
  · rename_i oldest rest journal
    exact .of_sublist (by simp [Part.countOverrun, journal]) (by simp [Part.countOverrun]) (by simp [Part.countOverrun])
      (by simp)

theorem Part.overrunOldest_next (p : Part) : p.overrunOldest.sales.nextNumber = p.sales.nextNumber := by
  simp only [Part.overrunOldest]
  split <;> simp [Part.countOverrun]

theorem Part.overrunOldest_length (p : Part) :
    p.overrunOldest.sales.journal.length = p.sales.journal.length - 1 := by
  simp only [Part.overrunOldest]
  split <;> simp [Part.countOverrun, *]

/-- A journal that keeps its bound has room for one more record, once the oldest of 256 is released (R104). -/
theorem Part.writeAlways_booksKept (p : Part) {body : JournalBody} (other : ∀ f, body ≠ .sale f) :
    p.BooksKept (p.writeAlways body) := by
  simp only [Part.writeAlways]
  split
  · exact .of_books rfl rfl
  rename_i n next
  split
  · rename_i full
    have freed := p.overrunOldest_booksKept
    have next' : p.overrunOldest.sales.nextNumber = some n := p.overrunOldest_next.trans next
    refine ⟨fun k => Part.write_ordered (freed.ordered k) next' ?_ body, freed.day, fun day k => ?_⟩
    · rw [p.overrunOldest_length]; have := k.1; omega
    · rw [Part.TicketsUnique, Part.write_tickets _ n other]
      exact freed.tickets day k
  · exact Part.write_booksKept next (by omega) other

/-- The SALE record of the next serial on the present sales day (R99). -/
theorem SalesUnit.tickets_sold {s s' : SalesUnit} {r : JournalRecord} {f : SaleFields} (sold : r.sale? = some f)
    (journal : s'.journal = s.journal ++ [r]) : s'.tickets = s.tickets ++ [f.ticket] := by
  simp [SalesUnit.tickets, journal, sold]

/-- A sale takes the next serial of its day, so its ticket number is new (R97, R99). -/
theorem Part.BooksKept.of_sale {p q : Part} {n : Nat} {f : SaleFields} (next : p.sales.nextNumber = some n)
    (room : p.sales.journal.length < 256) (ticket : f.ticket = ⟨p.clock.salesDay, p.ownNode, p.sales.nextSerial⟩)
    (journal : q.sales.journal = p.sales.journal ++ [p.record n (.sale f)])
    (after : q.sales.nextNumber = (p.write n (.sale f)).sales.nextNumber)
    (serial : q.sales.nextSerial = p.sales.nextSerial + 1)
    (clock : q.clock = p.clock) : p.BooksKept q := by
  refine ⟨fun k => ?_, fun k => by rwa [Part.DayKnown, clock], fun _ ⟨nodup, used⟩ => ?_⟩
  · rw [SalesUnit.Ordered, journal, after]
    exact Part.write_ordered k next room (.sale f)
  have tickets : q.sales.tickets = p.sales.tickets ++ [f.ticket] :=
    SalesUnit.tickets_sold (r := p.record n (.sale f)) rfl journal
  rw [Part.TicketsUnique, tickets, serial, clock]
  refine ⟨List.nodup_append'.mpr ⟨nodup, List.nodup_singleton _, ?_⟩, fun t ht => ?_⟩
  · simp only [List.disjoint_singleton]
    intro old
    have := (used _ old).1 (by rw [ticket])
    simp [ticket] at this
  · rcases List.mem_append.mp ht with ht | ht
    · exact ⟨fun same => ((used t ht).1 same).trans (Nat.lt_succ_self _), (used t ht).2⟩
    · rw [List.mem_singleton.mp ht, ticket]
      exact ⟨fun _ => Nat.lt_succ_self _, fun d hd => ⟨d, hd, Nat.le_refl d⟩⟩

theorem SalesUnit.spaceFor_eq_some {s : SalesUnit} {n : Nat} (space : s.spaceFor = some n) :
    s.journal.length < 252 ∧ s.nextNumber = some n := by
  simp only [SalesUnit.spaceFor] at space
  split at space
  · cases space
  · exact ⟨by omega, space⟩

theorem Part.completeSale_booksKept (p : Part) (req : IssueRequest) (r : FareResult) {n : Nat}
    (space : p.sales.spaceFor = some n) : p.BooksKept (p.completeSale req r n) := by
  obtain ⟨room, next⟩ := SalesUnit.spaceFor_eq_some space
  refine .of_sale (f := p.saleFields req r) next (by omega) rfl ?_ ?_ ?_ (by simp)
  all_goals
    simp only [Part.completeSale]
    split <;> simp [Part.write]

theorem Part.post_booksKept (p : Part) (n : Notice) : p.BooksKept (p.post n) := .of_books (by simp) (by simp)

theorem Part.moveOn_booksKept (p : Part) (t : Option TrainKey) (f : LedgerRecord → LedgerRecord) :
    p.BooksKept (p.moveOn t f) := .of_books (by simp) (by simp)

theorem Part.commit_booksKept (p : Part) (req : IssueRequest) (needed : Nat) : p.BooksKept (p.commit req needed).1 := by
  have fare : p.BooksKept (p.computeFare req.inputs).1 := .of_books (by simp) (by simp)
  have ends : ∀ (q : Part) f, q.BooksKept (q.moveOn req.inputs.train f).clearIssue := fun q f =>
    (q.moveOn_booksKept _ f).trans (.of_books rfl rfl)
  simp only [Part.commit]
  split
  · exact ends p _
  split
  · exact fare.trans (ends _ _)
  split
  · exact fare.trans (ends _ _)
  split
  · exact fare.trans (ends _ _)
  · exact fare.trans (Part.completeSale_booksKept _ _ _ ‹_›)

theorem Part.topUp_booksKept (p : Part) (t : TrainKey) : p.BooksKept (p.topUp t) := by
  cases h : p.sales.issueFor t with
  | none => simp only [Part.topUp, h]; exact .refl p
  | some i =>
    have topped : p.BooksKept (p.toppedUp t i) := .of_books rfl (by simp [Part.toppedUp])
    rw [Part.topUp_eq h]
    dsimp only
    split
    · exact topped.trans ((Part.commit_booksKept _ _ _).trans (Part.post_booksKept _ _))
    · exact topped

/-! ### GRANTs and requests of the sales unit (R86 to R106, R120, R124) -/

theorem Part.sendTaken_booksKept (p : Part) (granter number : Nat) (t : TrainKey) (count : Nat) :
    p.BooksKept (p.sendTaken granter number t count) := .of_books (by simp) (by simp)

theorem Part.takeGrant_booksKept (p : Part) (sender : Nat) (g : GrantPayload) : p.BooksKept (p.takeGrant sender g) := by
  have same : p.BooksKept p.ignoreGrant := .of_books (by simp) (by simp)
  simp only [Part.takeGrant]
  split
  · exact same
  split
  · exact p.sendTaken_booksKept _ _ _ _
  split
  · exact same
  split
  · exact same
  split
  · exact same
  have accepted : p.BooksKept (p.acceptGrant sender g (p.trainSellable g.train)) := .of_books (by simp) (by simp)
  refine Part.BooksKept.trans ?_ (Part.sendTaken_booksKept _ _ _ _ _)
  split
  · exact accepted.trans (Part.topUp_booksKept _ _)
  · exact accepted

theorem Part.cutOwnGrant_booksKept (p : Part) (t : TrainKey) (asker number left : Nat) :
    p.BooksKept (p.cutOwnGrant t asker number left) := by
  simp only [Part.cutOwnGrant]
  split
  · exact .refl p
  split
  · exact .refl p
  split
  · exact .refl p
  split
  · refine Part.BooksKept.trans ?_ (Part.topUp_booksKept _ _)
    exact .of_books (by simp) (by simp)
  · exact .of_books (by simp) (by simp)

theorem Part.hearGrant_booksKept (p : Part) (sender : Nat) (g : GrantPayload) : p.BooksKept (p.hearGrant sender g) := by
  simp only [Part.hearGrant, Part.overhearGrant]
  split
  · exact p.takeGrant_booksKept _ _
  split
  · exact .refl p
  split
  · exact .refl p
  · refine Part.BooksKept.trans ?_ (Part.cutOwnGrant_booksKept _ _ _ _ _)
    exact .of_books rfl rfl

theorem Part.takeIssue_booksKept (p : Part) (req : IssueRequest) (needed : Nat) :
    p.BooksKept (p.takeIssue req needed).1 := by
  simp only [Part.takeIssue]
  split
  · exact p.commit_booksKept _ _
  split
  · exact .refl p
  split
  · exact (p.moveOn_booksKept _ _).trans (Part.commit_booksKept _ _ _)
  · exact .of_books (by simp [Part.startIssue, SalesUnit.books]) (by simp [Part.startIssue])

theorem Part.checkIssue_booksKept (p : Part) (req : IssueRequest) : p.BooksKept (p.checkIssue req).1 := by
  have fare : p.BooksKept (p.computeFare req.inputs).1 := .of_books (by simp) (by simp)
  simp only [Part.checkIssue]
  split
  · exact .refl p
  split
  · exact .refl p
  split
  · exact .refl p
  split
  · exact fare
  split
  · exact fare
  · exact fare.trans (Part.takeIssue_booksKept _ _ _)

theorem Part.answerIssue_booksKept (p : Part) (req : IssueRequest) : p.BooksKept (p.answerIssue req).1 := by
  simp only [Part.answerIssue]
  split
  · exact .refl p
  split
  · exact .refl p
  split
  · exact .refl p
  · exact p.checkIssue_booksKept req

theorem Part.answerAbortIssue_booksKept (p : Part) : p.BooksKept p.answerAbortIssue.1 := by
  simp only [Part.answerAbortIssue]
  split
  · exact .refl p
  split
  · exact .refl p
  · exact .of_books (by simp) (by simp)

/-- The first two steps of a VOID: its record and the day totals (R101). -/
def Part.noteVoid (p : Part) (f : SaleFields) (n : Nat) : Part :=
  let q := p.write n (.void f.ticket f.amount)
  { q with sales := { q.sales with totals := { q.sales.totals with
      voids := bump q.sales.totals.voids, voidSum := satAdd 4294967295 q.sales.totals.voidSum f.amount } } }

theorem Part.voidSale_eq (p : Part) (f : SaleFields) (n : Nat) :
    p.voidSale f n = (((p.noteVoid f n).unsellPlaces f).topUpAfterVoid f).clearWindow := rfl

theorem Part.topUpAfterVoid_booksKept (p : Part) (f : SaleFields) : p.BooksKept (p.topUpAfterVoid f) := by
  simp only [Part.topUpAfterVoid]
  split
  · exact .refl p
  split
  · exact p.topUp_booksKept _
  · exact .refl p

theorem Part.unsellPlaces_booksKept (p : Part) (f : SaleFields) : p.BooksKept (p.unsellPlaces f) := by
  simp only [Part.unsellPlaces]
  split
  · exact .refl p
  split
  · exact .refl p
  · exact p.moveOn_booksKept _ _

theorem Part.voidSale_booksKept (p : Part) (f : SaleFields) {n : Nat} (space : p.sales.spaceFor = some n) :
    p.BooksKept (p.voidSale f n) := by
  obtain ⟨room, next⟩ := SalesUnit.spaceFor_eq_some space
  have written : p.BooksKept (p.write n (.void f.ticket f.amount)) := Part.write_booksKept next (by omega) (by simp)
  have noted : p.BooksKept (p.noteVoid f n) := written.trans (.of_books rfl rfl)
  rw [Part.voidSale_eq]
  exact ((noted.trans (Part.unsellPlaces_booksKept _ f)).trans (Part.topUpAfterVoid_booksKept _ f)).trans
    (.of_books rfl rfl)

theorem Part.answerVoid_booksKept (p : Part) (ref : TicketRef) : p.BooksKept (p.answerVoid ref).1 := by
  simp only [Part.answerVoid]
  split
  · exact .refl p
  split
  · exact .refl p
  split
  · exact .refl p
  · exact p.voidSale_booksKept _ ‹_›

theorem Part.answerReleaseJournal_booksKept (p : Part) (number : Nat) :
    p.BooksKept (p.answerReleaseJournal number).1 := by
  simp only [Part.answerReleaseJournal]
  split
  · exact .of_sublist List.filter_sublist rfl rfl rfl
  · exact .refl p

end Sys2Proof.Machine
end

section
namespace Sys2Proof.Machine

/-! ### The day close and the clock (R3 to R17, R108) -/

/-- No ticket of the journal was sold on the present sales day: it has just begun. -/
def Part.DayNew (p : Part) : Prop := ∀ t ∈ p.sales.tickets, t.day ≠ p.clock.salesDay

/-- Going from `p` to `q` keeps the journal in order and, on a sales day that has just begun, the ticket numbers apart. -/
structure Part.DawnKept (p q : Part) : Prop where
  ordered : p.sales.Ordered → q.sales.Ordered
  day : p.DayKnown → q.DayKnown
  tickets : p.DayNew → p.DayKnown → p.TicketsUnique → q.TicketsUnique
  new : p.DayNew → q.DayNew

theorem Part.DawnKept.trans {p q r : Part} (a : p.DawnKept q) (b : q.DawnKept r) : p.DawnKept r :=
  ⟨b.ordered ∘ a.ordered, b.day ∘ a.day, fun new day k => b.tickets (a.new new) (a.day day) (a.tickets new day k),
    b.new ∘ a.new⟩

theorem Part.BooksKept.dawn {p q : Part} (k : p.BooksKept q) (tickets : q.sales.tickets.Sublist p.sales.tickets)
    (clock : q.clock = p.clock) : p.DawnKept q :=
  ⟨k.ordered, k.day, fun _ => k.tickets, fun new t ht => clock ▸ new t (tickets.subset ht)⟩

theorem Part.DawnKept.of_same {p q : Part} (sales : q.sales = p.sales) (clock : q.clock = p.clock) : p.DawnKept q :=
  (Part.BooksKept.of_books (by rw [sales]) clock).dawn (by rw [sales]) clock

theorem Part.overrunOldest_tickets (p : Part) : p.overrunOldest.sales.tickets.Sublist p.sales.tickets := by
  refine SalesUnit.tickets_sublist ?_
  simp only [Part.overrunOldest]
  split <;> simp [Part.countOverrun, *]

theorem Part.writeAlways_tickets (p : Part) {body : JournalBody} (other : ∀ f, body ≠ .sale f) :
    (p.writeAlways body).sales.tickets.Sublist p.sales.tickets := by
  simp only [Part.writeAlways]
  split
  · exact .refl _
  · rw [Part.write_tickets _ _ other]
    split
    · exact p.overrunOldest_tickets
    · exact .refl _

/-- The serials start again on a day on which none is used yet (R99, R108). -/
theorem Part.restartSerial_dawnKept (p : Part) (totals : DayTotals) (window : Option VoidWindow) :
    p.DawnKept { p with sales := { p.sales with totals, nextSerial := 1, voidWindow := window } } :=
  ⟨id, id, fun new _ k => ⟨k.1, fun t ht => ⟨fun same => absurd same (new t ht), (k.2 t ht).2⟩⟩, id⟩

theorem Part.closeDay_dawnKept (p : Part) (old : Nat) : p.DawnKept (p.closeDay old) := by
  simp only [Part.closeDay]
  split
  · exact .of_same rfl rfl
  · have other : ∀ f, JournalBody.dayClose old p.sales.totals ≠ .sale f := by simp
    exact ((p.writeAlways_booksKept other).dawn (p.writeAlways_tickets other) (by simp)).trans
      (Part.restartSerial_dawnKept _ _ _)

theorem Part.handRollover_dawnKept (p : Part) (order old new : Nat) : p.DawnKept (p.handRollover order old new) :=
  threeInOrder_trans (fun a b => a.trans b) (fun q => q.closeDay_dawnKept old) (fun q => .of_same (by simp) (by simp))
    (fun q => .of_same (by simp) (by simp)) order p

/-- A ticket number of a later day than the present one is not yet given (R99). -/
theorem Part.dayNew_of_rise {p : Part} (k : p.TicketsUnique) {old new : Nat} (day : p.clock.salesDay = some old)
    (rise : old < new) : ∀ t ∈ p.sales.tickets, t.day ≠ some new := by
  intro t ht same
  obtain ⟨now, hnow, le⟩ := (k.2 t ht).2 new same
  rw [day] at hnow
  cases hnow
  omega

theorem Part.rollover_booksKept (p : Part) {old new : Nat} (day : p.clock.salesDay = some old) (rise : old < new)
    (set : p.clock.isSet = true) : p.BooksKept (p.rollover old new) := by
  let q := (p.withClock (fun c => { c with salesDay := some new })).drawOrder
  have set' : q.clock.isSet = true := set
  have risen : p.BooksKept q := by
    refine .of_day rfl (fun _ unset => by simp [set'] at unset) (fun _ d hd => ⟨new, rfl, ?_⟩)
    rw [day] at hd; cases hd; omega
  have handed : q.DawnKept (p.rollover old new) := q.handRollover_dawnKept (Config.receiverOrder p.draws) old new
  exact ⟨handed.ordered ∘ risen.ordered, handed.day ∘ risen.day, fun known k =>
    handed.tickets (Part.dayNew_of_rise k day rise) (risen.day known) (risen.tickets known k)⟩

theorem Part.salesDayCheck_booksKept (p : Part) : p.BooksKept p.salesDayCheck := by
  simp only [Part.salesDayCheck]
  split
  · rename_i awake
    simp only [Bool.and_eq_true] at awake
    split
    · exact .refl p
    split
    · exact p.rollover_booksKept ‹_› ‹_› awake.2
    · exact .refl p
  · exact .refl p

theorem Part.minuteEvent_booksKept (p : Part) : p.BooksKept p.minuteEvent := by
  have clock : p.minuteEvent.clock.isSet = p.clock.isSet ∧ p.minuteEvent.clock.salesDay = p.clock.salesDay := by
    simp [Part.minuteEvent, HaltClock.isSet]
  exact .of_clock (by simp) (.inr clock.1) clock.2

theorem Part.minuteCheck_booksKept (p : Part) : p.BooksKept p.minuteCheck := by
  simp only [Part.minuteCheck]
  split
  · exact p.minuteEvent_booksKept
  · exact .refl p

theorem Part.clockCheck_booksKept (p : Part) : p.BooksKept p.clockCheck :=
  p.salesDayCheck_booksKept.trans (Part.minuteCheck_booksKept _)

/-- A change of the clock that leaves its sales day, and leaves it set or as it was. -/
theorem Part.withClock_booksKept (p : Part) (f : HaltClock → HaltClock)
    (set : (f p.clock).stratum ≠ 15 ∨ (f p.clock).stratum = p.clock.stratum)
    (day : (f p.clock).salesDay = p.clock.salesDay) : p.BooksKept (p.withClock f) := by
  refine .of_clock rfl (set.imp (fun h => ?_) (fun h => ?_)) day
  · exact decide_eq_true h
  · simp only [HaltClock.isSet, Part.withClock, h]

theorem HaltClock.slewed_stratum (c : HaltClock) : c.slewed.stratum = c.stratum := by cases c; rfl

theorem HaltClock.slewed_salesDay (c : HaltClock) : c.slewed.salesDay = c.salesDay := by cases c; rfl

theorem Part.slewPeriod_booksKept (p : Part) : p.BooksKept p.slewPeriod :=
  (p.withClock_booksKept _ (.inr p.clock.slewed_stratum) p.clock.slewed_salesDay).trans (Part.clockCheck_booksKept _)

theorem Part.loseSource_booksKept (p : Part) : p.BooksKept p.loseSource :=
  p.withClock_booksKept _ (.inl (by simp [HaltClock.lost])) (by simp only [HaltClock.lost])

theorem Part.clockPeerLost_booksKept (p : Part) (node : Nat) : p.BooksKept (p.clockPeerLost node) := by
  simp only [Part.clockPeerLost]
  split
  · exact p.loseSource_booksKept
  · exact .refl p

theorem Part.correctBy_booksKept (p : Part) (sender source : Nat) (offset : Int) :
    p.BooksKept (p.correctBy sender source offset) := by
  have changed : ∀ f : HaltClock → HaltClock, (f p.clock).stratum = p.clock.stratum →
      (f p.clock).salesDay = p.clock.salesDay → p.BooksKept (p.withClock f) :=
    fun f stratum day => p.withClock_booksKept f (.inr stratum) day
  simp only [Part.correctBy]
  split
  · exact changed _ rfl rfl
  · exact changed _ rfl rfl
  · exact ((changed _ rfl rfl).trans (Part.post_booksKept _ _)).trans (Part.clockCheck_booksKept _)
  · split
    · exact changed _ rfl rfl
    · exact (changed _ rfl rfl).trans (Part.post_booksKept _ _)

/-- A follower's stratum is one of a set clock (R8). -/
theorem followStratum_ne (s : Nat) : followStratum s ≠ 15 := by
  have : followStratum s ≤ 7 := Nat.min_le_right _ _
  omega

theorem Part.sourceBeacon_booksKept (p : Part) (sender : Nat) (b : BeaconPayload) :
    p.BooksKept (p.sourceBeacon sender b) := by
  have followed : p.BooksKept (p.withClock (fun c => c.followed b p.lineTime)) :=
    p.withClock_booksKept _ (.inl (followStratum_ne _)) (by simp only [HaltClock.followed])
  exact followed.trans (Part.correctBy_booksKept _ _ _ _)

/-- An unset clock is set, and its sales day known from then on (R3). -/
theorem Part.setClock_booksKept (p : Part) (f : HaltClock → HaltClock) (unset : p.clock.isSet = false)
    (set : (f p.clock).stratum ≠ 15) : p.BooksKept (p.withClock f) := by
  have set' : (f p.clock).isSet = true := decide_eq_true set
  exact .of_day rfl (fun _ h => absurd (set'.symm.trans h) (by simp)) (fun known d hd => by simp [known unset] at hd)

theorem Part.setFromBeacon_booksKept (p : Part) (sender : Nat) (b : BeaconPayload) (unset : p.clock.isSet = false) :
    p.BooksKept (p.setFromBeacon sender b) := by
  simp only [Part.setFromBeacon]
  exact ((p.setClock_booksKept _ unset (followStratum_ne b.stratum)).trans (Part.minuteCheck_booksKept _)).trans
    (Part.post_booksKept _ _)

theorem Part.follow_booksKept (p : Part) (sender : Nat) (b : BeaconPayload) : p.BooksKept (p.follow sender b) := by
  have source := p.withClock_booksKept (fun c => { c with source := some sender, disagree := false }) (.inr rfl) rfl
  simp only [Part.follow]
  split
  · exact source.trans (Part.sourceBeacon_booksKept _ _ _)
  · rename_i unset
    exact source.trans (Part.setFromBeacon_booksKept _ _ _ (Bool.eq_false_iff.mpr unset))

theorem Part.hearClock_booksKept (p : Part) (sender : Nat) (b : BeaconPayload) : p.BooksKept (p.hearClock sender b) := by
  simp only [Part.hearClock]
  split
  · split
    · exact p.sourceBeacon_booksKept _ _
    · exact p.loseSource_booksKept
  split
  · exact p.follow_booksKept _ _
  · exact .refl p

theorem Part.acceptTime_booksKept (p : Part) (r : SetTimeRequest) : p.BooksKept (p.acceptTime r) := by
  have stratum : (p.clock.setTo r p.lineTime).stratum ≠ 15 := by
    simp only [HaltClock.setTo]; split <;> simp
  refine Part.BooksKept.trans (q := p.withClock (fun c => c.setTo r p.lineTime)) ?_ (Part.clockCheck_booksKept _)
  cases set : p.clock.isSet with
  | true => exact p.withClock_booksKept _ (.inl stratum) (by simp [HaltClock.setTo, set])
  | false => exact p.setClock_booksKept _ set stratum

theorem Part.acceptClock_booksKept (p : Part) : p.BooksKept p.acceptClock := by
  simp only [Part.acceptClock]
  split
  · exact p.salesDayCheck_booksKept.trans (Part.minuteEvent_booksKept _)
  · exact .refl p

/-! ### Frames, resets and requests -/

theorem Part.hearBeacon_booksKept (p : Part) (sender : Nat) (b : BeaconPayload) : p.BooksKept (p.hearBeacon sender b) := by
  refine Part.BooksKept.trans ?_ (Part.hearClock_booksKept _ _ _)
  exact .of_books (by simp) (by simp)

theorem Part.deliver_booksKept (p : Part) (f : LineFrame) : p.BooksKept (p.deliver f) := by
  simp only [Part.deliver]
  split
  · exact p.hearBeacon_booksKept _ _
  · exact .of_books (by simp) (by simp)
  · exact .of_books (by simp) (by simp)
  · exact p.hearGrant_booksKept _ _
  · exact .of_books (by simp) (by simp)

theorem Part.receiveGood_booksKept (p : Part) (f : LineFrame) : p.BooksKept (p.receiveGood f) := by
  have accepted : p.BooksKept (p.acceptFrame f.sender f.seq) := .of_books (by simp) (by simp)
  simp only [Part.receiveGood]
  split
  · exact .of_books (by simp) (by simp)
  split
  · exact .of_books (by simp) (by simp)
  split
  · exact .of_books (by simp) (by simp)
  · exact accepted.trans (Part.deliver_booksKept _ f)

theorem Part.hear_booksKept {α : Type} (p : Part) (x : Heard α) (payload : α → Payload) :
    p.BooksKept (p.hear x payload) := by
  have bad : p.BooksKept p.countBad := .of_books (by simp) (by simp)
  have malformed : p.BooksKept p.countMalformed := .of_books (by simp) (by simp)
  simp only [Part.hear]
  split
  · split
    · simp only [Part.receiveFrame]
      split
      · exact p.receiveGood_booksKept _
      · exact malformed
    · simp only [Part.receiveChars]
      split
      · exact bad
      · exact malformed
      · exact p.receiveGood_booksKept _
  · exact .refl p

theorem Part.withPeers_booksKept (p : Part) (f : PeerTable → PeerTable) : p.BooksKept (p.withPeers f) :=
  .of_books rfl rfl

theorem Part.quotaPeerGone_booksKept (p : Part) (node : Nat) : p.BooksKept (p.quotaPeerGone node) :=
  .of_books (by simp) (by simp)

theorem Part.peerGone_booksKept (p : Part) (node : Nat) : p.BooksKept (p.peerGone node) := by
  simp only [Part.peerGone]
  exact (((p.withPeers_booksKept _).trans (Part.post_booksKept _ _)).trans (Part.clockPeerLost_booksKept _ _)).trans
    (Part.quotaPeerGone_booksKept _ _)

theorem Part.peerSilent_booksKept (p : Part) (node : Nat) : p.BooksKept (p.peerSilent node) := by
  refine Part.BooksKept.trans ?_ (Part.clockPeerLost_booksKept _ _)
  exact .of_books (by simp) (by simp)

/-- A reset keeps journal, next numbers and sales day, and the clock is set while its sales day is known (R18, R85). -/
theorem Part.resetWith_booksKept (p : Part) (kind : ResetKind) : p.BooksKept (p.resetWith kind) := by
  refine .of_day rfl (fun _ unset => ?_) (fun _ d hd => ⟨d, hd, Nat.le_refl d⟩)
  simp only [Part.resetWith, HaltClock.restarted, HaltClock.isSet] at unset ⊢
  cases h : p.clock.salesDay with
  | none => rfl
  | some d => simp [h] at unset

/-- A cold start leaves an empty journal (R85, R195). -/
theorem Part.coldStart_booksKept (p : Part) : p.BooksKept p.coldStart where
  ordered _ := by simp [SalesUnit.Ordered, Part.coldStart]
  day _ _ := rfl
  tickets _ _ := by simp [Part.TicketsUnique, SalesUnit.tickets, Part.coldStart]

theorem Part.endSelfTest_booksKept (p : Part) (passes : Bool) : p.BooksKept (p.endSelfTest passes) := by
  have started : p.BooksKept (if p.retained.good then p.warmStart else p.coldStart) := by
    split
    · exact .of_books rfl rfl
    · exact p.coldStart_booksKept
  exact started.trans (.of_books (by simp [Part.endSelfTest]) (by simp [Part.endSelfTest]))

theorem Part.powerOn_booksKept (p : Part) : p.BooksKept p.powerOn :=
  Part.BooksKept.trans (q := { p with supply := { p.supply with mainOn := true } }) (.of_books rfl rfl)
    (Part.resetWith_booksKept _ _)

theorem Part.assertReset_booksKept (p : Part) : p.BooksKept p.assertReset := by
  have held : p.BooksKept { p with supply := { p.supply with resetHeld := true } } := .of_books rfl rfl
  simp only [Part.assertReset]
  split
  · exact held.trans (Part.resetWith_booksKept _ _)
  · exact held

theorem Part.startPages_booksKept (p : Part) : p.BooksKept p.startPages := .of_books (by simp) (by simp)

theorem Part.acceptStart_booksKept (p : Part) (r : StartRequest) : p.BooksKept (p.acceptStart r) := by
  have adopted : p.BooksKept (p.adopt r) := .of_clock rfl (.inr rfl) rfl
  have written := adopted.trans (Part.writeAlways_booksKept _ (body := .start p.start.kind (p.start.store.getD .cleared))
    (by simp))
  have paged := written.trans (Part.startPages_booksKept _)
  have due : ∀ q : Part, q.BooksKept q.beaconDue := fun q => .of_books (by simp) (by simp)
  have held : ∀ (q : Part) (k : Key), q.BooksKept (q.reportHeld k) := fun q k => .of_books (by simp) (by simp)
  simp only [Part.acceptStart]
  exact (((paged.trans (Part.acceptClock_booksKept _)).trans (due _)).trans (held _ _)).trans (held _ _)

theorem Part.answerStart_booksKept (p : Part) (r : StartRequest) : p.BooksKept (p.answerStart r).1 := by
  simp only [Part.answerStart]
  split
  · exact .refl p
  · exact p.acceptStart_booksKept r

end Sys2Proof.Machine
end

section
namespace Sys2Proof.Machine

/-- An operation behind a test. -/
theorem Part.BooksKept.ite {p q : Part} (c : Prop) [Decidable c] (k : p.BooksKept q) : p.BooksKept (if c then q else p) := by
  split
  · exact k
  · exact .refl p

/-! ### The unit port (R177 to R184) -/

theorem Part.withPort_booksKept (p : Part) (f : UnitPort → UnitPort) : p.BooksKept (p.withPort f) :=
  .of_books rfl rfl

theorem Part.putReply_booksKept (p : Part) (kind : Nat) (a : Answer) : p.BooksKept (p.putReply kind a) :=
  .of_books rfl rfl

theorem Part.withSupply_booksKept (p : Part) (s : Supply) : p.BooksKept (p.withSupply s) := .of_books rfl rfl

theorem Part.wakeFor_booksKept (p : Part) (k : RequestKind) : p.BooksKept (p.wakeFor k) :=
  .ite _ (.of_books (by simp) (by simp))

theorem Part.answerLoadBegin_booksKept (p : Part) (x : LoadBeginRequest) : p.BooksKept (p.answerLoadBegin x).1 := by
  simp only [Part.answerLoadBegin]
  (repeat' split) <;> exact .of_books rfl rfl

theorem Part.answerLoadEnd_booksKept (p : Part) : p.BooksKept p.answerLoadEnd.1 := by
  simp only [Part.answerLoadEnd]
  (repeat' split) <;> exact .of_books rfl rfl

theorem Part.answerLoadAbort_booksKept (p : Part) : p.BooksKept p.answerLoadAbort.1 := by
  simp only [Part.answerLoadAbort]
  (repeat' split) <;> exact .of_books rfl rfl

theorem Part.answerFaresBegin_booksKept (p : Part) (edition : Nat) : p.BooksKept (p.answerFaresBegin edition).1 := by
  simp only [Part.answerFaresBegin]
  (repeat' split) <;> exact .of_books rfl rfl

theorem Part.answerFaresItem_booksKept (p : Part) (i : Option FareItem) : p.BooksKept (p.answerFaresItem i).1 := by
  simp only [Part.answerFaresItem]
  (repeat' split) <;> exact .of_books rfl rfl

theorem Part.answerFaresEnd_booksKept (p : Part) : p.BooksKept p.answerFaresEnd.1 := by
  simp only [Part.answerFaresEnd]
  (repeat' split) <;> exact .of_books rfl rfl

theorem Part.answerFaresAbort_booksKept (p : Part) : p.BooksKept p.answerFaresAbort.1 := by
  simp only [Part.answerFaresAbort]
  (repeat' split) <;> exact .of_books rfl rfl

theorem Part.answerQuote_booksKept (p : Part) (i : FareInputs) : p.BooksKept (p.answerQuote i).1 := by
  simp only [Part.answerQuote]
  (repeat' split) <;> exact .of_books rfl rfl

theorem Part.answerReadPage_booksKept (p : Part) : p.BooksKept p.answerReadPage.1 := by
  simp only [Part.answerReadPage]
  (repeat' split) <;> exact .of_books rfl rfl

theorem Part.answerReadStatus_booksKept (p : Part) (x : StatusRequest) : p.BooksKept (p.answerReadStatus x).1 := by
  simp only [Part.answerReadStatus]
  (repeat' split) <;> exact .of_books rfl rfl

theorem Part.answerDoze_booksKept (p : Part) : p.BooksKept p.answerDoze.1 := by
  simp only [Part.answerDoze]
  (repeat' split) <;> exact .of_books rfl rfl

theorem Part.answerSetTime_booksKept (p : Part) (r : SetTimeRequest) : p.BooksKept (p.answerSetTime r).1 := by
  simp only [Part.answerSetTime]
  split
  · exact .refl p
  · exact p.acceptTime_booksKept r

theorem Part.answerLoadTrain_booksKept (p : Part) (r : TrainRecord) : p.BooksKept (p.answerLoadTrain r).1 := by
  refine .of_books ?_ ?_ <;> simp only [Part.answerLoadTrain, Part.refuse] <;> (repeat' split) <;> simp

theorem Part.answerTrainUpdate_booksKept (p : Part) (x : Option Update) : p.BooksKept (p.answerTrainUpdate x).1 := by
  refine .of_books ?_ ?_ <;> simp only [Part.answerTrainUpdate, Part.refuse] <;> (repeat' split) <;> simp

theorem Part.storeLost_clock (p : Part) : p.storeLost.clock = p.clock := by
  simp only [Part.storeLost]
  split <;> simp

theorem Part.removeNotices_booksKept (p : Part) : p.BooksKept p.removeNotices := by
  obtain ⟨-, -, -, sales⟩ := Part.storeLost_neutral_rest
    { p with notices := { p.notices with entries := p.notices.entries.drop 8 } }
  refine .of_books ?_ ?_
  · simp only [Part.removeNotices, sales]
  · simp only [Part.removeNotices, Part.storeLost_clock]

theorem Part.answerTakeNotices_booksKept (p : Part) : p.BooksKept p.answerTakeNotices.1 := by
  simp only [Part.answerTakeNotices]
  split
  · exact .refl p
  · exact p.removeNotices_booksKept

/-- Every request at its owner keeps the laws of journal and ticket numbers. -/
theorem Part.answer_booksKept (p : Part) (r : Request) : p.BooksKept (p.answer r).1 := by
  cases r with
  | start x => exact p.answerStart_booksKept x
  | restart => exact p.resetWith_booksKept _
  | setTime x => exact p.answerSetTime_booksKept x
  | loadBegin x => exact p.answerLoadBegin_booksKept x
  | loadTrain x => exact p.answerLoadTrain_booksKept x
  | loadEnd => exact p.answerLoadEnd_booksKept
  | loadAbort => exact p.answerLoadAbort_booksKept
  | trainUpdate u => exact p.answerTrainUpdate_booksKept u
  | faresBegin edition => exact p.answerFaresBegin_booksKept edition
  | faresItem i => exact p.answerFaresItem_booksKept i
  | faresEnd => exact p.answerFaresEnd_booksKept
  | faresAbort => exact p.answerFaresAbort_booksKept
  | quote i => exact p.answerQuote_booksKept i
  | issue x => exact p.answerIssue_booksKept x
  | abortIssue => exact p.answerAbortIssue_booksKept
  | void t => exact p.answerVoid_booksKept t
  | readJournal first => exact .refl p
  | releaseJournal number => exact p.answerReleaseJournal_booksKept number
  | takeNotices => exact p.answerTakeNotices_booksKept
  | readPage => exact p.answerReadPage_booksKept
  | readStatus x => exact p.answerReadStatus_booksKept x
  | clearFlags => exact .of_books rfl rfl
  | doze => exact p.answerDoze_booksKept

theorem Part.judgeState_booksKept (p : Part) (r : Request) : p.BooksKept (p.judgeState r) := by
  simp only [Part.judgeState, Part.handle]
  split
  · exact p.putReply_booksKept _ _
  have answered := p.answer_booksKept r
  split
  · exact answered
  · exact answered.trans (Part.putReply_booksKept _ _ _)

theorem Part.takeRequest_booksKept (p : Part) (kind : Nat) (r : Option Request) : p.BooksKept (p.takeRequest kind r) := by
  simp only [Part.takeRequest]
  split
  · exact p.putReply_booksKept _ _
  split
  · exact p.putReply_booksKept _ _
  split
  · exact (p.wakeFor_booksKept _).trans (Part.judgeState_booksKept _ _)
  · exact p.putReply_booksKept _ _

theorem Part.endSend_booksKept (p : Part) (judge : Part → Part) (judged : ∀ q : Part, q.BooksKept (judge q)) :
    p.BooksKept (p.endSend judge) := by
  have shifted : p.BooksKept p.shiftStatus := p.withPort_booksKept _
  simp only [Part.endSend]
  split
  · split
    · exact shifted.trans (Part.withPort_booksKept _ _)
    · exact shifted.trans (judged _)
  · exact .refl p

theorem Part.takeFrame_booksKept (p : Part) (kind : Nat) (r : Option Request) : p.BooksKept (p.takeFrame kind r) :=
  (p.withPort_booksKept _).trans (Part.takeRequest_booksKept _ _ _)

theorem Part.sendBytes_booksKept (p : Part) (bytes : List Byte) : p.BooksKept (p.sendBytes bytes) := by
  refine p.endSend_booksKept _ fun q => ?_
  split
  · exact (q.withPort_booksKept _).trans (Part.putReply_booksKept _ _ _)
  · exact q.takeFrame_booksKept _ _

theorem Part.fetch_booksKept (p : Part) (bytes : Nat) : p.BooksKept (p.fetch bytes) := by
  simp only [Part.fetch]
  exact p.withPort_booksKept _

theorem Part.transfer_booksKept (p : Part) (bytes : List Byte) : p.BooksKept (p.transfer bytes) := by
  cases bytes with
  | nil => exact .refl p
  | cons first rest =>
    rw [Part.transfer_cons]
    split
    · exact p.sendBytes_booksKept rest
    split
    · exact .ite _ (p.fetch_booksKept _)
    · exact .ite _ (p.withPort_booksKept _)

theorem Part.send_booksKept {α : Type} (p : Part) (x : Sent α) (request : α → Request) : p.BooksKept (p.send x request) := by
  cases x with
  | clean r => exact p.endSend_booksKept _ (fun q => q.takeFrame_booksKept _ _)
  | raw bytes => exact p.transfer_booksKept bytes

/-! ### Deadlines -/

theorem Part.referenceLapse_booksKept (p : Part) : p.BooksKept p.referenceLapse :=
  p.withClock_booksKept _ (.inl (by simp)) rfl

theorem Part.withKey_booksKept (p : Part) (k : Key) (f : KeyState → KeyState) : p.BooksKept (p.withKey k f) :=
  .of_books (by simp) (by simp)

theorem Part.keyInput_booksKept (p : Part) (k : Key) (low : Bool) : p.BooksKept (p.keyInput k low) := by
  simp only [Part.keyInput]
  split
  · exact .refl p
  split
  · exact p.withKey_booksKept _ _
  · exact p.withKey_booksKept _ _

theorem Part.refreshCame_booksKept (p : Part) (t : TrainKey) :
    p.BooksKept (match p.refreshCame t with | none => p | some e => p.refreshEntry e) := by
  split
  · exact .refl p
  · exact .of_books (by simp) (by simp)

theorem Part.askCame_booksKept (p : Part) : p.BooksKept (match p.askCame with | none => p | some i => p.askAgain i) := by
  split
  · exact .refl p
  · refine .of_books ?_ (by simp)
    simp only [Part.askAgain]
    (repeat' split) <;> simp [SalesUnit.books]

theorem Part.issueCame_booksKept (p : Part) :
    p.BooksKept (match p.issueCame with | none => p | some i => p.endIssue i .quotaExhausted LedgerRecord.returnReserved) := by
  split
  · exact .refl p
  · exact .of_books (by simp) (by simp)

theorem Part.releaseReset_booksKept (p : Part) : p.BooksKept p.releaseReset := .ite _ (.of_books rfl rfl)

/-- A command takes the part where journal and ticket numbers keep their laws. -/
theorem exec_booksKept (c : Instr) (s : State) : ∃ q, exec c s = .next ⟨q, s.pending⟩ ∧ s.part.BooksKept q := by
  cases c with
  | start x => exact ⟨_, rfl, s.part.send_booksKept x _⟩
  | restart x => exact ⟨_, rfl, s.part.send_booksKept x _⟩
  | setTime x => exact ⟨_, rfl, s.part.send_booksKept x _⟩
  | loadBegin x => exact ⟨_, rfl, s.part.send_booksKept x _⟩
  | loadTrain x => exact ⟨_, rfl, s.part.send_booksKept x _⟩
  | loadEnd x => exact ⟨_, rfl, s.part.send_booksKept x _⟩
  | loadAbort x => exact ⟨_, rfl, s.part.send_booksKept x _⟩
  | trainUpdate x => exact ⟨_, rfl, s.part.send_booksKept x _⟩
  | faresBegin x => exact ⟨_, rfl, s.part.send_booksKept x _⟩
  | faresItem x => exact ⟨_, rfl, s.part.send_booksKept x _⟩
  | faresEnd x => exact ⟨_, rfl, s.part.send_booksKept x _⟩
  | faresAbort x => exact ⟨_, rfl, s.part.send_booksKept x _⟩
  | quote x => exact ⟨_, rfl, s.part.send_booksKept x _⟩
  | issue x => exact ⟨_, rfl, s.part.send_booksKept x _⟩
  | abortIssue x => exact ⟨_, rfl, s.part.send_booksKept x _⟩
  | void x => exact ⟨_, rfl, s.part.send_booksKept x _⟩
  | readJournal x => exact ⟨_, rfl, s.part.send_booksKept x _⟩
  | releaseJournal x => exact ⟨_, rfl, s.part.send_booksKept x _⟩
  | takeNotices x => exact ⟨_, rfl, s.part.send_booksKept x _⟩
  | readPage x => exact ⟨_, rfl, s.part.send_booksKept x _⟩
  | readStatus x => exact ⟨_, rfl, s.part.send_booksKept x _⟩
  | clearFlags x => exact ⟨_, rfl, s.part.send_booksKept x _⟩
  | doze x => exact ⟨_, rfl, s.part.send_booksKept x _⟩
  | fetch bytes => exact ⟨_, rfl, .ite _ (s.part.fetch_booksKept bytes)⟩
  | powerOn => exact ⟨_, rfl, s.part.powerOn_booksKept⟩
  | resetPin => exact ⟨_, rfl, s.part.assertReset_booksKept⟩
  | resetPinRelease => exact ⟨_, rfl, s.part.releaseReset_booksKept⟩
  | mainSupplyLoss => exact ⟨_, rfl, s.part.withSupply_booksKept _⟩
  | backupLoss => exact ⟨_, rfl, s.part.withSupply_booksKept _⟩
  | selfTestEnd passes => exact ⟨_, rfl, .ite _ (s.part.endSelfTest_booksKept passes)⟩
  | lineTimeEnd => exact ⟨_, rfl, .ite _ (s.part.resetWith_booksKept _)⟩
  | minuteEvent => exact ⟨_, rfl, .ite _ s.part.clockCheck_booksKept⟩
  | slewPeriod => exact ⟨_, rfl, .ite _ s.part.slewPeriod_booksKept⟩
  | sourceDeadline => exact ⟨_, rfl, .ite _ s.part.loseSource_booksKept⟩
  | referenceLapse => exact ⟨_, rfl, .ite _ s.part.referenceLapse_booksKept⟩
  | refreshDeadline t => exact ⟨_, rfl, s.part.refreshCame_booksKept t⟩
  | intervalDeadline => exact ⟨_, rfl, .ite _ (.of_books (by simp) (by simp))⟩
  | askTime => exact ⟨_, rfl, s.part.askCame_booksKept⟩
  | issueDeadline => exact ⟨_, rfl, s.part.issueCame_booksKept⟩
  | watchExpiry asker number => exact ⟨_, rfl, .ite _ (.of_books (by simp) (by simp))⟩
  | takenDeadline t asker number => exact ⟨_, rfl, .ite _ (.of_books (by simp) (by simp))⟩
  | silentDeadline node => exact ⟨_, rfl, .ite _ (s.part.peerSilent_booksKept node)⟩
  | goneDeadline node => exact ⟨_, rfl, .ite _ (s.part.peerGone_booksKept node)⟩
  | beaconDeadline => exact ⟨_, rfl, .ite _ (.of_books (by simp) (by simp))⟩
  | holdOffDeadline => exact ⟨_, rfl, .ite _ (.of_books rfl rfl)⟩
  | keyInputChange k low => exact ⟨_, rfl, s.part.keyInput_booksKept k low⟩
  | settleDeadline k => exact ⟨_, rfl, .ite _ (.of_books (by simp) (by simp))⟩
  | lineBusy => exact ⟨_, rfl, .ite _ (.of_books (by simp) (by simp))⟩
  | lineQuiet => exact ⟨_, rfl, .ite _ (.of_books (by simp) (by simp))⟩
  | slotEnd => exact ⟨_, rfl, .ite _ (.of_books (by simp) (by simp))⟩
  | sentWhole => exact ⟨_, rfl, .ite _ (.of_books (by simp) (by simp))⟩
  | collision => exact ⟨_, rfl, .ite _ (.of_books (by simp) (by simp))⟩
  | breakEnd => exact ⟨_, rfl, .ite _ (.of_books (by simp) (by simp))⟩
  | badFrame => exact ⟨_, rfl, .ite _ (.of_books (by simp) (by simp))⟩
  | malformedFrame => exact ⟨_, rfl, .ite _ (.of_books (by simp) (by simp))⟩
  | beacon x => exact ⟨_, rfl, s.part.hear_booksKept x _⟩
  | train x => exact ⟨_, rfl, s.part.hear_booksKept x _⟩
  | ask x => exact ⟨_, rfl, s.part.hear_booksKept x _⟩
  | grant x => exact ⟨_, rfl, s.part.hear_booksKept x _⟩
  | taken x => exact ⟨_, rfl, s.part.hear_booksKept x _⟩

/-- A clock's reading decides neither whether it is set nor its sales day. -/
theorem Part.withReading_booksKept (p : Part) (lineTime : Nat) (r : Reading) :
    p.BooksKept { p with lineTime, clock := { p.clock with reading := r } } := .of_clock rfl (.inr rfl) rfl

/-- A millisecond moves line time and the clock's reading alone (R1, R2). -/
theorem Part.tick_booksKept (p : Part) : p.BooksKept p.tick := by
  simp only [Part.tick, Part.tickUp, Part.tickDown, HaltClock.tick]
  split
  · split
    · split
      · exact p.withReading_booksKept _ _
      · exact .of_books rfl rfl
    · exact .refl p
  · exact p.withReading_booksKept _ _

/-- Every step keeps the laws of journal and ticket numbers. -/
theorem step_booksKept (s t : State) (h : step s = .next t) : s.part.BooksKept t.part := by
  simp only [step] at h
  split at h
  · cases h
    exact s.part.tick_booksKept.trans (.of_books rfl rfl)
  · rename_i c rest _
    obtain ⟨q, taken, kept⟩ := exec_booksKept c { s with pending := rest }
    rw [taken] at h
    cases h
    exact kept

/-- Settles O7: by what every step keeps. -/
theorem journalStaysInOrder : Obligations.JournalStaysInOrder := fun s t k h => (step_booksKept s t h).ordered k

/-- Settles O9: by what every step keeps; a clock in agreement that is unset knows no sales day. -/
theorem ticketNumbersStayUnique : Obligations.TicketNumbersStayUnique := by
  intro s t agrees unique h
  obtain ⟨-, -, -, -, -, day, -⟩ := agrees
  exact (step_booksKept s t h).tickets (fun unset => day.mpr (by simpa [HaltClock.isSet] using unset)) unique

end Sys2Proof.Machine
end

section
namespace Sys2Proof.Machine

/-! ### The journal read and released (R105, R106) -/

theorem length_filter_not_lt (f : JournalRecord → Nat) (n : Nat) (l : List JournalRecord) :
    l.length - (l.filter (fun r => n < f r)).length = (l.filter (fun r => f r ≤ n)).length := by
  have parts := l.length_eq_length_filter_add (fun r => decide (n < f r))
  simp only [← decide_not, Nat.not_lt] at parts
  omega

/-- Settles O36: the owner's answer to each request. -/
theorem journalIsReadAndReleased : Obligations.JournalIsReadAndReleased := by
  intro n s attentive long
  have fits : (Request.releaseJournal n).fits = true := decide_eq_true long
  refine ⟨attentive.exec_answered (.readJournal n) rfl fits (o := s.part.afterTaking.answerReadJournal n) rfl rfl rfl,
    fun absent => ?_, fun carried => ?_⟩
  · refine attentive.exec_refused (.releaseJournal n) rfl fits rfl ?_
    have none : ¬ s.part.sales.journal.any (fun r => r.number = n) := by simpa using absent
    exact if_neg none
  · have some : s.part.sales.journal.any (fun r => r.number = n) := by simpa using carried
    rw [← length_filter_not_lt]
    exact attentive.exec_answered (.releaseJournal n) rfl fits rfl (if_pos some) rfl

/-! ### ABORT ISSUE (R93) -/

theorem Part.moveOn_returnReserved (p : Part) (t : Option TrainKey) :
    p.moveOn t LedgerRecord.returnReserved = { p with quota := p.returned t } := by
  cases t <;> rfl

/-- A part in RUNNING that ends an issue with its places returned: sales unit, quota unit and notice queue. -/
theorem Part.endIssue_returnReserved {p : Part} (running : p.doze.state = .running) (i : IssueRecord) (c : ResultCode) :
    p.endIssue i c LedgerRecord.returnReserved = { p with
      sales := { p.sales with issue := none }
      quota := p.returned i.request.inputs.train
      notices := p.notices.store .running p.holdOff p.lineTime
        (mkNotice .sale .refused none (trainSubject i.request.inputs.train) c.code i.request.payment) } := by
  rw [Part.endIssue, Part.moveOn_returnReserved, Part.post_eq_note _ _ (by simp [Part.clearIssue, running])]
  simp only [Part.note, Part.clearIssue, running, refusedNotice]
  rfl

/-- Settles O34: the owner's answer in each case. -/
theorem abortIssueReturnsThePlaces : Obligations.AbortIssueReturnsThePlaces := by
  intro s attentive
  refine ⟨fun other => ?_, fun sells idle => ?_, fun i sells issue => ?_⟩
  · refine attentive.exec_refused .abortIssue rfl rfl rfl ?_
    simp [Part.answerAbortIssue, show s.part.afterTaking.roles.sells = false from other]
  · refine attentive.exec_refused .abortIssue rfl rfl rfl ?_
    simp [Part.answerAbortIssue, show s.part.afterTaking.roles.sells = true from sells,
      show s.part.afterTaking.sales.issue = none from idle]
  · have answer : s.part.afterTaking.answerAbortIssue
        = (s.part.afterTaking.endIssue i .aborted LedgerRecord.returnReserved, .bare .done) := by
      simp [Part.answerAbortIssue, show s.part.afterTaking.roles.sells = true from sells,
        show s.part.afterTaking.sales.issue = some i from issue]
    rw [Part.endIssue_returnReserved (p := s.part.afterTaking) attentive.2.1] at answer
    exact attentive.exec_answered .abortIssue rfl rfl rfl answer rfl

end Sys2Proof.Machine
end

section
namespace Sys2Proof.Machine

/-! ### The commit of a sale (R96, R97) -/

theorem FareFlags.union_same (a b : FareFlags) : (a.union b).union b = a.union b := by
  simp [FareFlags.union]

theorem Part.gatherFlags_same (p : Part) (f : FareFlags) : (p.gatherFlags f).gatherFlags f = p.gatherFlags f := by
  simp only [Part.gatherFlags, FareFlags.union_same]

theorem SalesUnit.spaceFor_of_room {s : SalesUnit} {n : Nat} (room : s.journal.length < 252)
    (number : s.nextNumber = some n) : s.spaceFor = some n := by
  simp [SalesUnit.spaceFor, Nat.not_le.mpr room, number]

theorem SalesUnit.spaceFor_of_full {s : SalesUnit} (full : 252 ≤ s.journal.length ∨ s.nextNumber = none) :
    s.spaceFor = none := Option.isNone_iff_eq_none.mp (s.isNone_spaceFor_iff.mpr full)

/-- The places of an issue refused at its commit go back to held, and its record is cleared (R96, R116). -/
def Part.sentBack (p : Part) (t : Option TrainKey) : Part := (p.moveOn t LedgerRecord.returnReserved).clearIssue

theorem Part.sentBack_eq (p : Part) (t : Option TrainKey) :
    p.sentBack t = { p with sales := { p.sales with issue := none }, quota := p.returned t } := by
  rw [Part.sentBack, Part.moveOn_returnReserved]
  rfl

/-- A sale made: sales unit, and the places reserved sold (R97). -/
theorem Part.completeSale_eq (p : Part) (req : IssueRequest) (r : FareResult) (n : Nat) :
    p.completeSale req r n = { p with
      sales := p.afterSale req r n
      quota := if 0 < r.placesNeeded then (p.moveOn req.inputs.train LedgerRecord.sellReserved).quota else p.quota } := by
  simp only [Part.completeSale]
  split
  · cases req.inputs.train <;> rfl
  · rfl

section
variable {p : Part} {req : IssueRequest} {needed : Nat} {f : FareFlags} (sold : p.trainOk req.inputs = true)
include sold

theorem Part.commit_refused {code : ResultCode} (fare : fareOf (p.fareContext req.inputs) req.inputs = ⟨.refused code, f⟩) :
    p.commit req needed = ((p.gatherFlags f).sentBack req.inputs.train, .refused code) := by
  simp only [Part.commit, sold, Part.computeFare_eq fare]
  rfl

variable {r : FareResult} (fare : fareOf (p.fareContext req.inputs) req.inputs = ⟨.fare r, f⟩)
include fare

theorem Part.commit_fareChanged (other : r.amount ≠ req.agreed ∨ r.placesNeeded ≠ needed) :
    p.commit req needed = ((p.gatherFlags f).sentBack req.inputs.train, .refused .fareChanged) := by
  simp only [Part.commit, sold, Part.computeFare_eq fare, if_pos other]
  rfl

variable (agreed : r.amount = req.agreed) (places : r.placesNeeded = needed)
include agreed places

theorem Part.commit_journalFull (full : 252 ≤ p.sales.journal.length ∨ p.sales.nextNumber = none) :
    p.commit req needed = ((p.gatherFlags f).sentBack req.inputs.train, .refused .journalFull) := by
  have space : (p.gatherFlags f).sales.spaceFor = none := SalesUnit.spaceFor_of_full full
  simp only [Part.commit, sold, Part.computeFare_eq fare, agreed, places, ne_eq, not_true_eq_false, or_self, space]
  rfl

theorem Part.commit_sold {n : Nat} (room : p.sales.journal.length < 252) (number : p.sales.nextNumber = some n) :
    p.commit req needed = ((p.gatherFlags f).completeSale req r n,
      .sold ((p.gatherFlags f).saleFields req r) (p.saleRecord req r n)) := by
  have space : (p.gatherFlags f).sales.spaceFor = some n := SalesUnit.spaceFor_of_room room number
  simp only [Part.commit, sold, Part.computeFare_eq fare, agreed, places, ne_eq, not_true_eq_false, or_self, space]
  rfl

end

/-! ### ISSUE accepted (R88, R89) -/

/-- An ISSUE that passes its checks, its fare's link among them, is taken. -/
theorem Part.answerIssue_passes {p : Part} {q : IssueRequest} {r : FareResult} {f : FareFlags} {n : Nat}
    (passes : p.IssuePasses q r f n)
    (linked : 0 < r.placesNeeded → ∃ k, q.inputs.train = some k ∧ p.trainLinked k = true) :
    p.answerIssue q = (p.gatherFlags f).takeIssue q r.placesNeeded := by
  obtain ⟨sells, -, agreed, idle, room, number, serial, sold, fare⟩ := passes
  have space := SalesUnit.isNone_spaceFor_eq_false room (by simp [number])
  have link : p.lacksLink q.inputs r = false := by
    refine Bool.eq_false_iff.mpr fun lacks => ?_
    obtain ⟨places, unlinked⟩ := (p.lacksLink_iff _ r).mp lacks
    obtain ⟨k, named, has⟩ := linked places
    exact Bool.false_ne_true ((unlinked k named).symm.trans has)
  rw [Part.answerIssue_checked sells agreed idle]
  simp [Part.checkIssue, space, Nat.not_le.mpr serial, (p.trainOk_iff _).mpr sold, Part.computeFare_eq fare, link]

theorem Part.takeIssue_placeless (p : Part) (q : IssueRequest) :
    p.takeIssue q 0 = ((p.commit q 0).1, (p.commit q 0).2.answer) := rfl

theorem Part.takeIssue_onHand {p : Part} {q : IssueRequest} {needed : Nat} {k : TrainKey} (places : 0 < needed)
    (named : q.inputs.train = some k) (held : needed ≤ p.quota.heldOf k) :
    p.takeIssue q needed = (((p.moveOn (some k) (fun l => l.reserve needed)).commit q needed).1,
      ((p.moveOn (some k) (fun l => l.reserve needed)).commit q needed).2.answer) := by
  simp [Part.takeIssue, Nat.ne_of_gt places, named, held]

theorem Part.takeIssue_short {p : Part} {q : IssueRequest} {needed : Nat} {k : TrainKey}
    (named : q.inputs.train = some k) (short : p.quota.heldOf k < needed) :
    p.takeIssue q needed = (p.startIssue q needed k, .bare .accepted) := by
  simp [Part.takeIssue, Nat.ne_of_gt (Nat.zero_lt_of_lt short), named, Nat.not_le.mpr short]

section
variable {p : Part} {q : IssueRequest} {r : FareResult} {f : FareFlags} {n : Nat} (passes : p.IssuePasses q r f n)
include passes

/-- A sale at once without places (R89, R97). -/
theorem Part.answerIssue_placeless (none : r.placesNeeded = 0) (agreed : r.amount = q.agreed) :
    p.answerIssue q = ({ p with
        fares := { p.fares with sticky := p.fares.sticky.union f }, sales := p.afterSale q r n },
      ⟨.done, .ticket (p.saleRecord q r n)⟩) := by
  have answer := Part.answerIssue_passes passes (by omega)
  obtain ⟨-, -, -, -, room, number, -, sold, fare⟩ := passes
  have commit := Part.commit_sold (p := p.gatherFlags f) ((p.trainOk_iff _).mpr sold) fare agreed none room number
  rw [answer, none, Part.takeIssue_placeless, commit, Part.gatherFlags_same, Part.completeSale_eq,
    if_neg (by omega)]
  rfl

variable {k : TrainKey} (named : q.inputs.train = some k) (linked : p.trainLinked k = true) (places : 0 < r.placesNeeded)
  (held : r.placesNeeded ≤ p.quota.heldOf k)
include named linked places held

/-- An ISSUE with its places on hand is a commit with those places reserved (R89). -/
theorem Part.answerIssue_onHand :
    p.answerIssue q = (fun c : Part × Commit => (c.1, c.2.answer))
      (((p.gatherFlags f).moveOn (some k) (fun l => l.reserve r.placesNeeded)).commit q r.placesNeeded) :=
  (Part.answerIssue_passes passes fun _ => ⟨k, named, linked⟩).trans
    (Part.takeIssue_onHand (p := p.gatherFlags f) places named held)

/-- A sale at once with its places (R89, R97, R117). -/
theorem Part.answerIssue_sold (agreed : r.amount = q.agreed) :
    p.answerIssue q = ({ p with
        fares := { p.fares with sticky := p.fares.sticky.union f }
        sales := p.afterSale q r n
        quota := p.quota.modify k (fun l => { l with
          held := l.held - min r.placesNeeded l.held
          reserved := 0
          sold := l.sold + (l.reserved + min r.placesNeeded l.held) }) },
      ⟨.done, .ticket (p.saleRecord q r n)⟩) := by
  have answer := Part.answerIssue_onHand passes named linked places held
  obtain ⟨-, -, -, -, room, number, -, sold, fare⟩ := passes
  let reserved := (p.gatherFlags f).moveOn (some k) (fun l => l.reserve r.placesNeeded)
  have commit := Part.commit_sold (p := reserved) (needed := r.placesNeeded) ((p.trainOk_iff _).mpr sold) fare agreed
    rfl room number
  have same : reserved.gatherFlags f = reserved := by
    simp only [reserved, Part.gatherFlags, Part.moveOn, FareFlags.union_same]
  have moved : (reserved.moveOn (some k) LedgerRecord.sellReserved).quota
      = p.quota.modify k (fun l => (l.reserve r.placesNeeded).sellReserved) :=
    p.quota.modify_modify k _ _ fun _ => rfl
  rw [answer, commit, same, Part.completeSale_eq, if_pos places, named, moved]
  rfl

/-- An ISSUE with its places on hand at another amount (R89, R96). -/
theorem Part.answerIssue_changed (changed : r.amount ≠ q.agreed) :
    p.answerIssue q = ({ p with
        fares := { p.fares with sticky := p.fares.sticky.union f }
        quota := p.quota.modify k (fun l => (l.reserve r.placesNeeded).returnReserved) },
      .bare .fareChanged) := by
  have answer := Part.answerIssue_onHand passes named linked places held
  obtain ⟨-, -, -, idle, room, number, -, sold, fare⟩ := passes
  let reserved := (p.gatherFlags f).moveOn (some k) (fun l => l.reserve r.placesNeeded)
  have commit := Part.commit_fareChanged (p := reserved) (needed := r.placesNeeded) ((p.trainOk_iff _).mpr sold) fare
    (.inl changed)
  have same : reserved.gatherFlags f = reserved := by
    simp only [reserved, Part.gatherFlags, Part.moveOn, FareFlags.union_same]
  have moved : reserved.returned (some k)
      = p.quota.modify k (fun l => (l.reserve r.placesNeeded).returnReserved) :=
    p.quota.modify_modify k _ _ fun _ => rfl
  have sales : { reserved.sales with issue := none } = p.sales := idle ▸ rfl
  rw [answer, commit, same, Part.sentBack_eq, named, moved, sales]
  rfl

end

/-- An ISSUE that needs no places at another amount (R96). -/
theorem Part.answerIssue_placelessChanged {p : Part} {q : IssueRequest} {r : FareResult} {f : FareFlags} {n : Nat}
    (passes : p.IssuePasses q r f n) (none : r.placesNeeded = 0) (changed : r.amount ≠ q.agreed) :
    p.answerIssue q = ({ p with
        fares := { p.fares with sticky := p.fares.sticky.union f }
        quota := p.returned q.inputs.train }, .bare .fareChanged) := by
  have answer := Part.answerIssue_passes passes (by omega)
  obtain ⟨-, -, -, idle, room, number, -, sold, fare⟩ := passes
  have commit := Part.commit_fareChanged (p := p.gatherFlags f) (needed := 0) ((p.trainOk_iff _).mpr sold) fare
    (.inl changed)
  have sales : { (p.gatherFlags f).sales with issue := Option.none } = p.sales := idle ▸ rfl
  rw [answer, none, Part.takeIssue_placeless, commit, Part.gatherFlags_same, Part.sentBack_eq, sales]
  rfl

/-- Places reserved and sent back make no difference to a record that had none reserved (R116). -/
theorem LedgerRecord.returnReserved_reserve {l : LedgerRecord} (none : l.reserved = 0) (k : Nat) :
    (l.reserve k).returnReserved = l := by
  cases l
  simp only [LedgerRecord.reserve, LedgerRecord.returnReserved] at *
  simp only [none, LedgerRecord.mk.injEq, true_and, and_true]
  omega

theorem LedgerRecord.returnReserved_unreserved {l : LedgerRecord} (none : l.reserved = 0) : l.returnReserved = l := by
  cases l
  simp only [LedgerRecord.returnReserved] at *
  simp [none]

/-- A change of a train's record that changes nothing of it where no place is reserved. -/
theorem QuotaUnit.find_modify_unreserved {u : QuotaUnit} {k : TrainKey} {f : LedgerRecord → LedgerRecord}
    (keeps : ∀ l, (f l).train = l.train) (same : ∀ l, l.reserved = 0 → f l = l)
    (none : (u.find k).all (fun l => decide (l.reserved = 0)) = true) : (u.modify k f).find k = u.find k := by
  rw [u.find_modify k f keeps]
  cases found : u.find k with
  | none => rfl
  | some l => exact congrArg some (same l (by simpa [found] using none))

/-- Settles O32: a commit at once, with and without places, sold at the agreed amount and sent back at another. -/
theorem issueSellsAtOnce : Obligations.IssueSellsAtOnce := by
  intro q r f n s attentive passes
  have taken : s.part.afterTaking.IssuePasses q r f n := passes
  have fits : (Request.issue q).fits = true := passes.2.1
  refine ⟨fun none agreed => ?_, fun k named linked places held agreed => ?_, fun enough changed => ?_⟩
  · exact attentive.exec_answered (.issue q) rfl fits rfl (Part.answerIssue_placeless taken none agreed) rfl
  · exact attentive.exec_answered (.issue q) rfl fits rfl
      (Part.answerIssue_sold taken named linked places held agreed) rfl
  · by_cases none : r.placesNeeded = 0
    · have answer := Part.answerIssue_placelessChanged taken none changed
      refine ⟨_, attentive.exec_answered (.issue q) rfl fits rfl answer rfl, rfl, rfl, rfl, fun k named => ?_, rfl⟩
      rw [named]
      exact QuotaUnit.find_modify_unreserved (fun _ => rfl) (fun _ => LedgerRecord.returnReserved_unreserved)
    · obtain ⟨k, named, linked, held⟩ := enough.resolve_left none
      have answer := Part.answerIssue_changed taken named linked (by omega) held changed
      refine ⟨_, attentive.exec_answered (.issue q) rfl fits rfl answer rfl, rfl, rfl, rfl, fun j named' => ?_, rfl⟩
      obtain rfl : k = j := Option.some.inj (named.symm.trans named')
      exact QuotaUnit.find_modify_unreserved (fun _ => rfl)
        (fun _ unreserved => LedgerRecord.returnReserved_reserve unreserved _)

end Sys2Proof.Machine
end

section
namespace Sys2Proof.Machine

/-! ### What the line makes of an offer (R152 to R157) -/

/-- The two parts are alike in all that an offer reads: line, line time, whether awake, draws, start record, clock and
editions. -/
structure Part.OffersAs (p q : Part) : Prop where
  line : p.line = q.line
  lineTime : p.lineTime = q.lineTime
  awake : p.awake = q.awake
  draws : p.draws = q.draws
  record : p.port.record = q.port.record
  clock : p.clock = q.clock
  timetable : p.board.edition = q.board.edition
  fare : p.fares.edition = q.fares.edition

namespace Part.OffersAs

variable {p q : Part} (same : p.OffersAs q)
include same

theorem payloadOf (b : FrameBody) : p.payloadOf b = q.payloadOf b := by
  cases b with
  | beacon =>
    simp only [Part.payloadOf, Part.beaconNow, Part.roles, same.record, same.clock, same.timetable, same.fare, same.line]
  | _ => rfl

theorem startAttempt (sl : Slot) : (p.startAttempt sl).line = (q.startAttempt sl).line := by
  simp only [Part.startAttempt, same.line, same.lineTime, same.payloadOf, Part.ownNode, same.record]

theorem withLine (l : LineInterface) : Part.OffersAs { p with line := l } { q with line := l } :=
  ⟨rfl, same.lineTime, same.awake, same.draws, same.record, same.clock, same.timetable, same.fare⟩

theorem runWait (sl : Slot) (w : Nat) : (p.runWait sl w).line = (q.runWait sl w).line := by
  simp only [Part.runWait, same.line]
  split
  · exact (same.withLine _).startAttempt sl
  · rfl

theorem choose : p.choose.line = q.choose.line := by
  have drawn : Part.OffersAs { p with draws := p.draws + 1 } { q with draws := q.draws + 1 } :=
    ⟨same.line, same.lineTime, same.awake, congrArg (· + 1) same.draws, same.record, same.clock, same.timetable, same.fare⟩
  have head : p.line.head? = q.line.head? := by rw [same.line]
  simp only [Part.choose, head]
  split
  · exact same.line
  · split
    · exact same.runWait _ _
    · rw [drawn.runWait, same.draws]

theorem settleTransmitter : p.settleTransmitter.line = q.settleTransmitter.line := by
  simp only [Part.settleTransmitter, same.line, same.awake]
  split
  · exact same.choose
  · exact same.line

/-- Parts alike in what an offer reads have the same line after it. -/
theorem offer (c : FrameClass) (b : FrameBody) : (p.offer c b).line = (q.offer c b).line := by
  simp only [Part.offer, same.line]
  split
  · exact (same.withLine _).settleTransmitter
  · rfl

end Part.OffersAs

/-- An offer changes the line and the draw counter. -/
theorem Part.offer_eq (p : Part) (c : FrameClass) (b : FrameBody) :
    p.offer c b = { p with line := (p.offer c b).line, draws := (p.offer c b).draws } := by
  have frame := p.offer_frame c b
  generalize p.offer c b = q at frame ⊢
  cases q
  simp_all

/-- An ASK asked for: its frame offered, and the ask list (R119). -/
theorem Part.sendAsk_eq (p : Part) (k : TrainKey) (wanted : Nat) :
    p.sendAsk k wanted = { p with
      line := (p.offer .urgent (.ask ⟨k, wanted⟩)).line
      draws := (p.offer .urgent (.ask ⟨k, wanted⟩)).draws
      quota := { p.quota with asks := p.asksAfter k wanted } } := by
  simp only [Part.sendAsk, Part.asksAfter, pushEight]
  rw [Part.offer_eq]
  split <;> rfl

/-! ### ISSUE short of places (R89) -/

theorem QuotaUnit.heldOf_of_find {u : QuotaUnit} {k : TrainKey} {l : LedgerRecord} (found : u.find k = some l) :
    u.heldOf k = l.held := by
  simp [QuotaUnit.heldOf, found]

theorem LedgerRecord.reserve_held (l : LedgerRecord) :
    l.reserve l.held = { l with held := 0, reserved := l.reserved + l.held } := by
  simp [LedgerRecord.reserve]

/-- The part with every held place of a train reserved (R89, R116). -/
def Part.allReserved (p : Part) (k : TrainKey) : Part := p.moveOn (some k) (fun l => l.reserve (p.quota.heldOf k))

theorem Part.allReserved_find {p : Part} {k : TrainKey} {l : LedgerRecord} (found : p.quota.find k = some l) :
    (p.allReserved k).quota.find k = some { l with held := 0, reserved := l.reserved + l.held } := by
  have moved := p.quota.find_modify k (fun l => l.reserve (p.quota.heldOf k)) fun _ => rfl
  rw [found, Option.map_some, QuotaUnit.heldOf_of_find found, l.reserve_held] at moved
  rwa [Part.allReserved, QuotaUnit.heldOf_of_find found]

theorem Part.startIssue_eq (p : Part) (q : IssueRequest) (needed : Nat) (k : TrainKey) :
    p.startIssue q needed k = { p with
      line := ((p.allReserved k).offer .urgent (.ask ⟨k, needed - p.quota.heldOf k⟩)).line
      draws := ((p.allReserved k).offer .urgent (.ask ⟨k, needed - p.quota.heldOf k⟩)).draws
      quota := { (p.allReserved k).quota with asks := p.asksAfter k (needed - p.quota.heldOf k) }
      sales := { p.sales with issue := some ⟨q, needed, p.quota.heldOf k, 1, some (p.lineTime + 500),
        p.lineTime + 1500⟩ } } := by
  have asked := (p.allReserved k).sendAsk_eq k (needed - p.quota.heldOf k)
  rw [Part.allReserved] at asked ⊢
  simp only [Part.startIssue, asked]
  rfl

/-- Settles O33: the owner's answer is `startIssue`, and its ASK goes out as from the part before. -/
theorem issueGoesInFlight : Obligations.IssueGoesInFlight := by
  intro q r f n k s attentive passes named linked short
  have taken : s.part.afterTaking.IssuePasses q r f n := passes
  have fits : (Request.issue q).fits = true := passes.2.1
  let p := s.part.afterTaking.gatherFlags f
  have answer : s.part.afterTaking.answerIssue q = (p.startIssue q r.placesNeeded k, .bare .accepted) :=
    (Part.answerIssue_passes taken fun _ => ⟨k, named, linked⟩).trans (Part.takeIssue_short (p := p) named short)
  have same : (p.allReserved k).OffersAs s.part := ⟨rfl, rfl, rfl, rfl, rfl, rfl, rfl, rfl⟩
  rw [Part.startIssue_eq] at answer
  refine ⟨_, attentive.exec_answered (.issue q) rfl fits rfl answer rfl, rfl, rfl, rfl, rfl,
    fun l found => Part.allReserved_find (p := p) found, fun j other => ?_, same.offer _ _, rfl, rfl, rfl, rfl, rfl, rfl, rfl⟩
  exact s.part.quota.find_modify_other j k _ (fun _ => rfl) other

/-! ### The deadlines of issue and quota (R91, R92, R122, R128) -/

section
variable {p : Part} (up : p.up = true) (awake : p.awake = true)
include up awake

theorem Part.acting_of_awake : p.acting = true := by simp [Part.acting, up, awake]

theorem Part.askCame_of_reached {i : IssueRecord} {d : Nat} (issue : p.sales.issue = some i) (time : i.askTime = some d)
    (come : d ≤ p.lineTime) : p.askCame = some i := by
  simp [Part.askCame, Part.acting_of_awake up awake, issue, reached, time, come]

theorem Part.issueCame_of_reached {i : IssueRecord} (issue : p.sales.issue = some i) (come : i.deadline ≤ p.lineTime) :
    p.issueCame = some i := by
  simp [Part.issueCame, Part.acting_of_awake up awake, issue, come]

end

/-- The issue record once its ask time is cleared (R91). -/
def IssueRecord.askedAgain (i : IssueRecord) : IssueRecord :=
  { i with askTime := none, asks := if i.reserved < i.needed then 2 else i.asks }

theorem Part.askAgain_short {p : Part} {i : IssueRecord} {k : TrainKey} (named : i.request.inputs.train = some k)
    (short : i.reserved < i.needed) :
    p.askAgain i = { p with sales := { p.sales with issue := some i.askedAgain } }.sendAsk k i.shortfall := by
  have asked : 0 < i.shortfall := Nat.sub_pos_of_lt short
  simp [Part.askAgain, named, asked, IssueRecord.askedAgain, short]

theorem Part.askAgain_enough {p : Part} {i : IssueRecord} (enough : i.needed ≤ i.reserved) :
    p.askAgain i = { p with sales := { p.sales with issue := some i.askedAgain } } := by
  have none : i.shortfall = 0 := Nat.sub_eq_zero_of_le enough
  simp only [Part.askAgain, none, IssueRecord.askedAgain, Nat.not_lt.mpr enough]
  split <;> rfl

/-- An issue ended with its places returned, in RUNNING or DOZING (R92, R116). -/
theorem Part.endIssue_returns (p : Part) (i : IssueRecord) (c : ResultCode) :
    (p.endIssue i c LedgerRecord.returnReserved).sales = { p.sales with issue := none }
      ∧ (p.endIssue i c LedgerRecord.returnReserved).quota = p.returned i.request.inputs.train
      ∧ (p.endIssue i c LedgerRecord.returnReserved).board = p.board
      ∧ (p.endIssue i c LedgerRecord.returnReserved).line = p.line
      ∧ (p.endIssue i c LedgerRecord.returnReserved).clock = p.clock := by
  rw [Part.endIssue, Part.moveOn_returnReserved]
  simp [Part.clearIssue]

section
variable {l : LedgerRecord} {asker number now : Nat} {before after : List GrantRecord} {g : GrantRecord}
  (grants : l.grants = before ++ g :: after) (others : ∀ x ∈ before, GrantRecord.overdue asker number now x = false)
  (due : g.overdue asker number now = true)
include grants others due

theorem LedgerRecord.find_overdue : l.grants.find? (GrantRecord.overdue asker number now) = some g := by
  have none : before.find? (GrantRecord.overdue asker number now) = none :=
    List.find?_eq_none.mpr fun x hx => by simp [others x hx]
  simp [grants, List.find?_append, none, due]

/-- The first overdue grant becomes DOUBTFUL (R128). -/
theorem LedgerRecord.grantOverdue_eq :
    l.grantOverdue asker number now = { l with
      awaiting := l.awaiting - g.count, doubtful := l.doubtful + g.count,
      grants := before ++ { g with state := .doubtful } :: after } := by
  simp only [LedgerRecord.grantOverdue, LedgerRecord.find_overdue grants others due]
  rw [grants, modifyFirst_append _ _ before after g due others]

/-- The overdue grant at the quota unit: the move, and its notice (R128). -/
theorem Part.grantOverdue_eq {p : Part} {k : TrainKey} (time : p.lineTime = now) (found : p.quota.find k = some l) :
    p.grantOverdue k asker number = (p.moveOn (some k) (fun r => r.grantOverdue asker number now)).post
      (quotaNotice .doubtful (some g.asker) k g.count (l.doubtful + g.count)) := by
  simp [Part.grantOverdue, found, time, LedgerRecord.find_overdue grants others due]

end

/-- ASK TIME at a part that acts (R91). -/
theorem exec_askTime_of_came {s : State} {i : IssueRecord} (came : s.part.askCame = some i) :
    exec .askTime s = .next { s with part := s.part.askAgain i } := by
  have run : exec .askTime s = .next { s with part := match s.part.askCame with
    | none => s.part | some i => s.part.askAgain i } := rfl
  rw [run, came]

/-- ISSUE DEADLINE at a part that acts (R92). -/
theorem exec_issueDeadline_of_came {s : State} {i : IssueRecord} (came : s.part.issueCame = some i) :
    exec .issueDeadline s
      = .next { s with part := s.part.endIssue i .quotaExhausted LedgerRecord.returnReserved } := by
  have run : exec .issueDeadline s = .next { s with part := match s.part.issueCame with
    | none => s.part | some i => s.part.endIssue i .quotaExhausted LedgerRecord.returnReserved } := rfl
  rw [run, came]

/-- Settles O50: each deadline's own operation, its ASK as from the part before. -/
theorem issueAndQuotaDeadlinesAct : Obligations.IssueAndQuotaDeadlinesAct := by
  refine ⟨fun i k s up awake issue named => ⟨fun d time come => ?_, fun come => ?_⟩, fun s up awake => ⟨fun a n => ?_,
    fun k asker number l before g after d found grants others asks numbered awaiting come => ?_⟩⟩
  · refine ⟨_, exec_askTime_of_came (Part.askCame_of_reached up awake issue time come), rfl, ?_⟩
    by_cases short : i.reserved < i.needed
    · let q : Part := { s.part with sales := { s.part.sales with issue := some i.askedAgain } }
      have same : q.OffersAs s.part := ⟨rfl, rfl, rfl, rfl, rfl, rfl, rfl, rfl⟩
      rw [Part.askAgain_short named short, Part.sendAsk_eq q]
      exact ⟨rfl, fun enough => absurd short (Nat.not_lt.mpr enough), fun _ => ⟨same.offer _ _, rfl⟩, rfl⟩
    · rw [Part.askAgain_enough (Nat.not_lt.mp short)]
      exact ⟨rfl, fun _ => ⟨rfl, rfl⟩, fun less => absurd less short, rfl⟩
  · obtain ⟨sales, quota, board, line, clock⟩ := s.part.endIssue_returns i .quotaExhausted
    rw [named] at quota
    refine ⟨_, exec_issueDeadline_of_came (Part.issueCame_of_reached up awake issue come), rfl, sales, quota,
      fun running => ?_, board, line, clock⟩
    rw [Part.endIssue_returnReserved running, named]
    rfl
  · have acting := Part.acting_of_awake up awake
    have run : exec (.watchExpiry a n) s
      = .next { s with part := if s.part.acting then s.part.expireWatch a n else s.part } := rfl
    rw [run, if_pos acting]
    rfl
  · have due : g.overdue asker number s.part.lineTime = true := by
      simp [GrantRecord.overdue, GrantRecord.answers, asks, numbered, awaiting, come]
    have run : exec (.takenDeadline k asker number) s
      = .next { s with part := if s.part.acting then s.part.grantOverdue k asker number else s.part } := rfl
    rw [if_pos (Part.acting_of_awake up awake), Part.grantOverdue_eq grants others due rfl found] at run
    have move := LedgerRecord.grantOverdue_move asker number s.part.lineTime
    refine ⟨_, run, rfl, ?_, fun j other => ?_, fun running => ?_, ?_, ?_, ?_, ?_⟩
    · simp only [Part.post_frame, Part.moveOn]
      rw [s.part.quota.find_modify k _ move.train, found, Option.map_some,
        LedgerRecord.grantOverdue_eq grants others due]
    · simp only [Part.post_frame, Part.moveOn]
      exact s.part.quota.find_modify_other j k _ move.train other
    · rw [Part.post_eq_note _ _ (by simp [running])]
      simp only [Part.note, Part.moveOn, running, asks]
      rfl
    all_goals simp [Part.moveOn]

end Sys2Proof.Machine
end

section
namespace Sys2Proof.Machine

/-! ### What a rise of held makes of an issue in flight (R90, R116) -/

/-- The two parts are alike in all that a sale reads and writes but ledger and notices: sales unit, fare tables, clock,
start record, departure list and line time. -/
structure Part.SellsAs (p q : Part) : Prop where
  sales : q.sales = p.sales
  fares : q.fares = p.fares
  clock : q.clock = p.clock
  record : q.port.record = p.port.record
  board : q.board = p.board
  lineTime : q.lineTime = p.lineTime

theorem Part.SellsAs.fareContext {p q : Part} (same : p.SellsAs q) (i : FareInputs) : q.fareContext i = p.fareContext i := by
  simp only [Part.fareContext, same.fares, same.clock, same.record, same.board]

theorem Part.SellsAs.afterSale {p q : Part} (same : p.SellsAs q) (req : IssueRequest) (r : FareResult) (n : Nat) :
    q.afterSale req r n = p.afterSale req r n := by
  simp only [Part.afterSale, Part.saleRecord, Part.ownNode, same.sales, same.clock, same.record, same.lineTime]

/-- A commit that passes the train check gathers the flags of its computation, however it ends (R82, R96). -/
theorem Part.commit_fares {p : Part} {req : IssueRequest} {needed : Nat} {v : FareVerdict} {f : FareFlags}
    (sold : p.trainOk req.inputs = true) (fare : fareOf (p.fareContext req.inputs) req.inputs = ⟨v, f⟩) :
    (p.commit req needed).1.fares = { p.fares with sticky := p.fares.sticky.union f } := by
  simp only [Part.commit, sold, Part.computeFare_eq fare, Bool.not_true, Bool.false_eq_true, if_false]
  repeat' split
  all_goals simp [Part.clearIssue, Part.gatherFlags]

/-- Why a commit whose train is sellable is refused (R96). -/
def Part.CommitRefused (p : Part) (req : IssueRequest) (needed : Nat) (v : FareVerdict) (code : ResultCode) : Prop :=
  v = .refused code
    ∨ (∃ r, v = .fare r ∧ (r.amount ≠ req.agreed ∨ r.placesNeeded ≠ needed)) ∧ code = .fareChanged
    ∨ (∃ r, v = .fare r ∧ r.amount = req.agreed ∧ r.placesNeeded = needed)
        ∧ (252 ≤ p.sales.journal.length ∨ p.sales.nextNumber = none) ∧ code = .journalFull

theorem Part.commit_sentBack {p : Part} {req : IssueRequest} {needed : Nat} {v : FareVerdict} {f : FareFlags}
    {code : ResultCode} (sold : p.trainOk req.inputs = true)
    (fare : fareOf (p.fareContext req.inputs) req.inputs = ⟨v, f⟩) (refused : p.CommitRefused req needed v code) :
    p.commit req needed = ((p.gatherFlags f).sentBack req.inputs.train, .refused code) := by
  rcases refused with rfl | ⟨⟨r, rfl, other⟩, rfl⟩ | ⟨⟨r, rfl, agreed, places⟩, full, rfl⟩
  · exact Part.commit_refused sold fare
  · exact Part.commit_fareChanged sold fare other
  · exact Part.commit_journalFull sold fare agreed places full

theorem Part.toppedUp_find {q : Part} {k : TrainKey} {l : LedgerRecord} (found : q.quota.find k = some l)
    (i : IssueRecord) : (q.toppedUp k i).quota.find k = some (l.reserve (min i.shortfall l.held)) := by
  have moved := q.quota.find_modify k (fun r => r.reserve (min i.shortfall l.held)) fun _ => rfl
  rw [found, Option.map_some] at moved
  rwa [Part.toppedUp, QuotaUnit.heldOf_of_find found]

theorem LedgerRecord.reserve_of_le {l : LedgerRecord} {k : Nat} (le : k ≤ l.held) :
    l.reserve k = { l with held := l.held - k, reserved := l.reserved + k } := by
  simp [LedgerRecord.reserve, Nat.min_eq_left le]

theorem Part.toppedUp_sellsAs {p q : Part} {k : TrainKey} {l : LedgerRecord} (same : p.SellsAs q)
    (found : q.quota.find k = some l) (i : IssueRecord) : Part.SellsAs
    { p with sales := { p.sales with issue := some { i with reserved := i.reserved + min i.shortfall l.held } } }
    (q.toppedUp k i) := by
  obtain ⟨sales, fares, clock, record, board, lineTime⟩ := same
  refine ⟨?_, fares, clock, record, board, lineTime⟩
  simp only [Part.toppedUp, Part.moveOn, sales, QuotaUnit.heldOf_of_find found]

theorem Part.toppedUp_checks {p q : Part} {k : TrainKey} {i : IssueRecord} {l : LedgerRecord} (same : p.SellsAs q)
    (found : q.quota.find k = some l) (named : i.request.inputs.train = some k) (sell : q.trainSellable k = true)
    {v : FareVerdict} {f : FareFlags} (fare : fareOf (p.fareContext i.request.inputs) i.request.inputs = ⟨v, f⟩) :
    (q.toppedUp k i).trainOk i.request.inputs = true
    ∧ fareOf ((q.toppedUp k i).fareContext i.request.inputs) i.request.inputs = ⟨v, f⟩ := by
  refine ⟨(Part.trainOk_iff _ _).mpr fun j other => ?_, ?_⟩
  · cases named.symm.trans other
    exact sell
  · rw [(Part.toppedUp_sellsAs same found i).fareContext]
    exact fare

section
variable {p q : Part} {k : TrainKey} {i : IssueRecord} {l : LedgerRecord} (same : p.SellsAs q)
  (found : q.quota.find k = some l) (issue : p.sales.issue = some i)
  (named : i.request.inputs.train = some k)
include same found issue named

theorem Part.topUp_waits (lacking : l.held < i.shortfall) : q.topUp k = q.toppedUp k i := by
  have flying : q.sales.issueFor k = some i := by simp [SalesUnit.issueFor, same.sales, issue, named]
  rw [Part.topUp_eq flying, QuotaUnit.heldOf_of_find found, if_neg (Nat.not_le.mpr lacking)]

theorem Part.topUp_commits {o : Part × Commit} (enough : i.shortfall ≤ l.held)
    (commit : (q.toppedUp k i).commit i.request i.needed = o) :
    q.topUp k = o.1.post (commitNotice i.request o.2) := by
  have flying : q.sales.issueFor k = some i := by simp [SalesUnit.issueFor, same.sales, issue, named]
  rw [Part.topUp_eq flying, QuotaUnit.heldOf_of_find found, ← commit, if_pos enough]

variable (sell : q.trainSellable k = true) {v : FareVerdict} {f : FareFlags}
  (fare : fareOf (p.fareContext i.request.inputs) i.request.inputs = ⟨v, f⟩) (enough : i.shortfall ≤ l.held)
include sell fare enough

theorem Part.topUp_fares : (q.topUp k).fares = { p.fares with sticky := p.fares.sticky.union f } := by
  obtain ⟨ok, fare'⟩ := Part.toppedUp_checks same found named sell fare
  have topped := Part.toppedUp_sellsAs same found i
  rw [Part.topUp_commits same found issue named enough rfl]
  simp only [Part.post_frame, Part.commit_fares ok fare', topped.fares]

/-- The top-up that sells (R90, R97, R98). -/
theorem Part.topUp_sold {r : FareResult} {n : Nat} (verdict : v = .fare r) (agreed : r.amount = i.request.agreed)
    (places : r.placesNeeded = i.needed) (some' : 0 < i.needed) (room : p.sales.journal.length < 252)
    (number : p.sales.nextNumber = some n) :
    (q.topUp k).sales = p.afterSale i.request r n
      ∧ (q.topUp k).quota.find k = some (l.reserve (min i.shortfall l.held)).sellReserved
      ∧ (q.notices.entries.length < 64 → ∃ x ∈ (q.topUp k).notices.entries, x.kind = .sale ∧ x.cause = .done
          ∧ x.source = none ∧ x.subject = .ticket ⟨p.clock.salesDay, p.ownNode, p.sales.nextSerial⟩ ∧ x.first = r.amount
          ∧ x.second = n) := by
  subst verdict
  obtain ⟨ok, fare'⟩ := Part.toppedUp_checks same found named sell fare
  have topped := Part.toppedUp_sellsAs same found i
  have find := Part.toppedUp_find found i
  have commit := Part.commit_sold ok fare' agreed places (n := n) (by rw [topped.sales]; exact room)
    (by rw [topped.sales]; exact number)
  rw [Part.topUp_commits same found issue named enough commit, Part.completeSale_eq, if_pos (by omega), named]
  refine ⟨?_, ?_, fun low => ?_⟩
  · simp only [Part.post_frame]
    exact topped.afterSale i.request r n
  · simp only [Part.post_frame]
    exact ((q.toppedUp k i).quota.find_modify k _ LedgerRecord.sellReserved_move.train).trans
      (congrArg (Option.map LedgerRecord.sellReserved) find)
  · refine ⟨_, Part.post_mem _ _ low, rfl, rfl, rfl, ?_, rfl, rfl⟩
    simp only [commitNotice, Part.saleFields, Part.ownNode, Part.gatherFlags, topped.sales, topped.clock, topped.record]
    rfl

/-- The top-up whose commit is refused (R90, R96, R98). -/
theorem Part.topUp_refused {code : ResultCode} (refused : p.CommitRefused i.request i.needed v code) :
    (q.topUp k).sales = { p.sales with issue := none }
      ∧ (q.topUp k).quota.find k = some (l.reserve (min i.shortfall l.held)).returnReserved
      ∧ (q.notices.entries.length < 64 → ∃ x ∈ (q.topUp k).notices.entries, x.kind = .sale ∧ x.cause = .refused
          ∧ x.source = none ∧ x.subject = .train k ∧ x.first = code.code ∧ x.second = i.request.payment) := by
  obtain ⟨ok, fare'⟩ := Part.toppedUp_checks same found named sell fare
  have topped := Part.toppedUp_sellsAs same found i
  have find := Part.toppedUp_find found i
  have commit := Part.commit_sentBack (p := q.toppedUp k i) (needed := i.needed) ok fare' (code := code) (by
    rw [Part.CommitRefused, topped.sales]
    exact refused)
  rw [Part.topUp_commits same found issue named enough commit, Part.sentBack_eq, named]
  refine ⟨?_, ?_, fun low => ?_⟩
  · simp only [Part.post_frame, Part.gatherFlags, topped.sales]
  · simp only [Part.post_frame]
    exact ((q.toppedUp k i).quota.find_modify k _ LedgerRecord.returnReserved_move.train).trans
      (congrArg (Option.map LedgerRecord.returnReserved) find)
  · refine ⟨_, Part.post_mem _ _ low, rfl, rfl, rfl, ?_, rfl, rfl⟩
    simp only [commitNotice, refusedNotice, named]
    rfl

end

/-- A rise of held at an actual part `q`, as the statements say it from a part `p` alike in all a sale reads (R90). -/
theorem Part.topUp_toppedUp {p q : Part} {k : TrainKey} {i : IssueRecord} {l : LedgerRecord} (same : p.SellsAs q)
    (found : q.quota.find k = some l) (issue : p.sales.issue = some i) (named : i.request.inputs.train = some k)
    (sell : q.trainSellable k = true) (places : 0 < i.needed)
    (room : p.notices.entries.length ≤ 60 → q.notices.entries.length < 64) : ToppedUp p i l (q.topUp k) := by
  obtain ⟨-, train⟩ := QuotaUnit.find_some found
  have le : min i.shortfall l.held ≤ l.held := Nat.min_le_right _ _
  subst train
  refine ⟨fun lacking => ?_, fun enough v f fare => ?_⟩
  · rw [Part.topUp_waits same found issue named (by simp only [IssueRecord.shortfall]; omega)]
    have topped := Part.toppedUp_sellsAs same found i
    refine ⟨topped.sales, topped.fares, ?_⟩
    rw [Part.toppedUp_find found i, LedgerRecord.reserve_of_le le]
    rfl
  · have enough' : i.shortfall ≤ l.held := by simp only [IssueRecord.shortfall]; omega
    refine ⟨Part.topUp_fares same found issue named sell fare enough',
      fun r n verdict agreed need journal number => ?_, fun code refused => ?_⟩
    · obtain ⟨sales, find, notice⟩ := Part.topUp_sold same found issue named sell fare enough' verdict agreed need places
        journal number
      refine ⟨sales, ?_, fun low => notice (room low)⟩
      rw [find, LedgerRecord.reserve_of_le le]
      rfl
    · obtain ⟨sales, find, notice⟩ := Part.topUp_refused same found issue named sell fare enough' refused
      refine ⟨sales, ?_, fun low => notice (room low)⟩
      rw [find, LedgerRecord.reserve_of_le le]
      rfl

end Sys2Proof.Machine
end

section
namespace Sys2Proof.Machine

/-! ### What a top-up leaves (R90, R97) -/

/-- Going from `p` to `q` no quota record but that of one train changes, no record leaves the journal, and the voids of
the day stand. -/
structure Part.SalesGrow (p q : Part) (k : TrainKey) : Prop where
  others : ∀ j, j ≠ k → q.quota.find j = p.quota.find j
  quota : q.quota = { p.quota with ledger := q.quota.ledger }
  journal : p.sales.journal <+: q.sales.journal
  voids : q.sales.totals.voids = p.sales.totals.voids
  voidSum : q.sales.totals.voidSum = p.sales.totals.voidSum

namespace Part.SalesGrow

variable {p q r : Part} {k : TrainKey}

theorem refl (p : Part) (k : TrainKey) : p.SalesGrow p k := ⟨fun _ _ => rfl, rfl, ⟨[], List.append_nil _⟩, rfl, rfl⟩

theorem trans (a : p.SalesGrow q k) (b : q.SalesGrow r k) : p.SalesGrow r k where
  others j other := (b.others j other).trans (a.others j other)
  quota := by rw [b.quota, a.quota]
  journal := a.journal.trans b.journal
  voids := b.voids.trans a.voids
  voidSum := b.voidSum.trans a.voidSum

/-- A step that leaves the quota unit, and journal and totals. -/
theorem of_same (quota : q.quota = p.quota) (journal : q.sales.journal = p.sales.journal)
    (totals : q.sales.totals = p.sales.totals) : p.SalesGrow q k :=
  ⟨fun j _ => by rw [quota], by rw [quota], by rw [journal], by rw [totals], by rw [totals]⟩

end Part.SalesGrow

theorem Part.moveOn_salesGrow (p : Part) (k : TrainKey) {f : LedgerRecord → LedgerRecord} (move : LedgerRecord.Move f) :
    p.SalesGrow (p.moveOn (some k) f) k :=
  ⟨fun j other => p.quota.find_modify_other j k f move.train other, rfl, ⟨[], List.append_nil _⟩, rfl, rfl⟩

theorem Part.completeSale_salesGrow (p : Part) (req : IssueRequest) (r : FareResult) (n : Nat) {k : TrainKey}
    (named : req.inputs.train = some k) : p.SalesGrow (p.completeSale req r n) k := by
  rw [Part.completeSale_eq, named]
  refine Part.SalesGrow.trans (q := { p with sales := p.afterSale req r n }) ?_ ?_
  · exact ⟨fun _ _ => rfl, rfl, ⟨_, rfl⟩, rfl, rfl⟩
  · split
    · exact Part.moveOn_salesGrow { p with sales := p.afterSale req r n } k LedgerRecord.sellReserved_move.toMove
    · exact .refl _ _

theorem Part.commit_salesGrow (p : Part) (req : IssueRequest) (needed : Nat) {k : TrainKey}
    (named : req.inputs.train = some k) : p.SalesGrow (p.commit req needed).1 k := by
  have fare : p.SalesGrow (p.computeFare req.inputs).1 k := .of_same rfl rfl rfl
  have ends : ∀ (q : Part) {f}, LedgerRecord.Move f → q.SalesGrow (q.moveOn req.inputs.train f).clearIssue k := by
    intro q f move
    rw [named]
    exact (q.moveOn_salesGrow k move).trans (.of_same rfl rfl rfl)
  have back := ends (p.computeFare req.inputs).1 LedgerRecord.returnReserved_move.toMove
  simp only [Part.commit]
  split
  · exact ends p LedgerRecord.lapseReserved_move.toMove
  split
  · exact fare.trans back
  split
  · exact fare.trans back
  split
  · exact fare.trans back
  · exact fare.trans (Part.completeSale_salesGrow _ _ _ _ named)

theorem Part.topUp_salesGrow (p : Part) (k : TrainKey) : p.SalesGrow (p.topUp k) k := by
  cases flying : p.sales.issueFor k with
  | none => simp only [Part.topUp, flying]; exact .refl p k
  | some i =>
    have topped : p.SalesGrow (p.toppedUp k i) k :=
      (p.moveOn_salesGrow k (LedgerRecord.reserve_move _)).trans (.of_same rfl rfl rfl)
    rw [Part.topUp_eq flying]
    dsimp only
    split
    · have committed := Part.commit_salesGrow (p.toppedUp k i) i.request i.needed (SalesUnit.issueFor_eq_some flying).2
      exact (topped.trans committed).trans (.of_same (by simp) (by simp) (by simp))
    · exact topped

/-- Without an issue in flight for the train a rise of held moves nothing (R90). -/
theorem Part.topUp_idle {p : Part} {k : TrainKey} (idle : ∀ i, p.sales.issue = some i → i.request.inputs.train ≠ some k) :
    p.topUp k = p := by
  have none : p.sales.issueFor k = none := by
    cases flying : p.sales.issueFor k with
    | none => rfl
    | some i =>
      obtain ⟨issue, named⟩ := SalesUnit.issueFor_eq_some flying
      exact absurd named (idle i issue)
  simp only [Part.topUp, none]

/-! ### The checks of a VOID (R100) -/

theorem JournalRecord.sells_eq_some {ref : TicketRef} {r : JournalRecord} {f : SaleFields} :
    r.sells ref = some f ↔ r.sale? = some f ∧ f.ticket.ref = ref := by
  simp only [JournalRecord.sells, JournalRecord.sale?]
  split
  · next g _ =>
    split
    · next same =>
      constructor
      · rintro ⟨⟩; exact ⟨rfl, same⟩
      · rintro ⟨⟨⟩, -⟩; rfl
    · next other =>
      constructor
      · rintro ⟨⟩
      · rintro ⟨⟨⟩, same⟩; exact absurd same other
  · constructor
    · rintro ⟨⟩
    · rintro ⟨⟨⟩, -⟩

theorem SalesUnit.isSome_findSale_iff (s : SalesUnit) (ref : TicketRef) :
    (s.journal.findSome? (JournalRecord.sells ref)).isSome = true
      ↔ ∃ f ∈ s.journal.filterMap JournalRecord.sale?, f.ticket.ref = ref := by
  rw [List.findSome?_isSome_iff]
  simp only [Option.isSome_iff_exists, JournalRecord.sells_eq_some, List.mem_filterMap]
  constructor
  · rintro ⟨r, hr, f, sale, same⟩; exact ⟨f, ⟨r, hr, sale⟩, same⟩
  · rintro ⟨f, ⟨r, hr, sale⟩, same⟩; exact ⟨r, hr, f, sale, same⟩

theorem SalesUnit.newestSale_iff (s : SalesUnit) (ref : TicketRef) :
    s.newestSale.map (fun g => g.ticket.ref) = some ref
      ↔ ∃ f ∈ (s.journal.filterMap JournalRecord.sale?).getLast?, f.ticket.ref = ref := by
  rw [SalesUnit.newestSale, Option.map_eq_some_iff]
  rfl

theorem SalesUnit.any_voids_iff (s : SalesUnit) (ref : TicketRef) :
    s.journal.any (JournalRecord.voids ref) = true
      ↔ ∃ j ∈ s.journal, ∃ k a, j.body = .void k a ∧ k.ref = ref := by
  simp only [List.any_eq_true]
  refine exists_congr fun j => and_congr_right fun _ => ?_
  simp only [JournalRecord.voids]
  split
  · next body => simp [body]
  · next other => exact ⟨fun h => absurd h (by simp), fun ⟨t, a, body, _⟩ => (other t a body).elim⟩

theorem Part.inVoidWindow_iff (p : Part) (ref : TicketRef) :
    p.inVoidWindow ref = true
      ↔ ∃ w ∈ p.sales.voidWindow, w.ticket.ref = ref ∧ p.lineTime - w.committed ≤ 120000 := by
  simp only [Part.inVoidWindow]
  split <;> simp [*]

/-- The newest sale is a sale of the journal. -/
theorem known_of_newest {l : List SaleFields} {ref : TicketRef} (newest : ∃ f ∈ l.getLast?, f.ticket.ref = ref) :
    ∃ f ∈ l, f.ticket.ref = ref := by
  obtain ⟨f, last, same⟩ := newest
  exact ⟨f, List.mem_of_getLast? last, same⟩

/-- Each check of R100 in its order gives its reason. -/
theorem Part.voidable_iff (ref : TicketRef) (p : Part) :
    let sales := p.sales.journal.filterMap JournalRecord.sale?
    let known := ∃ f ∈ sales, f.ticket.ref = ref
    let newest := ∃ f ∈ sales.getLast?, f.ticket.ref = ref
    let voided := ∃ j ∈ p.sales.journal, ∃ k a, j.body = .void k a ∧ k.ref = ref
    let inTime := ∃ w ∈ p.sales.voidWindow, w.ticket.ref = ref ∧ p.lineTime - w.committed ≤ 120000
    (p.voidable ref = .inr .notFound ↔ ¬ known)
      ∧ (p.voidable ref = .inr .notNewest ↔ known ∧ ¬ newest)
      ∧ (p.voidable ref = .inr .alreadyVoid ↔ newest ∧ voided)
      ∧ (p.voidable ref = .inr .tooLate ↔ newest ∧ ¬ voided ∧ ¬ inTime)
      ∧ ((∃ f, p.voidable ref = .inl f) ↔ newest ∧ ¬ voided ∧ inTime) := by
  intro sales known newest voided inTime
  have isKnown : _ ↔ known := p.sales.isSome_findSale_iff ref
  have isNewest : _ ↔ newest := p.sales.newestSale_iff ref
  have isVoided : _ ↔ voided := p.sales.any_voids_iff ref
  have isInTime : _ ↔ inTime := p.inVoidWindow_iff ref
  have first : newest → known := known_of_newest
  simp only [Part.voidable]
  clear_value known newest voided inTime
  split
  · next none =>
    have unknown : ¬ known := by simpa [none] using isKnown.not.mp
    have other : ¬ newest := fun h => unknown (first h)
    simp [unknown, other]
  · next f found =>
    have isOne : known := isKnown.mp (by simp [found])
    split
    · next old =>
      have old : ¬ newest := isNewest.not.mp old
      simp [isOne, old]
    · next new =>
      have new : newest := isNewest.mp (Classical.not_not.mp new)
      split
      · next twice => simp [isOne, new, isVoided.mp twice]
      · next once =>
        have once : ¬ voided := isVoided.not.mp once
        split
        · next late =>
          have late : ¬ inTime := isInTime.not.mp (by simpa using late)
          simp [isOne, new, once, late]
        · next soon =>
          have soon : inTime := isInTime.mp (by simpa using soon)
          simp [isOne, new, once, soon]

/-! ### VOID (R101) -/

/-- The quota unit once the places of a voided sale have come back (R101, R117). -/
def Part.unsold (p : Part) (f : SaleFields) : QuotaUnit :=
  match f.train with
  | none => p.quota
  | some k =>
    if f.placesUsed = 0 then p.quota
    else if p.trainSellable k = true then
      p.quota.modify k (fun l => { l with
        sold := l.sold - min f.placesUsed l.sold, held := l.held + min f.placesUsed l.sold })
    else
      p.quota.modify k (fun l => { l with
        sold := l.sold - min f.placesUsed l.sold, lapsed := l.lapsed + min f.placesUsed l.sold })

theorem Part.unsellPlaces_eq (p : Part) (f : SaleFields) : p.unsellPlaces f = { p with quota := p.unsold f } := by
  simp only [Part.unsellPlaces, Part.unsold]
  cases f.train with
  | none => rfl
  | some k =>
    dsimp only
    split
    · rfl
    · cases p.trainSellable k <;> rfl

/-- The part after the first three steps of a VOID (R101). -/
def Part.tookBack (p : Part) (f : SaleFields) (n : Nat) : Part :=
  { p with sales := p.voidNoted f n, quota := p.unsold f }

theorem Part.voidSale_eq_tookBack (p : Part) (f : SaleFields) (n : Nat) :
    p.voidSale f n = ((p.tookBack f n).topUpAfterVoid f).clearWindow := by
  rw [Part.voidSale_eq, Part.unsellPlaces_eq]
  rfl

theorem Part.topUpAfterVoid_idle {p : Part} {f : SaleFields} (idle : p.sales.issue = none) : p.topUpAfterVoid f = p := by
  simp only [Part.topUpAfterVoid]
  split
  · rfl
  split
  · exact Part.topUp_idle (by simp [idle])
  · rfl

theorem Part.topUpAfterVoid_grows (p : Part) (f : SaleFields) : ∃ k, p.SalesGrow (p.topUpAfterVoid f) k := by
  simp only [Part.topUpAfterVoid]
  split
  · exact ⟨⟨0, 0⟩, .refl _ _⟩
  next k _ =>
    refine ⟨k, ?_⟩
    split
    · exact p.topUp_salesGrow k
    · exact .refl _ _

theorem Part.topUpAfterVoid_port (p : Part) (f : SaleFields) : (p.topUpAfterVoid f).port = p.port := by
  simp only [Part.topUpAfterVoid]
  (repeat' split) <;> simp

section
variable {p : Part} {ref : TicketRef} (sells : p.roles.sells = true)
include sells

theorem Part.answerVoid_refused {reason : VoidReason} (fails : p.voidable ref = .inr reason) :
    p.answerVoid ref = (p, ⟨.voidRefused, .voidReason reason⟩) := by
  simp [Part.answerVoid, sells, fails]

variable {f : SaleFields} (passes : p.voidable ref = .inl f)
include passes

theorem Part.answerVoid_journalFull (full : 252 ≤ p.sales.journal.length ∨ p.sales.nextNumber = none) :
    p.answerVoid ref = p.refuse .journalFull := by
  simp [Part.answerVoid, sells, passes, SalesUnit.spaceFor_of_full full]

theorem Part.answerVoid_voided {n : Nat} (room : p.sales.journal.length < 252) (number : p.sales.nextNumber = some n) :
    p.answerVoid ref = (p.voidSale f n, ⟨.done, .voidDone n⟩) := by
  simp [Part.answerVoid, sells, passes, SalesUnit.spaceFor_of_room room number]

end

section
variable {p : Part} {f : SaleFields} {k : TrainKey} {l : LedgerRecord} (train : f.train = some k)
  (places : f.placesUsed ≠ 0) (sell : p.trainSellable k = true)
include train places sell

theorem Part.unsold_find (found : p.quota.find k = some l) : (p.unsold f).find k = some { l with
    sold := l.sold - min f.placesUsed l.sold, held := l.held + min f.placesUsed l.sold } := by
  simp only [Part.unsold, train, places, sell, if_true, if_false]
  have moved := p.quota.find_modify k _ (LedgerRecord.unsell_move f.placesUsed true).train
  rw [found] at moved
  exact moved

theorem Part.unsold_find_other {j : TrainKey} (other : j ≠ k) : (p.unsold f).find j = p.quota.find j := by
  simp only [Part.unsold, train, places, sell, if_true, if_false]
  exact p.quota.find_modify_other j k _ (fun _ => rfl) other

/-- The places of a VOID that come back to held fill an issue of their train (R90, R101). -/
theorem Part.topUpAfterVoid_tookBack (n : Nat) (found : p.quota.find k = some l) :
    (p.tookBack f n).topUpAfterVoid f = (p.tookBack f n).topUp k := by
  have risen : ((p.tookBack f n).quota.find k).isSome = true := by
    simp [Part.tookBack, Part.unsold_find train places sell found]
  have sell' : (p.tookBack f n).trainSellable k = true := sell
  simp [Part.topUpAfterVoid, train, Nat.pos_of_ne_zero places, risen, sell']

end

/-- Settles O35: the checks in their order, and the four steps of an accepted VOID. -/
theorem voidIsCheckedAndTakesTheSaleBack : Obligations.VoidIsCheckedAndTakesTheSaleBack := by
  refine ⟨fun ref s attentive fits => ⟨fun other => ?_, fun sells => ⟨fun reason fails => ?_, fun f passes full => ?_,
    fun f n passes room number => ?_⟩⟩, Part.voidable_iff⟩
  · refine attentive.exec_refused (.void ref) rfl fits rfl ?_
    simp [Part.answerVoid, show s.part.afterTaking.roles.sells = false from other]
  · exact attentive.exec_answered (.void ref) rfl fits rfl
      (Part.answerVoid_refused (p := s.part.afterTaking) sells fails) rfl
  · exact attentive.exec_refused (.void ref) rfl fits rfl
      (Part.answerVoid_journalFull (p := s.part.afterTaking) sells passes full)
  · let p := s.part.afterTaking
    have answer := Part.answerVoid_voided (p := p) sells passes room number
    rw [Part.voidSale_eq_tookBack] at answer
    obtain ⟨_, grows⟩ := (p.tookBack f n).topUpAfterVoid_grows f
    refine ⟨_, attentive.exec_answered (.void ref) rfl fits rfl answer ((p.tookBack f n).topUpAfterVoid_port f), rfl, rfl,
      grows.journal, rfl, grows.voids, grows.voidSum, fun idle => ?_, fun i k l issue named needs train places sell found => ?_⟩
    · have idle' : (p.tookBack f n).sales.issue = none := idle
      rw [Part.topUpAfterVoid_idle idle']
      rfl
    · have found' := Part.unsold_find (p := p) train places sell found
      rw [Part.topUpAfterVoid_tookBack (p := p) train places sell n found]
      have same : Part.SellsAs { s.part with sales := s.part.voidNoted f n } (p.tookBack f n) :=
        ⟨rfl, rfl, rfl, rfl, rfl, rfl⟩
      refine ⟨_, Part.topUp_toppedUp same found' issue named sell needs (fun low => Nat.lt_of_le_of_lt low (by omega)),
        rfl, rfl, rfl, rfl, fun j other => ?_⟩
      exact (((p.tookBack f n).topUp_salesGrow k).others j other).trans
        (Part.unsold_find_other (p := p) train places sell other)

end Sys2Proof.Machine
end

section
namespace Sys2Proof.Machine

/-! ### A notice that wakes nothing (R166, R174) -/

/-- A notice of no wake kind, with room for it, is the one notice that joins the queue. -/
theorem Part.post_posts_one {p q : Part} {n : Notice} (same : q.notices = p.notices) (quiet : n.isWake = false)
    (room : p.notices.entries.length < 64) : p.Posts (q.post n) 1 := by
  have report : q.notices.wakeReport n = none := by simp [NoticeQueue.wakeReport, same, room, quiet]
  simp only [Part.post, report]
  exact Part.Posts.trans (.of_same same) (q.note_posts n)

theorem Part.acceptFrame_posts_one (p : Part) (sender seq : Nat) (room : p.notices.entries.length < 64) :
    p.Posts (p.acceptFrame sender seq) 1 := by
  simp only [Part.acceptFrame]
  split
  · exact (Part.Posts.of_same rfl).mono (by omega)
  split
  · exact (Part.Posts.of_same rfl).mono (by omega)
  · exact Part.post_posts_one rfl rfl room

theorem Part.acceptGrant_posts_one (p : Part) (sender : Nat) (g : GrantPayload) (toHeld : Bool)
    (room : p.notices.entries.length < 64) : p.Posts (p.acceptGrant sender g toHeld) 1 := by
  simp only [Part.acceptGrant]
  exact Part.post_posts_one rfl rfl room

/-- A notice posted leaves a part that listens listening: a wake is from DOZING to RUNNING. -/
theorem Part.post_awake (p : Part) (n : Notice) : (p.post n).awake = p.awake := by
  simp only [Part.post]
  split
  · rfl
  split
  · next dozing =>
    have dozing : p.doze.state = .dozing := dozing
    simp [Part.awake, Part.wake_state, dozing]
  · rfl

theorem Part.acceptFrame_awake (p : Part) (sender seq : Nat) : (p.acceptFrame sender seq).awake = p.awake := by
  simp only [Part.acceptFrame]
  split
  · rfl
  split
  · rfl
  · rw [Part.post_awake]; rfl

theorem Part.acceptGrant_awake (p : Part) (sender : Nat) (g : GrantPayload) (toHeld : Bool) :
    (p.acceptGrant sender g toHeld).awake = p.awake := by
  rw [Part.acceptGrant, Part.post_awake]
  rfl

theorem Part.topUp_awake (p : Part) (k : TrainKey) : (p.topUp k).awake = p.awake := by
  simp only [Part.topUp]
  split
  · rfl
  split
  · rw [Part.post_awake]
    simp [Part.awake]
  · rfl

theorem Part.commit_edition (p : Part) (req : IssueRequest) (needed : Nat) :
    (p.commit req needed).1.fares.edition = p.fares.edition := by
  simp only [Part.commit]
  repeat' split
  all_goals simp [Part.clearIssue, Part.computeFare, Part.gatherFlags]

theorem Part.topUp_edition (p : Part) (k : TrainKey) : (p.topUp k).fares.edition = p.fares.edition := by
  simp only [Part.topUp]
  split
  · rfl
  split
  · simp only [Part.post_frame, Part.commit_edition]
    rfl
  · rfl

/-! ### A GRANT for this node (R120, R121) -/

theorem AskRecord.isFor_eq (number : Nat) (k : TrainKey) :
    AskRecord.isFor number k = fun a => decide (a.number = number ∧ a.train = k) := by
  funext a
  simp [AskRecord.isFor]

section
variable {p : Part} {sender : Nat} {g : GrantPayload}

theorem Part.takeGrant_unasked (none : ∀ a ∈ p.quota.asks, ¬ (a.number = g.number ∧ a.train = g.train)) :
    p.takeGrant sender g = p.ignoreGrant := by
  have absent : p.quota.asks.find? (AskRecord.isFor g.number g.train) = Option.none := by
    rw [AskRecord.isFor_eq]
    exact List.find?_eq_none.mpr fun a ha => by simpa using none a ha
  simp only [Part.takeGrant, absent]

variable {a : AskRecord} (asked : p.quota.asks.find? (fun a => a.number = g.number ∧ a.train = g.train) = some a)
include asked

theorem Part.takeGrant_repeated {x : Taking} (taken : a.takings.find? (fun x => x.granter = sender) = some x) :
    p.takeGrant sender g = p.sendTaken sender g.number g.train x.count := by
  rw [← AskRecord.isFor_eq] at asked
  simp only [Part.takeGrant, asked, taken]

variable (new : ∀ x ∈ a.takings, x.granter ≠ sender) {l : LedgerRecord} (found : p.quota.find g.train = some l)
include new found

theorem Part.takeGrant_ignored (beyond : p.trainLinked g.train = false ∨ 99 < l.share + l.received + g.count) :
    p.takeGrant sender g = p.ignoreGrant := by
  have untaken : a.takings.find? (fun x => x.granter = sender) = none :=
    List.find?_eq_none.mpr fun x hx => by simpa using new x hx
  rw [← AskRecord.isFor_eq] at asked
  simp only [Part.takeGrant, asked, untaken, found]
  rcases beyond with unlinked | high
  · simp [unlinked]
  · simp [high]

/-- A GRANT taken: its places received, an issue they reach filled, and the TAKEN offered (R120, R121). -/
theorem Part.takeGrant_taken (linked : p.trainLinked g.train = true) (within : l.share + l.received + g.count ≤ 99) :
    p.takeGrant sender g = (if p.trainSellable g.train then (p.acceptGrant sender g true).topUp g.train
      else p.acceptGrant sender g false).sendTaken sender g.number g.train g.count := by
  have untaken : a.takings.find? (fun x => x.granter = sender) = none :=
    List.find?_eq_none.mpr fun x hx => by simpa using new x hx
  rw [← AskRecord.isFor_eq] at asked
  simp only [Part.takeGrant, asked, untaken, found, linked, Nat.not_lt.mpr within]
  cases p.trainSellable g.train <;> rfl

end

/-- What the acceptance of a frame leaves besides: sales unit, draws and whether the part listens. -/
theorem Part.acceptFrame_offersAs (p : Part) (sender seq : Nat) : (p.acceptFrame sender seq).OffersAs p :=
  ⟨by simp, by simp, p.acceptFrame_awake sender seq, by simp, by simp, by simp, by simp, by simp⟩

theorem Part.acceptFrame_sellsAs (p : Part) (sender seq : Nat) : p.SellsAs (p.acceptFrame sender seq) :=
  ⟨by simp, by simp, by simp, by simp, by simp, by simp⟩

/-- A GRANT frame that the part hears goes to the quota unit of the part that accepted the frame (R120, R124, R136). -/
theorem exec_grant_heard {sender seq : Nat} {g : GrantPayload} {s : State} (hears : s.part.Hears sender seq)
    (ok : (Payload.grant g).ok = true) :
    exec (.grant (.clean sender seq g)) s
      = .next ⟨(s.part.acceptFrame sender seq).hearGrant sender g, s.pending⟩ := by
  have whole : (LineFrame.mk sender seq (.grant g)).ok = true := by
    obtain ⟨-, -, low, high, byte, -⟩ := hears
    simp [LineFrame.ok, isNode, isByte, low, high, byte, ok]
  rw [exec_of_frameOf (f := ⟨sender, seq, .grant g⟩) rfl s hears.1, Part.receiveFrame_of_ok _ whole,
    Part.receiveGood_of_hears (f := ⟨sender, seq, .grant g⟩) hears, Part.deliver]

theorem LedgerRecord.receive_train (r : LedgerRecord) (count : Nat) (toHeld : Bool) :
    (r.receive count toHeld).train = r.train := by
  cases toHeld <;> rfl

section
variable (p : Part) (sender : Nat) (g : GrantPayload) (toHeld : Bool)

theorem Part.acceptGrant_quota : (p.acceptGrant sender g toHeld).quota = { p.quota.modify g.train
    (fun r => r.receive g.count toHeld) with
      asks := modifyFirst (AskRecord.isFor g.number g.train) (AskRecord.addTaking sender g.count) p.quota.asks } := by
  simp only [Part.acceptGrant, Part.post_frame]
  rfl

theorem Part.acceptGrant_find {l : LedgerRecord} (found : p.quota.find g.train = some l) :
    (p.acceptGrant sender g toHeld).quota.find g.train = some (l.receive g.count toHeld) := by
  have moved := p.quota.find_modify g.train _ (fun r => r.receive_train g.count toHeld)
  rw [found] at moved
  rw [Part.acceptGrant_quota]
  exact moved

theorem Part.acceptGrant_find_other {k : TrainKey} (other : k ≠ g.train) :
    (p.acceptGrant sender g toHeld).quota.find k = p.quota.find k := by
  rw [Part.acceptGrant_quota]
  exact p.quota.find_modify_other k g.train _ (fun r => r.receive_train g.count toHeld) other

theorem Part.acceptGrant_offersAs : (p.acceptGrant sender g toHeld).OffersAs p :=
  ⟨by simp, by simp, p.acceptGrant_awake sender g toHeld, by simp, by simp, by simp, by simp, by simp⟩

theorem Part.acceptGrant_sellsAs : p.SellsAs (p.acceptGrant sender g toHeld) :=
  ⟨by simp, by simp, by simp, by simp, by simp, by simp⟩

end

theorem Part.topUp_offersAs (p : Part) (k : TrainKey) : (p.topUp k).OffersAs p :=
  ⟨by simp, by simp, p.topUp_awake k, by simp, by simp, by simp, by simp, p.topUp_edition k⟩

theorem Part.OffersAs.trans {p q r : Part} (a : p.OffersAs q) (b : q.OffersAs r) : p.OffersAs r :=
  ⟨a.line.trans b.line, a.lineTime.trans b.lineTime, a.awake.trans b.awake, a.draws.trans b.draws,
    a.record.trans b.record, a.clock.trans b.clock, a.timetable.trans b.timetable, a.fare.trans b.fare⟩

theorem Part.SellsAs.trans {p q r : Part} (a : p.SellsAs q) (b : q.SellsAs r) : p.SellsAs r :=
  ⟨b.sales.trans a.sales, b.fares.trans a.fares, b.clock.trans a.clock, b.record.trans a.record,
    b.board.trans a.board, b.lineTime.trans a.lineTime⟩

/-- What a top-up says of a part it says of every part with the same sales unit, fares, quota unit and notices. -/
theorem ToppedUp.congr {p q q' : Part} {i : IssueRecord} {l : LedgerRecord} (topped : ToppedUp p i l q)
    (sales : q'.sales = q.sales) (fares : q'.fares = q.fares) (quota : q'.quota = q.quota)
    (notices : q'.notices = q.notices) : ToppedUp p i l q' := by
  simpa only [ToppedUp, sales, fares, quota, notices] using topped

/-- The part once a GRANT's places are received, and an issue they reach is filled (R90, R120). -/
def Part.filled (p : Part) (sender : Nat) (g : GrantPayload) : Part :=
  if p.trainSellable g.train then (p.acceptGrant sender g true).topUp g.train else p.acceptGrant sender g false

section
variable (p : Part) (sender : Nat) (g : GrantPayload)

theorem Part.filled_offersAs : (p.filled sender g).OffersAs p := by
  simp only [Part.filled]
  split
  · exact (Part.topUp_offersAs _ _).trans (p.acceptGrant_offersAs sender g true)
  · exact p.acceptGrant_offersAs sender g false

theorem Part.filled_frame : (p.filled sender g).board = p.board ∧ (p.filled sender g).clock = p.clock := by
  simp only [Part.filled]
  split <;> simp

theorem Part.filled_asks : (p.filled sender g).quota.asks
    = modifyFirst (AskRecord.isFor g.number g.train) (AskRecord.addTaking sender g.count) p.quota.asks := by
  have accepted : ∀ toHeld, (p.acceptGrant sender g toHeld).quota.asks
      = modifyFirst (AskRecord.isFor g.number g.train) (AskRecord.addTaking sender g.count) p.quota.asks :=
    fun toHeld => by rw [Part.acceptGrant_quota]
  simp only [Part.filled]
  split
  · rw [((p.acceptGrant sender g true).topUp_salesGrow g.train).quota]
    exact accepted true
  · exact accepted false

theorem Part.filled_find_other {k : TrainKey} (other : k ≠ g.train) :
    (p.filled sender g).quota.find k = p.quota.find k := by
  simp only [Part.filled]
  split
  · exact (((p.acceptGrant sender g true).topUp_salesGrow g.train).others k other).trans
      (p.acceptGrant_find_other sender g true other)
  · exact p.acceptGrant_find_other sender g false other

variable {p} {l : LedgerRecord} (found : p.quota.find g.train = some l)
include found

theorem Part.filled_unsellable (unsold : p.trainSellable g.train = false) :
    (p.filled sender g).quota.find g.train
        = some { l with received := l.received + g.count, lapsed := l.lapsed + g.count }
      ∧ (p.filled sender g).sales = p.sales ∧ (p.filled sender g).fares = p.fares := by
  simp only [Part.filled, unsold]
  exact ⟨p.acceptGrant_find sender g false found, by simp, by simp⟩

variable (sold : p.trainSellable g.train = true)
include sold

theorem Part.filled_idle (idle : ∀ i, p.sales.issue = some i → i.request.inputs.train ≠ some g.train) :
    (p.filled sender g).quota.find g.train
        = some { l with received := l.received + g.count, held := l.held + g.count }
      ∧ (p.filled sender g).sales = p.sales ∧ (p.filled sender g).fares = p.fares := by
  have sales : (p.acceptGrant sender g true).sales = p.sales := by simp
  have still : p.filled sender g = p.acceptGrant sender g true := by
    rw [Part.filled, if_pos sold]
    exact Part.topUp_idle (by rwa [sales])
  rw [still]
  exact ⟨p.acceptGrant_find sender g true found, by simp, by simp⟩

theorem Part.filled_toppedUp {p' : Part} (same : p'.SellsAs p) {i : IssueRecord} (issue : p'.sales.issue = some i)
    (named : i.request.inputs.train = some g.train) (places : 0 < i.needed)
    (room : p'.notices.entries.length ≤ 60 → p.notices.entries.length ≤ 61) :
    ToppedUp p' i { l with received := l.received + g.count, held := l.held + g.count } (p.filled sender g) := by
  rw [Part.filled, if_pos sold]
  have sell : (p.acceptGrant sender g true).trainSellable g.train = true := by
    rw [Part.trainSellable, (p.acceptGrant_sellsAs sender g true).board]
    exact sold
  refine Part.topUp_toppedUp (same.trans (p.acceptGrant_sellsAs sender g true)) (p.acceptGrant_find sender g true found)
    issue named sell places fun low => ?_
  have posts := p.acceptGrant_posts_one sender g true (Nat.lt_of_le_of_lt (room low) (by omega))
  have := posts.length
  have := room low
  omega

end

theorem Part.ownNode_of_record {p q : Part} (record : q.port.record = p.port.record) : q.ownNode = p.ownNode := by
  simp only [Part.ownNode, record]

/-- The part after a frame accepted, with its notices (R138). -/
theorem Part.acceptFrame_room (p : Part) (sender seq : Nat) (low : p.notices.entries.length ≤ 60) :
    (p.acceptFrame sender seq).notices.entries.length ≤ 61 :=
  (p.acceptFrame_posts_one sender seq (by omega)).length.trans (by omega)

theorem Part.SellsAs.train {p q : Part} (same : p.SellsAs q) (k : TrainKey) :
    q.trainLinked k = p.trainLinked k ∧ q.trainSellable k = p.trainSellable k := by
  simp only [Part.trainLinked, Part.trainSellable, same.board, and_self]

/-- A GRANT for the part that accepted its frame, taken and confirmed. -/
theorem Part.takeGrant_filled {p : Part} {sender : Nat} {g : GrantPayload} {a : AskRecord} {l : LedgerRecord}
    (asked : p.quota.asks.find? (fun a => a.number = g.number ∧ a.train = g.train) = some a)
    (new : ∀ x ∈ a.takings, x.granter ≠ sender) (found : p.quota.find g.train = some l)
    (linked : p.trainLinked g.train = true) (within : l.share + l.received + g.count ≤ 99) :
    (p.takeGrant sender g).quota = (p.filled sender g).quota ∧ (p.takeGrant sender g).sales = (p.filled sender g).sales
      ∧ (p.takeGrant sender g).fares = (p.filled sender g).fares
      ∧ (p.takeGrant sender g).notices = (p.filled sender g).notices
      ∧ (p.takeGrant sender g).line = (p.offer .urgent (.taken ⟨sender, g.number, g.train, g.count⟩)).line := by
  rw [Part.takeGrant_taken asked new found linked within, ← Part.filled]
  exact ⟨by simp, by simp, by simp, by simp, (p.filled_offersAs sender g).offer _ _⟩

/-- A GRANT ignored is counted (R120). -/
theorem Part.ignoreGrant_counts (p : Part) :
    p.ignoreGrant.quota = { p.quota with ignoredGrants := min (p.quota.ignoredGrants + 1) 65535 }
      ∧ p.ignoreGrant.line = p.line ∧ p.ignoreGrant.sales = p.sales := ⟨rfl, rfl, rfl⟩

theorem Part.takeGrant_confirms {p : Part} {sender : Nat} {g : GrantPayload} {a : AskRecord} {x : Taking}
    (asked : p.quota.asks.find? (fun a => a.number = g.number ∧ a.train = g.train) = some a)
    (taken : a.takings.find? (fun x => x.granter = sender) = some x) :
    (p.takeGrant sender g).quota = p.quota ∧ (p.takeGrant sender g).sales = p.sales
      ∧ (p.takeGrant sender g).line = (p.offer .urgent (.taken ⟨sender, g.number, g.train, x.count⟩)).line := by
  rw [Part.takeGrant_repeated asked taken]
  exact ⟨by simp, by simp, rfl⟩

/-! ### A GRANT between two other nodes (R124) -/

/-- The part with heard-granted raised in its watch record of an ask (R124). -/
def Part.watchRaised (p : Part) (asker number heard : Nat) : Part :=
  { p with quota := { p.quota with
      watch := modifyFirst (WatchRecord.isFor asker number) (fun w => { w with heardGranted := heard }) p.quota.watch } }

section
variable {u : QuotaUnit} {asker number : Nat} {w : WatchRecord} {before after : List WatchRecord}
  (watch : u.watch = before ++ w :: after) (others : ∀ x ∈ before, ¬ (x.asker = asker ∧ x.number = number))
  (asks : w.asker = asker) (numbered : w.number = number)
include watch others asks numbered

theorem QuotaUnit.find_watch : u.watch.find? (WatchRecord.isFor asker number) = some w := by
  have none : before.find? (WatchRecord.isFor asker number) = none :=
    List.find?_eq_none.mpr fun x hx => by simpa [WatchRecord.isFor] using others x hx
  have hit : WatchRecord.isFor asker number w = true := by simp [WatchRecord.isFor, asks, numbered]
  rw [watch, List.find?_append, none, List.find?_cons_of_pos hit]
  rfl

theorem QuotaUnit.raise_watch (heard : Nat) :
    modifyFirst (WatchRecord.isFor asker number) (fun w => { w with heardGranted := heard }) u.watch
      = before ++ { w with heardGranted := heard } :: after := by
  have hit : WatchRecord.isFor asker number w = true := by simp [WatchRecord.isFor, asks, numbered]
  rw [watch]
  refine modifyFirst_append _ _ before after w hit fun x hx => ?_
  simpa [WatchRecord.isFor] using others x hx

end

theorem Part.overhearGrant_eq {p : Part} {sender : Nat} {g : GrantPayload} {w : WatchRecord} (other : sender ≠ g.asker)
    (watched : p.quota.watch.find? (WatchRecord.isFor g.asker g.number) = some w) :
    p.overhearGrant sender g
      = (p.watchRaised g.asker g.number (min (w.heardGranted + g.count) 99)).cutOwnGrant w.train g.asker g.number
          (w.wanted - min (w.heardGranted + g.count) 99) := by
  simp only [Part.overhearGrant, other, watched, if_false]
  rfl

/-- The part with an own grant cut to the places left, ledger and GRANT frame (R124). -/
def Part.cutTo (p : Part) (k : TrainKey) (frame left : Nat) : Part :=
  (p.moveOn (some k) (fun r => r.cutGrant frame left (p.trainSellable k))).cutFrame frame left

section
variable {p : Part} {k : TrainKey} {l : LedgerRecord} {asker number : Nat} (found : p.quota.find k = some l)
include found

theorem Part.cutOwnGrant_uncut (left : Nat) (uncut : ∀ x ∈ l.grants, p.cuttable asker number x = none) :
    p.cutOwnGrant k asker number left = p := by
  have none : l.grants.findSome? (fun g => (p.cuttable asker number g).map (fun frame => (frame, g.count))) = none :=
    List.findSome?_eq_none_iff.mpr fun x hx => by simp [uncut x hx]
  simp only [Part.cutOwnGrant, found, none]

variable {x : GrantRecord} {frame : Nat} {first rest : List GrantRecord} (grants : l.grants = first ++ x :: rest)
  (others : ∀ y ∈ first, p.cuttable asker number y = none) (cut : p.cuttable asker number x = some frame)
include grants others cut

theorem Part.cutOwnGrant_eq (left : Nat) : p.cutOwnGrant k asker number left =
    if x.count ≤ left then p
    else if p.trainSellable k then (p.cutTo k frame left).topUp k else p.cutTo k frame left := by
  have none : first.findSome? (fun g => (p.cuttable asker number g).map (fun frame => (frame, g.count))) = none :=
    List.findSome?_eq_none_iff.mpr fun y hy => by simp [others y hy]
  have hit : l.grants.findSome? (fun g => (p.cuttable asker number g).map (fun frame => (frame, g.count)))
      = some (frame, x.count) := by
    simp [grants, List.findSome?_append, none, cut]
  simp only [Part.cutOwnGrant, found, hit]
  rfl

end

theorem Part.cutOwnGrant_watch (p : Part) (k : TrainKey) (asker number left : Nat) :
    (p.cutOwnGrant k asker number left).quota.watch = p.quota.watch := by
  simp only [Part.cutOwnGrant]
  split
  · rfl
  split
  · rfl
  split
  · rfl
  split
  · rw [(Part.topUp_salesGrow _ k).quota]
    simp [Part.moveOn, QuotaUnit.modify]
  · simp [Part.moveOn, QuotaUnit.modify]

/-- A grant record is cuttable exactly when it answers the ask, is LENDING, and not collided nor on the line (R124). -/
theorem Part.cuttable_eq_some (p : Part) (asker number : Nat) (x : GrantRecord) (frame : Nat) :
    p.cuttable asker number x = some frame ↔ x.asker = asker ∧ x.number = number ∧ x.state = .lending frame
      ∧ x.collided = false ∧ p.line.inTransmission frame = false := by
  simp only [Part.cuttable, GrantRecord.answers]
  split
  · next f lending =>
    simp only [lending, Option.ite_none_right_eq_some, Option.some.injEq, Bool.and_eq_true, decide_eq_true_eq,
      Bool.not_eq_true', GrantState.lending.injEq]
    constructor
    · rintro ⟨⟨⟨⟨a, n⟩, c⟩, t⟩, rfl⟩; exact ⟨a, n, rfl, c, t⟩
    · rintro ⟨a, n, rfl, c, t⟩; exact ⟨⟨⟨⟨a, n⟩, c⟩, t⟩, rfl⟩
  · next other =>
    constructor
    · rintro ⟨⟩
    · rintro ⟨-, -, lending, -⟩
      exact absurd lending (other frame)

theorem Part.cuttable_eq_none {p : Part} {asker number : Nat} {x : GrantRecord}
    (never : ∀ f, x.asker = asker → x.number = number → x.state = .lending f →
      x.collided = true ∨ p.line.inTransmission f = true) : p.cuttable asker number x = none := by
  refine Option.eq_none_iff_forall_ne_some.mpr fun f cut => ?_
  obtain ⟨a, n, lending, whole, idle⟩ := (p.cuttable_eq_some asker number x f).mp cut
  rcases never f a n lending with collided | sending
  · simp [whole] at collided
  · simp [idle] at sending

/-- The record whose first grant on a frame is cut to the places left (R124). -/
theorem LedgerRecord.cutGrant_eq {l : LedgerRecord} {x : GrantRecord} {frame left : Nat} {first rest : List GrantRecord}
    (grants : l.grants = first ++ x :: rest) (others : ∀ y ∈ first, y.state ≠ .lending frame)
    (lending : x.state = .lending frame) (less : left < x.count) (toHeld : Bool) :
    l.cutGrant frame left toHeld = { l with
      lending := l.lending - (x.count - left)
      held := if toHeld then l.held + (x.count - left) else l.held
      lapsed := if toHeld then l.lapsed else l.lapsed + (x.count - left)
      grants := if left = 0 then first ++ rest else first ++ { x with count := left } :: rest } := by
  have hit : x.lendsBy frame = true := decide_eq_true lending
  have miss : ∀ y ∈ first, y.lendsBy frame = false := fun y hy => decide_eq_false (others y hy)
  have none : first.find? (fun g => g.lendsBy frame) = none :=
    List.find?_eq_none.mpr fun y hy => by simp [miss y hy]
  have found : l.grants.find? (fun g => g.lendsBy frame) = some x := by
    simp [grants, List.find?_append, none, hit]
  have erased : (first ++ x :: rest).eraseP (fun g => g.lendsBy frame) = first ++ rest := by
    rw [List.eraseP_append_right _ (fun y hy => by simp [miss y hy])]
    simp [hit]
  simp only [LedgerRecord.cutGrant, found]
  rw [grants, erased, modifyFirst_append _ _ first rest x hit miss, Nat.min_eq_right less.le]

section
variable {p : Part} {frame : Nat} (idle : p.line.inTransmission frame = false)
include idle

/-- A frame withdrawn is in the store no more (R153). -/
theorem Part.withdraw_gone : ∀ sl ∈ (p.withdraw [frame]).line.slots, sl.id ≠ frame := by
  intro sl mem
  have view := List.mem_map_of_mem (f := Slot.unwaited) mem
  rw [Part.withdraw_unwaited] at view
  obtain ⟨x, hx, same⟩ := List.mem_map.mp view
  have id : x.unwaited.id = sl.unwaited.id := by rw [same]
  have id : x.id = sl.id := id
  have stays := (List.mem_filter.mp hx).2
  simpa [idle, id] using stays

/-- A GRANT frame in the store carries its reduced count (R153). -/
theorem Part.reduceGrant_find {sl : Slot} {g : GrantPayload} (left : Nat) (found : p.line.find frame = some sl)
    (body : sl.body = .grant g) :
    (p.reduceGrant frame left).line.find frame = some { sl with body := .grant { g with count := left } } := by
  simp only [Part.reduceGrant, idle, Bool.false_eq_true, if_false]
  rw [LineInterface.find_modify _ _ _ (fun x => by split <;> rfl), found]
  simp [body]

end

section
variable {p : Part} {k : TrainKey} {l : LedgerRecord} {x : GrantRecord} {frame left : Nat}
  {first rest : List GrantRecord}

theorem Part.cutTo_quota (p : Part) (k : TrainKey) (frame left : Nat) :
    (p.cutTo k frame left).quota = p.quota.modify k (fun r => r.cutGrant frame left (p.trainSellable k)) := by
  simp [Part.cutTo, Part.moveOn]

theorem Part.cutTo_sellsAs (p : Part) (k : TrainKey) (frame left : Nat) : p.SellsAs (p.cutTo k frame left) :=
  ⟨by simp [Part.cutTo], by simp [Part.cutTo], by simp [Part.cutTo], by simp [Part.cutTo], by simp [Part.cutTo],
    by simp [Part.cutTo]⟩

theorem Part.cutTo_find (found : p.quota.find k = some l) (grants : l.grants = first ++ x :: rest)
    (others : ∀ y ∈ first, y.state ≠ .lending frame) (lending : x.state = .lending frame) (less : left < x.count) :
    (p.cutTo k frame left).quota.find k = some { l with
      lending := l.lending - (x.count - left)
      held := if p.trainSellable k then l.held + (x.count - left) else l.held
      lapsed := if p.trainSellable k then l.lapsed else l.lapsed + (x.count - left)
      grants := if left = 0 then first ++ rest else first ++ { x with count := left } :: rest } := by
  have moved := p.quota.find_modify k _ (LedgerRecord.cutGrant_move frame left (p.trainSellable k)).train
  rw [found, Option.map_some, LedgerRecord.cutGrant_eq grants others lending less] at moved
  rwa [Part.cutTo_quota]

theorem Part.cutTo_find_other {j : TrainKey} (other : j ≠ k) : (p.cutTo k frame left).quota.find j = p.quota.find j := by
  rw [Part.cutTo_quota]
  exact p.quota.find_modify_other j k _ (LedgerRecord.cutGrant_move frame left (p.trainSellable k)).train other

/-- An own grant cut at an actual part `p`, as the statement says it from a part `p'` alike in what a sale reads, and
in ledger and line (R124). -/
theorem Part.cutTo_ownGrantCut {p' : Part} (same : p'.SellsAs p) (line : p.line = p'.line)
    (ledger : ∀ j, p.quota.find j = p'.quota.find j)
    (room : p'.notices.entries.length ≤ 60 → p.notices.entries.length ≤ 61) (found : p.quota.find k = some l)
    (grants : l.grants = first ++ x :: rest) (others : ∀ y ∈ first, y.state ≠ .lending frame)
    (lending : x.state = .lending frame) (less : left < x.count) (idle : p.line.inTransmission frame = false) :
    OwnGrantCut p' (if p.trainSellable k then (p.cutTo k frame left).topUp k else p.cutTo k frame left)
      l x frame first rest left := by
  obtain ⟨-, rfl⟩ := QuotaUnit.find_some found
  have find := Part.cutTo_find found grants others lending less
  have sells := same.trans (p.cutTo_sellsAs l.train frame left)
  have sell : p.trainSellable l.train = p'.trainSellable l.train := (same.train l.train).2
  have slots : (if p.trainSellable l.train then (p.cutTo l.train frame left).topUp l.train
      else p.cutTo l.train frame left).line = (p.cutTo l.train frame left).line := by
    split <;> simp
  refine ⟨fun unsold => ?_, fun sold free => ?_, fun i sold issue named places => ?_, fun j other => ?_,
    fun gone => ?_, fun kept sl g stored body => ?_⟩
  · rw [← sell] at unsold
    simp only [unsold, Bool.false_eq_true, if_false] at find ⊢
    exact ⟨find, sells.sales⟩
  · rw [← sell] at sold
    simp only [sold, if_true] at find ⊢
    rw [Part.topUp_idle (by rwa [sells.sales])]
    exact ⟨find, sells.sales⟩
  · rw [← sell] at sold
    simp only [sold, if_true] at find ⊢
    have sold' : (p.cutTo l.train frame left).trainSellable l.train = true :=
      ((p.cutTo_sellsAs l.train frame left).train l.train).2.trans sold
    refine Part.topUp_toppedUp sells find issue named sold' places fun low => ?_
    have same : (p.cutTo l.train frame left).notices = p.notices := by simp [Part.cutTo]
    exact same ▸ Nat.lt_of_le_of_lt (room low) (by omega)
  · refine Eq.trans (b := (p.cutTo l.train frame left).quota.find j) ?_
      ((Part.cutTo_find_other other).trans (ledger j))
    split
    · exact ((p.cutTo l.train frame left).topUp_salesGrow l.train).others j other
    · rfl
  · rw [slots, Part.cutTo, Part.cutFrame, if_pos gone]
    exact Part.withdraw_gone idle
  · rw [slots, Part.cutTo, Part.cutFrame, if_neg kept]
    exact Part.reduceGrant_find (p := p.moveOn (some l.train) _) idle left (line ▸ stored) body

end

/-- The GRANT for this node's own ask goes to its asker's side (R120). -/
theorem exec_grant_own {sender seq : Nat} {g : GrantPayload} {s : State} (hears : s.part.Hears sender seq)
    (ok : (Payload.grant g).ok = true) (own : g.asker = s.part.ownNode) :
    exec (.grant (.clean sender seq g)) s
      = .next ⟨(s.part.acceptFrame sender seq).takeGrant sender g, s.pending⟩ := by
  have record := (s.part.acceptFrame_sellsAs sender seq).record
  have mine : g.asker = (s.part.acceptFrame sender seq).ownNode := own.trans (Part.ownNode_of_record record).symm
  exact (exec_grant_heard hears ok).trans (by rw [Part.hearGrant, if_pos mine])

/-- The GRANT between two other nodes, for an ask in the watch (R124). -/
theorem exec_grant_third {sender seq : Nat} {g : GrantPayload} {s : State} {w : WatchRecord}
    (hears : s.part.Hears sender seq) (ok : (Payload.grant g).ok = true) (other : g.asker ≠ s.part.ownNode)
    (third : sender ≠ g.asker) (watched : s.part.quota.watch.find? (WatchRecord.isFor g.asker g.number) = some w) :
    exec (.grant (.clean sender seq g)) s
      = .next ⟨((s.part.acceptFrame sender seq).watchRaised g.asker g.number
          (min (w.heardGranted + g.count) 99)).cutOwnGrant w.train g.asker g.number
            (w.wanted - min (w.heardGranted + g.count) 99), s.pending⟩ := by
  have record := (s.part.acceptFrame_sellsAs sender seq).record
  have theirs : g.asker ≠ (s.part.acceptFrame sender seq).ownNode :=
    fun h => other (h.trans (Part.ownNode_of_record record))
  have quota : (s.part.acceptFrame sender seq).quota = s.part.quota := by simp
  exact (exec_grant_heard hears ok).trans
    (by rw [Part.hearGrant, if_neg theirs, Part.overhearGrant_eq third (quota ▸ watched)])

/-- Settles O59: the GRANT for this node by its ask record, the other by its watch record. -/
theorem grantIsTakenOnceOrCounted : Obligations.GrantIsTakenOnceOrCounted := by
  refine ⟨fun sender seq g s hears ok own => ?_,
    fun sender seq g w before after s hears ok other third watch others asks numbered => ?_⟩
  · let q := s.part.acceptFrame sender seq
    have sale := s.part.acceptFrame_sellsAs sender seq
    have same := s.part.acceptFrame_offersAs sender seq
    have quota : q.quota = s.part.quota := by simp [q]
    have linked' := (sale.train g.train).1
    have sold' := (sale.train g.train).2
    have ignored : q.takeGrant sender g = q.ignoreGrant →
        (q.takeGrant sender g).quota = { q.quota with ignoredGrants := min (q.quota.ignoredGrants + 1) 65535 }
          ∧ (q.takeGrant sender g).line = s.part.line ∧ (q.takeGrant sender g).sales = s.part.sales := by
      intro ignores
      rw [ignores, ← same.line, ← sale.sales]
      exact q.ignoreGrant_counts
    rw [← quota]
    refine ⟨_, exec_grant_own hears ok own, rfl, fun none => ignored (Part.takeGrant_unasked none), fun a x asked taken => ?_,
      fun a l asked new found => ⟨fun beyond => ?_, fun linked within => ?_⟩, ?_, ?_⟩
    · rw [← sale.sales, ← same.offer]
      exact Part.takeGrant_confirms asked taken
    · rw [← linked'] at beyond
      exact ignored (Part.takeGrant_ignored asked new found beyond)
    · rw [← linked'] at linked
      obtain ⟨quota', sales', fares', notices', line'⟩ := Part.takeGrant_filled asked new found linked within
      rw [quota', sales', fares', line', ← sold', ← sale.sales, ← sale.fares]
      refine ⟨Part.filled_unsellable sender g found, Part.filled_idle sender g found, fun i sold issue named places => ?_,
        ?_, fun k => q.filled_find_other sender g, same.offer _ _⟩
      · have topped := Part.filled_toppedUp sender g found sold sale (sale.sales ▸ issue) named places
          (s.part.acceptFrame_room sender seq)
        exact topped.congr sales' fares' quota' notices'
      · rw [q.filled_asks sender g]
        exact ⟨_, mem_modifyFirst _ (AskRecord.isFor_eq _ _ ▸ asked), rfl⟩
    · simp
    · simp
  · let q := s.part.acceptFrame sender seq
    have sale := s.part.acceptFrame_sellsAs sender seq
    have same := s.part.acceptFrame_offersAs sender seq
    have quota : q.quota = s.part.quota := by simp [q]
    let left := w.wanted - min (w.heardGranted + g.count) 99
    let r := q.watchRaised g.asker g.number (min (w.heardGranted + g.count) 99)
    have ledger : ∀ j, r.quota.find j = s.part.quota.find j := fun j => by rw [← quota]; rfl
    have uncut : r.quota.ledger = s.part.quota.ledger ∧ r.line = s.part.line ∧ r.sales = s.part.sales :=
      ⟨by rw [← quota]; rfl, same.line, sale.sales⟩
    have run := exec_grant_third hears ok other third (QuotaUnit.find_watch watch others asks numbered)
    refine ⟨_, run, rfl, ?_, fun l found none => ?_, fun l x f first rest found grants miss a n lending whole idle => ?_,
      ?_, ?_⟩
    · rw [Part.cutOwnGrant_watch]
      exact QuotaUnit.raise_watch (u := q.quota) (quota ▸ watch) others asks numbered _
    · rw [Part.cutOwnGrant_uncut ((ledger _).trans found) left fun x hx => Part.cuttable_eq_none fun f a n lending => ?_]
      · exact uncut
      · exact same.line ▸ none x hx f a n lending
    · have idle' : r.line.inTransmission f = false := same.line ▸ idle
      have missed : ∀ y ∈ first, r.cuttable g.asker g.number y = none := fun y hy =>
        Part.cuttable_eq_none fun _ a n _ => absurd ⟨a, n⟩ (miss y hy).1
      have cut := (r.cuttable_eq_some g.asker g.number x f).mpr ⟨a, n, lending, whole, idle'⟩
      rw [Part.cutOwnGrant_eq ((ledger _).trans found) grants missed cut]
      refine ⟨fun fits => ?_, fun less => ?_⟩
      · rw [if_pos fits]
        exact uncut
      · rw [if_neg (Nat.not_le.mpr less)]
        exact Part.cutTo_ownGrantCut (p := r) ⟨sale.sales, sale.fares, sale.clock, sale.record, sale.board, sale.lineTime⟩
          same.line ledger (s.part.acceptFrame_room sender seq) ((ledger _).trans found) grants
          (fun y hy => (miss y hy).2) lending less idle'
    · simp [Part.watchRaised]
    · simp [Part.watchRaised]

end Sys2Proof.Machine
end

section
namespace Sys2Proof.Machine

/-! ### Shares (R114) -/

/-- One place more for each of the first `extra` indices: of `n` sellers, all that are below it. -/
theorem sum_evenly (each extra n : Nat) :
    ((List.range n).map (fun i => each + if i < extra then 1 else 0)).sum = n * each + min extra n := by
  induction n with
  | zero => simp
  | succ n ih =>
    rw [List.range_succ, List.map_append, List.sum_append, ih, Nat.succ_mul]
    simp only [List.map_cons, List.map_nil, List.sum_singleton]
    split <;> omega

/-- Settles O57: quotient and remainder of the total by the number of sellers. -/
theorem sharesSumToTheQuota : Obligations.SharesSumToTheQuota := by
  intro total n pos
  have rest : min (total % n) n = total % n := Nat.min_eq_left (Nat.mod_lt total pos).le
  calc ((List.range n).map (fun i => shareOf total n i)).sum
      = n * (total / n) + min (total % n) n := sum_evenly (total / n) (total % n) n
    _ = total := by rw [rest, Nat.div_add_mod]

end Sys2Proof.Machine
end

section
namespace Sys2Proof.Machine

/-! ### A frame heard, at its owner (R136 to R139) -/

/-- A frame that the part hears goes to its owner in the part that accepted it. -/
theorem exec_of_hears {c : Instr} {f : LineFrame} {s : State} (carries : frameOf c = some f)
    (hears : s.part.Hears f.sender f.seq) (ok : f.payload.ok = true) :
    exec c s = .next ⟨(s.part.acceptFrame f.sender f.seq).deliver f, s.pending⟩ := by
  obtain ⟨up, -, low, high, byte, -⟩ := id hears
  have whole : f.ok = true := by simp [LineFrame.ok, isNode, isByte, low, high, byte, ok]
  rw [exec_of_frameOf carries s up, Part.receiveFrame_of_ok _ whole, Part.receiveGood_of_hears hears]

/-! ### A TAKEN heard (R127) -/

theorem GrantRecord.matchesTaken_iff {asker number count : Nat} {g : GrantRecord} :
    g.matchesTaken asker number count = true ↔ g.asker = asker ∧ g.number = number ∧ g.count = count := by
  simp [GrantRecord.matchesTaken, GrantRecord.answers, and_assoc]

theorem LineInterface.drop_nil (l : LineInterface) : l.drop [] = l := by
  have tx : (match l.tx.chosen with | none => l.tx | some id => if id ∈ ([] : List Nat) then .idle else l.tx) = l.tx := by
    cases l.tx <;> rfl
  simp only [LineInterface.drop, List.not_mem_nil, not_false_eq_true, decide_true, List.filter_true]
  exact congrArg (fun t => { l with tx := t }) tx

theorem LineInterface.chose_nil (l : LineInterface) : l.chose [] = false := by
  simp only [LineInterface.chose, List.not_mem_nil, decide_false]
  split <;> rfl

/-- Frames that are all in transmission go on: their withdrawal changes nothing (R153). -/
theorem Part.withdraw_eq_self {p : Part} {ids : List Nat} (sending : ∀ id ∈ ids, p.line.inTransmission id = true) :
    p.withdraw ids = p := by
  have out : ids.filter (fun id => !p.line.inTransmission id) = [] :=
    List.filter_eq_nil_iff.mpr fun id mem => by simp [sending id mem]
  simp [Part.withdraw, out, LineInterface.drop_nil, LineInterface.chose_nil]

/-- A TAKEN that names no grant of this part is counted (R127). -/
theorem Part.hearTaken_unmatched {p : Part} {sender : Nat} {k : TakenPayload} (mine : k.granter = p.ownNode)
    (none : ∀ l, p.quota.find k.train = some l →
      ∀ x ∈ l.grants, ¬ (x.asker = sender ∧ x.number = k.number ∧ x.count = k.count)) :
    p.hearTaken sender k = p.unmatchedTaken := by
  simp only [Part.hearTaken, mine, ne_eq, not_true_eq_false, if_false]
  split
  · rfl
  · next l found =>
    have absent : l.grants.find? (GrantRecord.matchesTaken sender k.number k.count) = Option.none :=
      List.find?_eq_none.mpr fun x hx => GrantRecord.matchesTaken_iff.not.mpr (none l found x hx)
    simp only [absent]

section
variable {l : LedgerRecord} {asker number count : Nat} {before after : List GrantRecord} {g : GrantRecord}
  (grants : l.grants = before ++ g :: after)
  (others : ∀ x ∈ before, ¬ (x.asker = asker ∧ x.number = number ∧ x.count = count))
  (named : g.asker = asker ∧ g.number = number ∧ g.count = count)
include grants others named

theorem LedgerRecord.find_taken : l.grants.find? (GrantRecord.matchesTaken asker number count) = some g := by
  have none : before.find? (GrantRecord.matchesTaken asker number count) = none :=
    List.find?_eq_none.mpr fun x hx => GrantRecord.matchesTaken_iff.not.mpr (others x hx)
  rw [grants, List.find?_append, none, List.find?_cons_of_pos (GrantRecord.matchesTaken_iff.mpr named)]
  rfl

/-- The first grant that a TAKEN names goes from its state's counter to lent, and its record from the list (R127). -/
theorem LedgerRecord.grantTaken_eq : l.grantTaken asker number count = { l with
    lent := l.lent + g.count
    lending := if g.isLending then l.lending - g.count else l.lending
    awaiting := if g.isAwaiting then l.awaiting - g.count else l.awaiting
    doubtful := if g.isDoubtful then l.doubtful - g.count else l.doubtful
    grants := before ++ after } := by
  have erased : l.grants.eraseP (GrantRecord.matchesTaken asker number count) = before ++ after := by
    rw [grants, List.eraseP_append_right _ fun x hx => GrantRecord.matchesTaken_iff.not.mpr (others x hx),
      List.eraseP_cons_of_pos (GrantRecord.matchesTaken_iff.mpr named)]
  simp only [LedgerRecord.grantTaken, LedgerRecord.find_taken grants others named, erased]
  split
  · next f state => simp [g.state_lending f state]
  · next d state => simp [g.state_awaiting d state]
  · next state => simp [g.state_doubtful state]

end

/-- A TAKEN that names a grant of this part: the move, and the grant's frame withdrawn (R127). -/
theorem Part.hearTaken_matched {p : Part} {sender : Nat} {k : TakenPayload} {l : LedgerRecord} {g : GrantRecord}
    (mine : k.granter = p.ownNode) (found : p.quota.find k.train = some l)
    (hit : l.grants.find? (GrantRecord.matchesTaken sender k.number k.count) = some g) :
    p.hearTaken sender k
      = (p.moveOn (some k.train) (fun r => r.grantTaken sender k.number k.count)).withdraw g.frames := by
  simp only [Part.hearTaken, mine, ne_eq, not_true_eq_false, if_false, found, hit]

theorem GrantRecord.frames_of_lending {g : GrantRecord} {f : Nat} (lending : g.state = .lending f) : g.frames = [f] := by
  simp only [GrantRecord.frames, lending]

theorem GrantRecord.frames_of_not_lending {g : GrantRecord} (settled : g.isLending = false) : g.frames = [] := by
  cases state : g.state <;> simp [GrantRecord.isLending, GrantRecord.frames, state] at settled ⊢

/-- Settles O60: the TAKEN by the first grant that it names, the withdrawal by the grant's state. -/
theorem takenSettlesTheGrant : Obligations.TakenSettlesTheGrant := by
  intro sender seq k s hears ok own
  let q := s.part.acceptFrame sender seq
  have quota : q.quota = s.part.quota := by simp [q]
  have line : q.line = s.part.line := (s.part.acceptFrame_offersAs sender seq).line
  have mine : k.granter = q.ownNode :=
    own.trans (Part.ownNode_of_record (s.part.acceptFrame_sellsAs sender seq).record).symm
  have run : exec (.taken (.clean sender seq k)) s = .next ⟨q.hearTaken sender k, s.pending⟩ :=
    exec_of_hears (f := ⟨sender, seq, .taken k⟩) rfl hears ok
  rw [← quota, ← line]
  refine ⟨_, run, rfl, fun none => ?_, fun l before g after found grants others asker number count => ?_, ?_⟩
  · rw [Part.hearTaken_unmatched mine none]
    exact ⟨rfl, rfl⟩
  · have named := And.intro asker (And.intro number count)
    have move := LedgerRecord.grantTaken_move sender k.number k.count
    rw [Part.hearTaken_matched mine found (LedgerRecord.find_taken grants others named)]
    simp only [Part.withdraw_frame]
    refine ⟨?_, fun j other => q.quota.find_modify_other j k.train _ move.train other, fun settled => ?_,
      fun f lending idle => ?_, fun f lending sending => ?_⟩
    · rw [← LedgerRecord.grantTaken_eq grants others named]
      exact (q.quota.find_modify k.train _ move.train).trans (congrArg (Option.map _) found)
    · rw [GrantRecord.frames_of_not_lending settled, Part.withdraw_eq_self (by simp)]
      rfl
    · rw [GrantRecord.frames_of_lending lending]
      exact Part.withdraw_gone idle
    · rw [GrantRecord.frames_of_lending lending, Part.withdraw_eq_self fun id mem => List.mem_singleton.mp mem ▸ sending]
      rfl
  · simp [q]

end Sys2Proof.Machine
end

section
namespace Sys2Proof.Machine

/-! ### SELF TEST END (R134, R193 to R197) -/

theorem RetainedMarks.good_iff {r : RetainedMarks} : r.good = true ↔ r = ⟨false, true⟩ := by
  obtain ⟨loss, agrees⟩ := r
  cases loss <;> cases agrees <;> decide

/-- The places that a balanced record has in LENDING are those of its grants not collided and of those collided. -/
theorem LedgerRecord.Balanced.lending_split {r : LedgerRecord} (law : r.Balanced) :
    r.lending = placesOf (r.grants.filter (fun g => g.isLending && !g.collided))
      + placesOf (r.grants.filter (fun g => g.isLending && g.collided)) := by
  obtain ⟨-, -, lending, -⟩ := law
  refine lending.trans (placesIn_split GrantRecord.isLending _ _ r.grants (fun g => ?_) (fun g => ?_))
  · cases g.isLending <;> cases g.collided <;> rfl
  · cases g.collided <;> simp

/-- The repair of a balanced record: nothing is reserved, LENDING or AWAITING any more (R134). -/
theorem LedgerRecord.repair_eq {r : LedgerRecord} (law : r.Balanced) : r.repair = { r with
    held := r.held + r.reserved + placesOf (r.grants.filter (fun g => g.isLending && !g.collided))
    reserved := 0
    lending := 0
    awaiting := 0
    doubtful := r.doubtful + r.awaiting + placesOf (r.grants.filter (fun g => g.isLending && g.collided))
    grants := (r.grants.filter (fun g => !(g.isLending && !g.collided))).map GrantRecord.repaired } := by
  have lending := law.lending_split
  obtain ⟨-, -, -, awaiting, -⟩ := law
  simp only [LedgerRecord.repair, ← lending, ← awaiting, Nat.sub_self, Nat.add_right_comm r.doubtful]

theorem QuotaUnit.repair_trains (q : QuotaUnit) :
    q.repair.ledger.map LedgerRecord.train = q.ledger.map LedgerRecord.train := by
  simp only [QuotaUnit.repair, List.map_map]
  rfl

/-- The end of self-test: the start made warm or cold, the marks, the result, START and the state after it (R194). -/
theorem Part.endSelfTest_eq {p : Part} (passes : Bool) (testing : p.doze.state = .selfTest) :
    p.endSelfTest passes = { (if p.retained.good then p.warmStart else p.coldStart) with
      retained := ⟨false, true⟩
      start := { p.start with
        result := some (selfTestResult p.retained.good passes), store := some (storeState p.retained.good) }
      notices := p.notices.store .selfTest p.holdOff p.lineTime
        (startNotice p.start.kind (selfTestResult p.retained.good passes) (storeState p.retained.good))
      doze := { p.doze with state := if passes then .waitingStart else .fault } } := by
  cases good : p.retained.good <;>
    simp [Part.endSelfTest, good, Part.note, Part.warmStart, Part.coldStart, testing, Part.holdOff]

theorem selfTestResult_eq (good passes : Bool) :
    selfTestResult good passes = if passes = false then .memoryFault else if good then .pass else .retainedLost := by
  cases passes <;> rfl

/-- Settles O42: a good store's ledger record by record, a bad store by its cold values. -/
theorem selfTestEndsWarmOrCold : Obligations.SelfTestEndsWarmOrCold := by
  intro passes s up testing
  have run : exec (.selfTestEnd passes) s = .next ⟨s.part.endSelfTest passes, s.pending⟩ := by
    simp [Part.selfTesting, up, testing]
  rw [Part.endSelfTest_eq passes testing] at run
  refine ⟨_, run, rfl, rfl, rfl, ?_, rfl, fun kept => ?_, fun lost => ?_, ?_⟩
  · simp [selfTestResult_eq, storeState, RetainedMarks.good_iff]
  · simp only [RetainedMarks.good_iff.mpr kept, if_true]
    refine ⟨rfl, rfl, rfl, s.part.quota.repair_trains, fun balanced r mem => ?_⟩
    obtain ⟨r', mem', rfl⟩ := List.mem_map.mp mem
    obtain ⟨-, -, each⟩ := balanced
    refine ⟨r', mem', ?_⟩
    rw [LedgerRecord.repair_eq (each r' mem')]
    exact ⟨rfl, rfl, rfl, rfl, rfl, rfl, rfl, rfl, rfl, rfl, rfl, rfl, rfl⟩
  · have bad : s.part.retained.good = false :=
      Bool.eq_false_iff.mpr (RetainedMarks.good_iff.not.mpr lost)
    simp only [bad, Bool.false_eq_true, if_false]
    exact ⟨rfl, rfl, rfl, rfl, rfl, rfl, rfl, rfl, rfl, rfl⟩
  · split <;> exact ⟨rfl, rfl, rfl, rfl, rfl, rfl⟩

end Sys2Proof.Machine
end

section
namespace Sys2Proof.Machine

/-! ### An ASK heard (R122, R123) -/

/-- The part with an ASK entered in its watch (R122). -/
def Part.watching (p : Part) (asker number : Nat) (a : AskPayload) : Part :=
  { p with quota := { p.quota with
      watch := pushEight p.quota.watch ⟨asker, number, a.train, a.wanted, 0, p.lineTime⟩ } }

/-- An ASK that a seller does not watch yet is entered in the watch and decided on (R122). -/
theorem Part.hearAsk_eq {p : Part} {asker number : Nat} {a : AskPayload} (sells : p.roles.sells = true)
    (new : ∀ w ∈ p.quota.watch, ¬ (w.asker = asker ∧ w.number = number)) :
    p.hearAsk asker number a = (p.watching asker number a).decideGrant asker number a := by
  have unwatched : p.quota.watch.any (WatchRecord.isFor asker number) = false :=
    List.any_eq_false.mpr fun w mem => by simpa [WatchRecord.isFor] using new w mem
  simp only [Part.hearAsk, sells, unwatched]
  rfl

theorem Payload.one_le_wanted {a : AskPayload} (ok : (Payload.ask a).ok = true) : 1 ≤ a.wanted := by
  simp only [Payload.ok, isPlaces, Bool.and_eq_true, decide_eq_true_eq] at ok
  obtain ⟨-, least, -⟩ := ok
  exact least

theorem LedgerRecord.lend_train (r : LedgerRecord) (g : GrantRecord) : (r.lend g).train = r.train := rfl

theorem LedgerRecord.makeRoom_train {r roomy : LedgerRecord} (made : r.makeRoom = some roomy) :
    roomy.train = r.train := by
  simp only [LedgerRecord.makeRoom] at made
  repeat' split at made
  · cases made; rfl
  · cases made
  · cases made; rfl

section
variable {u : QuotaUnit} {k : TrainKey} {l : LedgerRecord}

/-- A record put in the place of a train's own: its train finds it, every other what it found before. -/
theorem QuotaUnit.find_replace (found : u.find k = some l) {l' : LedgerRecord} (train : l'.train = k) :
    (u.modify k (fun _ => l')).find k = some l' ∧ ∀ j, j ≠ k → (u.modify k (fun _ => l')).find j = u.find j := by
  have same : u.modify k (fun _ => l') = u.modify k (fun r => if r.train = k then l' else r) := by
    simp only [QuotaUnit.modify]
    congr 1
    refine List.map_congr_left fun r _ => ?_
    split <;> rfl
  have keeps : ∀ r : LedgerRecord, (if r.train = k then l' else r).train = r.train := fun r => by
    split
    · next own => rw [train, own]
    · rfl
  rw [same, u.find_modify k _ keeps, found]
  exact ⟨by simp [(u.find_some found).2], fun j other => u.find_modify_other j k _ keeps other⟩

end

/-- A grant offered changes the quota unit by the lending of its places alone (R123). -/
theorem Part.offerGrant_quota (p : Part) (asker number : Nat) (k : TrainKey) (g : Nat) :
    (p.offerGrant asker number k g).quota = if p.line.hasRoom .urgent then
        p.quota.modify k (fun r => r.lend ⟨asker, number, g, .lending p.line.nextFrame, false, some p.lineTime⟩)
      else p.quota := by
  simp only [Part.offerGrant]
  split <;> simp [Part.moveOn]

section
variable {p : Part} {asker number : Nat} {a : AskPayload} {l : LedgerRecord} (found : p.quota.find a.train = some l)
include found

/-- A seller lends none of a train that is not sold or not linked, nor of fewer than two places held (R123). -/
theorem Part.decideGrant_declined
    (declines : p.trainSellable a.train = false ∨ p.trainLinked a.train = false ∨ l.held < 2) :
    p.decideGrant asker number a = p := by
  simp only [Part.decideGrant, found]
  rcases declines with unsold | unlinked | few
  · simp [unsold]
  · simp [unlinked]
  · have none : grantSize a.wanted 0 l.held = 0 := by simp only [grantSize]; omega
    simp [none]

variable (sold : p.trainSellable a.train = true) (linked : p.trainLinked a.train = true) (places : 1 ≤ a.wanted)
  (many : 2 ≤ l.held) (few : l.grants.length < 8)
include sold linked places many few

/-- With room for its record the grant is offered (R123). -/
theorem Part.decideGrant_offers :
    p.decideGrant asker number a = (p.moveOn (some a.train) (fun _ => l)).offerGrant asker number a.train
      (min a.wanted (l.held / 2)) := by
  have some : grantSize a.wanted 0 l.held ≠ 0 := by simp only [grantSize]; omega
  have roomy : l.makeRoom = .some l := if_pos few
  simp only [Part.decideGrant, found, sold, linked, some, roomy]
  rfl

/-- With a slot besides, the places are lent and the GRANT frame is in the store (R123). -/
theorem Part.decideGrant_lends (room : p.line.hasRoom .urgent = true) :
    (p.decideGrant asker number a).quota.find a.train = some (l.lend
        ⟨asker, number, min a.wanted (l.held / 2), .lending p.line.nextFrame, false, some p.lineTime⟩)
      ∧ p.line.newSlot .urgent (.grant ⟨asker, number, a.train, min a.wanted (l.held / 2)⟩)
          ∈ (p.decideGrant asker number a).line.slots.map Slot.unwaited := by
  have replaced := QuotaUnit.find_replace found (p.quota.find_some found).2
  let r := p.moveOn (some a.train) (fun _ => l)
  have roomy : r.line.hasRoom .urgent = true := room
  rw [Part.decideGrant_offers found sold linked places many few]
  refine ⟨?_, ?_⟩
  · rw [Part.offerGrant_quota, if_pos roomy]
    exact (QuotaUnit.find_modify _ a.train _ (fun r => r.lend_train _)).trans (congrArg (Option.map _) replaced.1)
  · rw [Part.offerGrant_line]
    exact r.offer_mem _ _ roomy

end

/-- The decision on an ASK concerns the ledger record of its train: the watch and every other record stand (R123). -/
theorem Part.decideGrant_others (p : Part) (asker number : Nat) (a : AskPayload) :
    (p.decideGrant asker number a).quota.watch = p.quota.watch
      ∧ ∀ j, j ≠ a.train → (p.decideGrant asker number a).quota.find j = p.quota.find j := by
  simp only [Part.decideGrant]
  split
  · exact ⟨rfl, fun _ _ => rfl⟩
  split
  · exact ⟨rfl, fun _ _ => rfl⟩
  next l found =>
  split
  · exact ⟨rfl, fun _ _ => rfl⟩
  split
  · exact ⟨rfl, fun _ _ => rfl⟩
  next roomy made =>
  have train : roomy.train = a.train := (LedgerRecord.makeRoom_train made).trans (p.quota.find_some found).2
  rw [Part.offerGrant_quota]
  have replaced := (QuotaUnit.find_replace found train).2
  split
  · exact ⟨rfl, fun j other =>
      Eq.trans (QuotaUnit.find_modify_other _ j a.train _ (fun r => r.lend_train _) other) (replaced j other)⟩
  · exact ⟨rfl, replaced⟩

/-- Settles O58: the ASK entered in the watch, and the decision declined or the grant offered. -/
theorem askIsAnsweredWithAGrant : Obligations.AskIsAnsweredWithAGrant := by
  intro sender seq a l s hears ok sells new found
  let q := s.part.acceptFrame sender seq
  let w := q.watching sender seq a
  have same := s.part.acceptFrame_offersAs sender seq
  have sale := s.part.acceptFrame_sellsAs sender seq
  have quota : q.quota = s.part.quota := by simp [q]
  have sells' : q.roles.sells = true := by rw [← sells, Part.roles, Part.roles, sale.record]
  have run : exec (.ask (.clean sender seq a)) s = .next ⟨w.decideGrant sender seq a, s.pending⟩ := by
    rw [← Part.hearAsk_eq sells' (quota ▸ new)]
    exact exec_of_hears (f := ⟨sender, seq, .ask a⟩) rfl hears ok
  have found' : w.quota.find a.train = some l := Eq.trans (by rw [← quota]; rfl) found
  obtain ⟨watch, others⟩ := w.decideGrant_others sender seq a
  obtain ⟨linked', sold'⟩ := sale.train a.train
  rw [← sold', ← linked', ← same.line, ← same.lineTime, ← quota]
  refine ⟨_, run, rfl, watch, others, fun declines => ?_, fun sold linked many grants room => ?_, ?_⟩
  · rw [Part.decideGrant_declined found' declines]
    exact ⟨rfl, rfl⟩
  · obtain ⟨lent, stored⟩ := Part.decideGrant_lends (p := w) (asker := sender) (number := seq) found' sold linked
      (Payload.one_le_wanted ok) many grants room
    obtain ⟨sl, mem, id, -, cls, body⟩ := Slot.of_unwaited_mem stored
    exact ⟨lent, sl, mem, id, cls, body⟩
  · simp [w, q, Part.watching]

end Sys2Proof.Machine
end

section
namespace Sys2Proof.Machine

/-! ### Listening to the halt: RUNNING or DOZING (R181, R203) -/

/-- The part state of the doze block is RUNNING or DOZING. -/
def DozeKeys.listens (d : DozeKeys) : Bool := d.state = .running || d.state = .dozing

theorem Part.awake_eq_listens (p : Part) : p.awake = p.doze.listens := rfl

@[simp] theorem DozeKeys.setKey_listens (d : DozeKeys) (k : Key) (v : KeyState) :
    (d.setKey k v).listens = d.listens := by
  simp only [DozeKeys.listens, DozeKeys.setKey_state]

section
variable (p : Part)

theorem Part.wake_listens (c : WakeCause) : (p.wake c).doze.listens = true := by
  simp [DozeKeys.listens, Part.wake_state]

theorem Part.listens_of_dozing (dozing : p.doze.state = .dozing) : p.doze.listens = true := by
  simp [DozeKeys.listens, dozing]

@[simp] theorem Part.post_listens (n : Notice) : (p.post n).doze.listens = p.doze.listens := p.post_awake n

@[simp] theorem Part.overrunOldest_listens : p.overrunOldest.doze.listens = p.doze.listens := by
  simp only [Part.overrunOldest]; split <;> simp

@[simp] theorem Part.writeAlways_listens (b : JournalBody) : (p.writeAlways b).doze.listens = p.doze.listens := by
  simp only [Part.writeAlways]; (repeat' split) <;> simp

@[simp] theorem Part.topUp_listens (t : TrainKey) : (p.topUp t).doze.listens = p.doze.listens := by
  simp only [Part.topUp]; (repeat' split) <;> simp

@[simp] theorem Part.endIssue_listens (i : IssueRecord) (c : ResultCode) (m : LedgerRecord → LedgerRecord) :
    (p.endIssue i c m).doze.listens = p.doze.listens := by
  simp [Part.endIssue]

@[simp] theorem Part.salesTrainLeft_listens (t : TrainKey) (c : ResultCode) :
    (p.salesTrainLeft t c).doze.listens = p.doze.listens := by
  simp only [Part.salesTrainLeft]; split <;> simp

@[simp] theorem Part.closeDay_listens (d : Nat) : (p.closeDay d).doze.listens = p.doze.listens := by
  simp only [Part.closeDay]; split <;> simp

@[simp] theorem Part.linkLedger_listens (t : TrainKey) (n : Nat) :
    (p.linkLedger t n).1.doze.listens = p.doze.listens := by
  simp only [Part.linkLedger]; (repeat' split) <;> simp

@[simp] theorem Part.acceptGrant_listens (s : Nat) (g : GrantPayload) (h : Bool) :
    (p.acceptGrant s g h).doze.listens = p.doze.listens := by
  simp [Part.acceptGrant]

@[simp] theorem Part.takeGrant_listens (s : Nat) (g : GrantPayload) :
    (p.takeGrant s g).doze.listens = p.doze.listens := by
  simp only [Part.takeGrant]; (repeat' split) <;> simp

@[simp] theorem Part.cutOwnGrant_listens (t : TrainKey) (a n l : Nat) :
    (p.cutOwnGrant t a n l).doze.listens = p.doze.listens := by
  simp only [Part.cutOwnGrant]; (repeat' split) <;> simp

@[simp] theorem Part.overhearGrant_listens (s : Nat) (g : GrantPayload) :
    (p.overhearGrant s g).doze.listens = p.doze.listens := by
  simp only [Part.overhearGrant]; (repeat' split) <;> simp

@[simp] theorem Part.hearGrant_listens (s : Nat) (g : GrantPayload) :
    (p.hearGrant s g).doze.listens = p.doze.listens := by
  simp only [Part.hearGrant]; split <;> simp

@[simp] theorem Part.grantSent_listens (f : Nat) : (p.grantSent f).doze.listens = p.doze.listens := by
  simp only [Part.grantSent]; split <;> simp

@[simp] theorem Part.grantGivenUp_listens (f : Nat) : (p.grantGivenUp f).doze.listens = p.doze.listens := by
  simp only [Part.grantGivenUp]; (repeat' split) <;> simp

@[simp] theorem Part.grantOverdue_listens (t : TrainKey) (a n : Nat) :
    (p.grantOverdue t a n).doze.listens = p.doze.listens := by
  simp only [Part.grantOverdue]; (repeat' split) <;> simp

@[simp] theorem Part.notePeerGone_listens (a : Nat) (r : LedgerRecord) :
    (p.notePeerGone a r).doze.listens = p.doze.listens := by
  simp [Part.notePeerGone]

@[simp] theorem Part.notePeersGone_listens (a : Nat) (l : List LedgerRecord) :
    (l.foldl (fun q r => q.notePeerGone a r) p).doze.listens = p.doze.listens := by
  induction l generalizing p with
  | nil => rfl
  | cons r l ih => rw [List.foldl_cons, ih, Part.notePeerGone_listens]

@[simp] theorem Part.quotaPeerGone_listens (a : Nat) : (p.quotaPeerGone a).doze.listens = p.doze.listens := by
  simp [Part.quotaPeerGone]

@[simp] theorem Part.lapseTrain_listens (t : TrainKey) : (p.lapseTrain t).doze.listens = p.doze.listens := by
  simp only [Part.lapseTrain]; (repeat' split) <;> simp

@[simp] theorem Part.reportLeft_listens (e : Entry) (c : ResultCode) :
    (p.reportLeft e c).doze.listens = p.doze.listens := by
  simp only [Part.reportLeft]; split <;> simp

@[simp] theorem Part.enterGone_listens (e : Entry) : (p.enterGone e).doze.listens = p.doze.listens := by
  simp [Part.enterGone]

@[simp] theorem Part.enterCancelled_listens (e : Entry) : (p.enterCancelled e).doze.listens = p.doze.listens := by
  simp [Part.enterCancelled]

@[simp] theorem Part.evaluateEntry_listens (e : Entry) (m : Nat) (b : Bool) :
    (p.evaluateEntry e m b).1.doze.listens = p.doze.listens := by
  simp only [Part.evaluateEntry]; (repeat' split) <;> simp

@[simp] theorem Part.evaluateNow_listens (t : TrainKey) (b : Bool) :
    (p.evaluateNow t b).doze.listens = p.doze.listens := by
  simp only [Part.evaluateNow]; split <;> simp

@[simp] theorem Part.evaluateAll_listens (m : Nat) (l : List TrainKey) :
    (p.evaluateAll m l).1.doze.listens = p.doze.listens := by
  induction l generalizing p with
  | nil => rfl
  | cons t l ih => simp only [Part.evaluateAll]; split <;> simp [ih]

@[simp] theorem Part.boardMinute_listens (m : Nat) : (p.boardMinute m).doze.listens = p.doze.listens := by
  simp [Part.boardMinute]

@[simp] theorem Part.reportCancelled_listens (t : TrainKey) (b : EntryState) :
    (p.reportCancelled t b).doze.listens = p.doze.listens := by
  simp only [Part.reportCancelled]; (repeat' split) <;> simp

@[simp] theorem Part.applyUpdate_listens (s : Option Nat) (u : Update) (e : Entry) :
    (p.applyUpdate s u e).1.doze.listens = p.doze.listens := by
  simp [Part.applyUpdate]

@[simp] theorem Part.addEntry_listens (e : Entry) : (p.addEntry e).doze.listens = p.doze.listens := by
  simp [Part.addEntry]

@[simp] theorem Part.createEntry_listens (s : Option Nat) (u : Update) (b : NewTrain) (d : Nat) :
    (p.createEntry s u b d).1.doze.listens = p.doze.listens := by
  simp [Part.createEntry]

@[simp] theorem Part.dropFull_listens (s : Option Nat) (u : Update) :
    (p.dropFull s u).1.doze.listens = p.doze.listens := by
  simp [Part.dropFull]

@[simp] theorem Part.newUpdate_listens (s : Option Nat) (u : Update) :
    (p.newUpdate s u).1.doze.listens = p.doze.listens := by
  simp only [Part.newUpdate]; (repeat' split) <;> simp

@[simp] theorem Part.takeUpdate_listens (s : Option Nat) (u : Update) :
    (p.takeUpdate s u).1.doze.listens = p.doze.listens := by
  simp only [Part.takeUpdate]; (repeat' split) <;> simp

@[simp] theorem Part.loadEntry_listens (r : TrainRecord) : (p.loadEntry r).doze.listens = p.doze.listens := by
  simp [Part.loadEntry]

@[simp] theorem Part.dozeMinute_listens : p.dozeMinute.doze.listens = p.doze.listens := by
  simp only [Part.dozeMinute]
  split
  · next dozing =>
    split
    · rfl
    · rw [Part.wake_listens, p.listens_of_dozing dozing]
  · rfl

@[simp] theorem Part.handRollover_listens (n o d : Nat) : (p.handRollover n o d).doze.listens = p.doze.listens := by
  simp only [Part.handRollover, threeInOrder]; split <;> simp

@[simp] theorem Part.rollover_listens (o d : Nat) : (p.rollover o d).doze.listens = p.doze.listens := by
  simp [Part.rollover]

@[simp] theorem Part.salesDayCheck_listens : p.salesDayCheck.doze.listens = p.doze.listens := by
  simp only [Part.salesDayCheck]; (repeat' split) <;> simp

@[simp] theorem Part.handMinute_listens (n m : Nat) : (p.handMinute n m).doze.listens = p.doze.listens := by
  simp only [Part.handMinute, threeInOrder]; split <;> simp

@[simp] theorem Part.minuteEvent_listens : p.minuteEvent.doze.listens = p.doze.listens := by
  simp [Part.minuteEvent]

@[simp] theorem Part.minuteCheck_listens : p.minuteCheck.doze.listens = p.doze.listens := by
  simp only [Part.minuteCheck]; split <;> simp

@[simp] theorem Part.clockCheck_listens : p.clockCheck.doze.listens = p.doze.listens := by
  simp [Part.clockCheck]

@[simp] theorem Part.slewPeriod_listens : p.slewPeriod.doze.listens = p.doze.listens := by
  simp [Part.slewPeriod]

@[simp] theorem Part.correctBy_listens (s n : Nat) (o : Int) : (p.correctBy s n o).doze.listens = p.doze.listens := by
  simp only [Part.correctBy]; (repeat' split) <;> simp

@[simp] theorem Part.correct_listens (s : Nat) (b : BeaconPayload) :
    (p.correct s b).doze.listens = p.doze.listens := by
  simp [Part.correct]

@[simp] theorem Part.sourceBeacon_listens (s : Nat) (b : BeaconPayload) :
    (p.sourceBeacon s b).doze.listens = p.doze.listens := by
  simp [Part.sourceBeacon]

@[simp] theorem Part.setFromBeacon_listens (s : Nat) (b : BeaconPayload) :
    (p.setFromBeacon s b).doze.listens = p.doze.listens := by
  simp [Part.setFromBeacon]

@[simp] theorem Part.follow_listens (s : Nat) (b : BeaconPayload) : (p.follow s b).doze.listens = p.doze.listens := by
  simp only [Part.follow]; split <;> simp

@[simp] theorem Part.hearClock_listens (s : Nat) (b : BeaconPayload) :
    (p.hearClock s b).doze.listens = p.doze.listens := by
  simp only [Part.hearClock]; (repeat' split) <;> simp

@[simp] theorem Part.acceptTime_listens (r : SetTimeRequest) : (p.acceptTime r).doze.listens = p.doze.listens := by
  simp [Part.acceptTime]

@[simp] theorem Part.acceptClock_listens : p.acceptClock.doze.listens = p.doze.listens := by
  simp only [Part.acceptClock]; split <;> simp

@[simp] theorem Part.reportHeld_listens (k : Key) : (p.reportHeld k).doze.listens = p.doze.listens := by
  simp only [Part.reportHeld]; split <;> simp

@[simp] theorem Part.tellSent_listens (sl : Slot) : (p.tellSent sl).doze.listens = p.doze.listens := by
  simp only [Part.tellSent]; split <;> simp

@[simp] theorem Part.sentWhole_listens : p.sentWhole.doze.listens = p.doze.listens := by
  simp only [Part.sentWhole]; (repeat' split) <;> simp

@[simp] theorem Part.tellGivenUp_listens (sl : Slot) : (p.tellGivenUp sl).doze.listens = p.doze.listens := by
  simp only [Part.tellGivenUp]; split <;> simp

@[simp] theorem Part.giveUp_listens (sl : Slot) : (p.giveUp sl).doze.listens = p.doze.listens := by
  simp [Part.giveUp]

@[simp] theorem Part.endBreak_listens : p.endBreak.doze.listens = p.doze.listens := by
  simp only [Part.endBreak]; (repeat' split) <;> simp

end

end Sys2Proof.Machine
end

section
namespace Sys2Proof.Machine

/-! ### The peer table's law (R135, R137) -/

/-- What the law of the peer table reads of the part. -/
def Part.peerView (p : Part) : List PeerRecord × Option StartRecord × Bool :=
  (p.peers.records, p.port.record, p.doze.listens)

theorem Part.PeersKept.congr {p q : Part} (k : p.PeersKept) (same : q.peerView = p.peerView) : q.PeersKept := by
  simp only [Part.peerView, Prod.mk.injEq] at same
  obtain ⟨records, record, listens⟩ := same
  simpa only [Part.PeersKept, Part.awake_eq_listens, Part.ownNode_of_record record, records, record, listens] using k

/-- Another node of the halt, as a part that listens has it. -/
def Part.HasPeer (p : Part) (node : Nat) : Prop := p.awake = true ∧ node ≠ p.ownNode

/-- A record that is not ABSENT is another node's, and the part listens. -/
theorem Part.PeersKept.hasPeer {p : Part} (k : p.PeersKept) {node : Nat} {r : PeerRecord}
    (found : p.peers.find node = some r) (heard : r.state ≠ .absent) : p.HasPeer node := by
  obtain ⟨-, -, absent⟩ := k
  have mem : r ∈ p.peers.records := List.mem_of_find?_eq_some found
  have named : r.node = node := by simpa using List.find?_some found
  refine ⟨?_, fun own => heard (absent r mem (.inr (named.trans own)))⟩
  rw [← Bool.not_eq_false]
  exact fun idle => heard (absent r mem (.inl idle))

/-- One node's record changed: a state other than ABSENT comes to a peer's alone (R137, R139, R140). -/
theorem Part.PeersKept.modify {p : Part} (k : p.PeersKept) (node : Nat) (g : PeerRecord → PeerRecord)
    (same : ∀ r, (g r).node = r.node) (allowed : (∀ r, (g r).state = r.state) ∨ p.HasPeer node) :
    (p.withPeers (fun t => t.modify node g)).PeersKept := by
  obtain ⟨nodes, started, absent⟩ := k
  refine ⟨?_, started, fun r' mem idle => ?_⟩
  · rw [Part.withPeers_peers, ← nodes, PeerTable.modify, List.map_map]
    exact List.map_congr_left fun r _ => by simp only [Function.comp]; split <;> simp [same]
  · obtain ⟨r, old, rfl⟩ := List.mem_map.mp mem
    split at idle <;> rename_i named
    · rw [same] at idle
      rw [if_pos named]
      rcases allowed with state | ⟨awake, other⟩
      · rw [state]; exact absent r old idle
      · have own : r.node = p.ownNode := idle.resolve_left (fun asleep => Bool.noConfusion (awake.symm.trans asleep))
        exact absurd (named.symm.trans own) other
    · rw [if_neg named]
      exact absent r old idle

/-! ### Frames heard and silences (R136 to R143) -/

section
variable {p : Part}

theorem Part.hearOwnNumber_peersKept (k : p.PeersKept) (kind : FrameKind) : (p.hearOwnNumber kind).PeersKept := by
  refine k.congr ?_
  simp only [Part.hearOwnNumber]
  split <;> simp [Part.peerView]

theorem Part.acceptFrame_peersKept (k : p.PeersKept) {sender : Nat} (peer : p.HasPeer sender) (seq : Nat) :
    (p.acceptFrame sender seq).PeersKept := by
  have heard := k.modify sender (fun r => r.heardAt seq p.lineTime p.beaconMs) (fun _ => rfl) (.inr peer)
  simp only [Part.acceptFrame]
  split
  · exact k
  split
  · exact heard
  · exact heard.congr (by simp [Part.peerView])

theorem Part.checkTimetable_peersKept (k : p.PeersKept) (sender edition : Nat) :
    (p.checkTimetable sender edition).PeersKept := by
  refine k.congr ?_
  simp only [Part.checkTimetable]
  split <;> simp [Part.peerView]

theorem Part.checkFareEdition_peersKept (k : p.PeersKept) (sender edition : Nat) :
    (p.checkFareEdition sender edition).PeersKept := by
  refine k.congr ?_
  simp only [Part.checkFareEdition]
  split <;> simp [Part.peerView]

/-- A clash marks the sender's record and leaves its state (R143). -/
theorem Part.checkClash_peersKept (k : p.PeersKept) (sender : Nat) (b : BeaconPayload) :
    (p.checkClash sender b).PeersKept := by
  have marked := k.modify sender (fun r => { r with clash := true }) (fun _ => rfl) (.inl fun _ => rfl)
  simp only [Part.checkClash]
  split
  · exact k
  split
  · exact marked.congr (by simp [Part.peerView])
  · exact k

theorem Part.hearClock_peersKept (k : p.PeersKept) (sender : Nat) (b : BeaconPayload) :
    (p.hearClock sender b).PeersKept := k.congr (by simp [Part.peerView])

/-- What a beacon advertises leaves the state of its sender's record (R141). -/
theorem Part.hearBeacon_peersKept (k : p.PeersKept) (sender : Nat) (b : BeaconPayload) :
    (p.hearBeacon sender b).PeersKept := by
  have advertised := k.modify sender (fun r => { r with advert := some b.advert }) (fun _ => rfl) (.inl fun _ => rfl)
  have editions := Part.checkFareEdition_peersKept (Part.checkTimetable_peersKept advertised sender b.timetable)
    sender b.fare
  exact Part.hearClock_peersKept (Part.checkClash_peersKept editions sender b) sender b

theorem Part.deliver_peersKept (k : p.PeersKept) (f : LineFrame) : (p.deliver f).PeersKept := by
  simp only [Part.deliver]
  split
  · exact Part.hearBeacon_peersKept k _ _
  all_goals exact k.congr (by simp [Part.peerView])

/-- A frame under the part's own number reaches no record, and none does before a start record (R136, R137). -/
theorem Part.receiveGood_peersKept (k : p.PeersKept) (f : LineFrame) : (p.receiveGood f).PeersKept := by
  simp only [Part.receiveGood]
  split
  · exact k.congr rfl
  next awake =>
  split
  · exact Part.hearOwnNumber_peersKept k _
  next other =>
  split
  · exact k.congr rfl
  · exact Part.deliver_peersKept (Part.acceptFrame_peersKept k ⟨by simpa using awake, other⟩ _) f

theorem Part.hear_peersKept {α : Type} (k : p.PeersKept) (x : Heard α) (payload : α → Payload) :
    (p.hear x payload).PeersKept := by
  simp only [Part.hear, Part.receiveFrame, Part.receiveChars]
  split
  · split
    · split
      · exact Part.receiveGood_peersKept k _
      · exact k.congr rfl
    · split
      · exact k.congr rfl
      · exact k.congr rfl
      · exact Part.receiveGood_peersKept k _
  · exact k

theorem Part.peerSilent_peersKept (k : p.PeersKept) {node : Nat} (peer : p.HasPeer node) :
    (p.peerSilent node).PeersKept := by
  have silent := k.modify node (fun r => { r with state := .silent, silentDeadline := none }) (fun _ => rfl) (.inr peer)
  exact silent.congr (by simp [Part.peerView, Part.peerSilent])

theorem Part.peerGone_peersKept (k : p.PeersKept) {node : Nat} (peer : p.HasPeer node) :
    (p.peerGone node).PeersKept := by
  have gone := k.modify node (fun r => { r with state := .gone, goneDeadline := none }) (fun _ => rfl) (.inr peer)
  exact gone.congr (by simp [Part.peerView, Part.peerGone])

end

section
variable (p : Part)

@[simp] theorem Part.beaconDue_records : p.beaconDue.peers.records = p.peers.records := by
  simp only [Part.beaconDue, Part.offerBeacon]
  (repeat' split) <;> simp [Part.skipBeacon]

/-! ### The key inputs (R204) -/

theorem Part.countPress_listens (k : Key) : (p.countPress k).doze.listens = p.doze.listens := by
  simp [Part.countPress]

/-- A press in DOZING wakes the part. -/
theorem Part.pressed_listens (k : Key) : (p.pressed k).doze.listens = p.doze.listens := by
  simp only [Part.pressed]
  split
  · split
    · exact p.countPress_listens k
    · next dozing => rw [Part.countPress_listens, Part.wake_listens, p.listens_of_dozing dozing]
    · rfl
  · rfl

@[simp] theorem Part.settleKey_listens (k : Key) : (p.settleKey k).doze.listens = p.doze.listens := by
  simp only [Part.settleKey]
  split <;> simp [Part.pressed_listens]

theorem Part.keyInput_peerView (k : Key) (low : Bool) : (p.keyInput k low).peerView = p.peerView := by
  simp only [Part.keyInput]
  (repeat' split) <;> simp [Part.peerView]

end

end Sys2Proof.Machine
end

section
namespace Sys2Proof.Machine

/-! ### Requests at their owners (R181) -/

section
variable (p : Part)

theorem Part.answerSetTime_peerView (x : SetTimeRequest) : (p.answerSetTime x).1.peerView = p.peerView := by
  simp only [Part.answerSetTime, Part.refuse]
  split <;> simp [Part.peerView]

theorem Part.answerLoadBegin_peerView (x : LoadBeginRequest) : (p.answerLoadBegin x).1.peerView = p.peerView := by
  simp only [Part.answerLoadBegin]
  (repeat' split) <;> rfl

theorem Part.answerLoadTrain_peerView (r : TrainRecord) : (p.answerLoadTrain r).1.peerView = p.peerView := by
  simp only [Part.answerLoadTrain, Part.refuse]
  (repeat' split) <;> simp [Part.peerView]

theorem Part.answerLoadEnd_peerView : p.answerLoadEnd.1.peerView = p.peerView := by
  simp only [Part.answerLoadEnd]
  (repeat' split) <;> rfl

theorem Part.answerLoadAbort_peerView : p.answerLoadAbort.1.peerView = p.peerView := by
  simp only [Part.answerLoadAbort]
  split <;> rfl

theorem Part.answerTrainUpdate_peerView (u : Option Update) : (p.answerTrainUpdate u).1.peerView = p.peerView := by
  simp only [Part.answerTrainUpdate, Part.refuse]
  (repeat' split) <;> simp [Part.peerView]

theorem Part.answerFaresBegin_peerView (edition : Nat) : (p.answerFaresBegin edition).1.peerView = p.peerView := by
  simp only [Part.answerFaresBegin]
  (repeat' split) <;> rfl

theorem Part.answerFaresItem_peerView (i : Option FareItem) : (p.answerFaresItem i).1.peerView = p.peerView := by
  simp only [Part.answerFaresItem]
  (repeat' split) <;> rfl

theorem Part.answerFaresEnd_peerView : p.answerFaresEnd.1.peerView = p.peerView := by
  simp only [Part.answerFaresEnd]
  split <;> rfl

theorem Part.answerFaresAbort_peerView : p.answerFaresAbort.1.peerView = p.peerView := by
  simp only [Part.answerFaresAbort]
  split <;> rfl

theorem Part.answerQuote_peerView (i : FareInputs) : (p.answerQuote i).1.peerView = p.peerView := by
  simp only [Part.answerQuote]
  (repeat' split) <;> rfl

theorem Part.takeIssue_peerView (x : IssueRequest) (needed : Nat) : (p.takeIssue x needed).1.peerView = p.peerView := by
  simp only [Part.takeIssue, Part.startIssue]
  (repeat' split) <;> simp [Part.peerView, Part.refuse]

theorem Part.checkIssue_peerView (x : IssueRequest) : (p.checkIssue x).1.peerView = p.peerView := by
  simp only [Part.checkIssue]
  split
  · rfl
  split
  · rfl
  split
  · rfl
  split
  · rfl
  split
  · rfl
  · exact Part.takeIssue_peerView _ _ _

theorem Part.answerIssue_peerView (x : IssueRequest) : (p.answerIssue x).1.peerView = p.peerView := by
  simp only [Part.answerIssue]
  split
  · rfl
  split
  · rfl
  split
  · rfl
  · exact p.checkIssue_peerView x

theorem Part.answerAbortIssue_peerView : p.answerAbortIssue.1.peerView = p.peerView := by
  simp only [Part.answerAbortIssue]
  (repeat' split) <;> simp [Part.peerView, Part.refuse]

theorem Part.voidSale_peerView (f : SaleFields) (n : Nat) : (p.voidSale f n).peerView = p.peerView := by
  simp only [Part.voidSale, Part.unsellPlaces, Part.topUpAfterVoid, Part.clearWindow]
  (repeat' split) <;> simp [Part.peerView]

theorem Part.answerVoid_peerView (t : TicketRef) : (p.answerVoid t).1.peerView = p.peerView := by
  simp only [Part.answerVoid]
  (repeat' split) <;> simp [Part.refuse, Part.voidSale_peerView]

theorem Part.answerReleaseJournal_peerView (n : Nat) : (p.answerReleaseJournal n).1.peerView = p.peerView := by
  simp only [Part.answerReleaseJournal]
  split <;> rfl

theorem Part.answerTakeNotices_peerView : p.answerTakeNotices.1.peerView = p.peerView := by
  simp only [Part.answerTakeNotices, Part.removeNotices, Part.storeLost]
  (repeat' split) <;> simp [Part.peerView]

theorem Part.answerReadPage_peerView : p.answerReadPage.1.peerView = p.peerView := by
  simp only [Part.answerReadPage]
  split <;> rfl

theorem Part.answerReadStatus_peerView (x : StatusRequest) : (p.answerReadStatus x).1.peerView = p.peerView := by
  simp only [Part.answerReadStatus]
  (repeat' split) <;> rfl

/-- A part that listens goes on listening in DOZING. -/
theorem Part.answerDoze_peerView (listens : p.doze.listens = true) : p.answerDoze.1.peerView = p.peerView := by
  simp only [Part.answerDoze]
  split
  · rfl
  · simp only [Part.peerView, listens]
    rfl

end

end Sys2Proof.Machine
end

section
namespace Sys2Proof.Machine

/-! ### START (R186, R187) -/

/-- Before a start record every record is ABSENT, whatever node number the record then names. -/
theorem Part.adopt_peersKept {p : Part} (k : p.PeersKept) (idle : p.awake = false) (r : StartRequest) :
    (p.adopt r).PeersKept := by
  obtain ⟨nodes, -, absent⟩ := k
  exact ⟨nodes, rfl, fun x mem _ => absent x mem (.inl idle)⟩

theorem Part.acceptStart_peerView (p : Part) (r : StartRequest) :
    (p.acceptStart r).peerView = (p.adopt r).peerView := by
  simp [Part.acceptStart, Part.peerView]

theorem Part.answerStart_peersKept {p : Part} (k : p.PeersKept) (idle : p.awake = false) (r : StartRequest) :
    (p.answerStart r).1.PeersKept := by
  simp only [Part.answerStart]
  split
  · exact k
  · exact (Part.adopt_peersKept k idle r).congr (p.acceptStart_peerView r)

/-! ### Resets, self-test and supplies (R193 to R197) -/

theorem Part.resetWith_peersKept (p : Part) (kind : ResetKind) : (p.resetWith kind).PeersKept := by
  refine ⟨rfl, rfl, fun r mem _ => ?_⟩
  obtain ⟨node, -, rfl⟩ := List.mem_map.mp mem
  rfl

/-- Self-test ends without a start record (R194). -/
theorem Part.endSelfTest_peersKept {p : Part} (k : p.PeersKept) (testing : p.selfTesting = true) (passes : Bool) :
    (p.endSelfTest passes).PeersKept := by
  simp only [Part.selfTesting, Bool.and_eq_true, decide_eq_true_eq] at testing
  have before : p.doze.listens = false := by simp [DozeKeys.listens, testing.2]
  have after : (p.endSelfTest passes).doze.listens = false := by
    simp only [Part.endSelfTest, DozeKeys.listens]
    split <;> rfl
  refine k.congr ?_
  rw [Part.peerView, Part.peerView, after, before]
  simp only [Part.endSelfTest]
  split <;> simp [Part.warmStart, Part.coldStart]

theorem Part.assertReset_peersKept {p : Part} (k : p.PeersKept) : p.assertReset.PeersKept := by
  simp only [Part.assertReset]
  split
  · exact Part.resetWith_peersKept _ _
  · exact k.congr rfl

theorem Part.releaseReset_peersKept {p : Part} (k : p.PeersKept) : p.releaseReset.PeersKept := by
  simp only [Part.releaseReset]
  split
  · exact k.congr rfl
  · exact k

/-! ### The unit port (R177 to R184) -/

/-- A part state that takes START does not listen to the halt (R183). -/
theorem Part.idle_of_start_taken {p : Part} (taken : p.doze.state.refusal .start = none) : p.awake = false := by
  rw [Part.awake_eq_listens, DozeKeys.listens]
  cases state : p.doze.state <;> simp_all [PartState.refusal]

/-- A part state that takes DOZE listens to the halt (R183). -/
theorem Part.listens_of_doze_taken {p : Part} (taken : p.doze.state.refusal .doze = none) : p.doze.listens = true := by
  rw [DozeKeys.listens]
  cases state : p.doze.state <;> simp_all [PartState.refusal]

/-- Every request that the part state takes keeps the law at its owner. -/
theorem Part.answer_peersKept {p : Part} (k : p.PeersKept) (r : Request) (taken : p.doze.state.refusal r.kind = none) :
    (p.answer r).1.PeersKept := by
  cases r with
  | start x => exact Part.answerStart_peersKept k (Part.idle_of_start_taken taken) x
  | restart => exact p.resetWith_peersKept _
  | setTime x => exact k.congr (p.answerSetTime_peerView x)
  | loadBegin x => exact k.congr (p.answerLoadBegin_peerView x)
  | loadTrain x => exact k.congr (p.answerLoadTrain_peerView x)
  | loadEnd => exact k.congr p.answerLoadEnd_peerView
  | loadAbort => exact k.congr p.answerLoadAbort_peerView
  | trainUpdate u => exact k.congr (p.answerTrainUpdate_peerView u)
  | faresBegin edition => exact k.congr (p.answerFaresBegin_peerView edition)
  | faresItem i => exact k.congr (p.answerFaresItem_peerView i)
  | faresEnd => exact k.congr p.answerFaresEnd_peerView
  | faresAbort => exact k.congr p.answerFaresAbort_peerView
  | quote i => exact k.congr (p.answerQuote_peerView i)
  | issue x => exact k.congr (p.answerIssue_peerView x)
  | abortIssue => exact k.congr p.answerAbortIssue_peerView
  | void t => exact k.congr (p.answerVoid_peerView t)
  | readJournal first => exact k
  | releaseJournal number => exact k.congr (p.answerReleaseJournal_peerView number)
  | takeNotices => exact k.congr p.answerTakeNotices_peerView
  | readPage => exact k.congr p.answerReadPage_peerView
  | readStatus x => exact k.congr (p.answerReadStatus_peerView x)
  | clearFlags => exact k.congr rfl
  | doze => exact k.congr (p.answerDoze_peerView (Part.listens_of_doze_taken taken))

theorem Part.putReply_peersKept {p : Part} (k : p.PeersKept) (kind : Nat) (a : Answer) :
    (p.putReply kind a).PeersKept := k.congr rfl

theorem Part.judgeState_peersKept {p : Part} (k : p.PeersKept) (r : Request) : (p.judgeState r).PeersKept := by
  simp only [Part.judgeState, Part.handle]
  split
  · exact Part.putReply_peersKept k _ _
  next taken =>
  have answered := Part.answer_peersKept k r taken
  split
  · exact answered
  · exact Part.putReply_peersKept answered _ _

theorem Part.wakeFor_peerView (p : Part) (kind : RequestKind) : (p.wakeFor kind).peerView = p.peerView := by
  simp only [Part.wakeFor]
  split
  · next asleep => simp [Part.peerView, Part.wake_listens, p.listens_of_dozing asleep.1]
  · rfl

theorem Part.takeRequest_peersKept {p : Part} (k : p.PeersKept) (kind : Nat) (r : Option Request) :
    (p.takeRequest kind r).PeersKept := by
  simp only [Part.takeRequest]
  split
  · exact Part.putReply_peersKept k _ _
  split
  · exact Part.putReply_peersKept k _ _
  split
  · exact Part.judgeState_peersKept (k.congr (p.wakeFor_peerView _)) _
  · exact Part.putReply_peersKept k _ _

/-- The port changed under the start record in force. -/
theorem Part.withPort_peersKept {p : Part} (k : p.PeersKept) {f : UnitPort → UnitPort}
    (record : (f p.port).record = p.port.record) : (p.withPort f).PeersKept :=
  k.congr (by simp [Part.peerView, record])

theorem UnitPort.found_record (u : UnitPort) (o : SendOutcome) : (u.found o).record = u.record := by
  cases o <;> rfl

theorem Part.endSend_peersKept {p : Part} (k : p.PeersKept) (judge : Part → Part)
    (judged : ∀ q : Part, q.PeersKept → (judge q).PeersKept) : (p.endSend judge).PeersKept := by
  have shifted : p.shiftStatus.PeersKept := Part.withPort_peersKept k rfl
  simp only [Part.endSend]
  split
  · split
    · exact Part.withPort_peersKept shifted (UnitPort.found_record _ _)
    · exact judged _ shifted
  · exact k

theorem Part.takeFrame_peersKept {p : Part} (k : p.PeersKept) (kind : Nat) (r : Option Request) :
    (p.takeFrame kind r).PeersKept :=
  Part.takeRequest_peersKept (Part.withPort_peersKept k (UnitPort.found_record _ _)) kind r

theorem Part.sendBytes_peersKept {p : Part} (k : p.PeersKept) (bytes : List Byte) : (p.sendBytes bytes).PeersKept := by
  refine Part.endSend_peersKept k _ fun q kept => ?_
  split
  · exact Part.putReply_peersKept (Part.withPort_peersKept kept (UnitPort.found_record _ _)) _ _
  · exact Part.takeFrame_peersKept kept _ _

theorem Part.fetch_peersKept {p : Part} (k : p.PeersKept) (bytes : Nat) : (p.fetch bytes).PeersKept :=
  Part.withPort_peersKept k rfl

/-- An operation behind a test. -/
theorem Part.PeersKept.ite {p q : Part} {c : Prop} [Decidable c] (k : p.PeersKept) (kept : c → q.PeersKept) :
    (if c then q else p).PeersKept := by
  split
  · exact kept ‹_›
  · exact k

theorem Part.transfer_peersKept {p : Part} (k : p.PeersKept) (bytes : List Byte) : (p.transfer bytes).PeersKept := by
  cases bytes with
  | nil => exact k
  | cons first rest =>
    rw [Part.transfer_cons]
    split
    · exact Part.sendBytes_peersKept k rest
    split
    · exact k.ite fun _ => Part.fetch_peersKept k _
    · exact k.ite fun _ => Part.withPort_peersKept k rfl

theorem Part.send_peersKept {α : Type} {p : Part} (k : p.PeersKept) (x : Sent α) (request : α → Request) :
    (p.send x request).PeersKept := by
  cases x with
  | clean r => exact Part.endSend_peersKept k _ (fun q kept => Part.takeFrame_peersKept kept _ _)
  | raw bytes => exact Part.transfer_peersKept k bytes

/-! ### What every step keeps -/

/-- A silence that has come is a peer's (R140). -/
theorem Part.PeersKept.hasPeer_of_silentCame {p : Part} (k : p.PeersKept) {node : Nat}
    (came : p.silentCame node = true) : p.HasPeer node := by
  simp only [Part.silentCame, Bool.and_eq_true] at came
  obtain ⟨-, due⟩ := came
  split at due
  · cases due
  next r found =>
  simp only [PeerRecord.silentDue, Bool.and_eq_true, decide_eq_true_eq] at due
  exact k.hasPeer found (by simp [due.1])

theorem Part.PeersKept.hasPeer_of_goneCame {p : Part} (k : p.PeersKept) {node : Nat}
    (came : p.goneCame node = true) : p.HasPeer node := by
  simp only [Part.goneCame, Bool.and_eq_true] at came
  obtain ⟨-, due⟩ := came
  split at due
  · cases due
  next r found =>
  simp only [PeerRecord.goneDue, Bool.and_eq_true, decide_eq_true_eq] at due
  exact k.hasPeer found (by simp [due.1])

theorem Part.refreshCame_peerView (p : Part) (t : TrainKey) :
    (match p.refreshCame t with | none => p | some e => p.refreshEntry e).peerView = p.peerView := by
  split
  · rfl
  · simp [Part.peerView]

theorem Part.askCame_peerView (p : Part) :
    (match p.askCame with | none => p | some i => p.askAgain i).peerView = p.peerView := by
  split
  · rfl
  · simp [Part.peerView]

theorem Part.issueCame_peerView (p : Part) :
    (match p.issueCame with
      | none => p
      | some i => p.endIssue i .quotaExhausted LedgerRecord.returnReserved).peerView = p.peerView := by
  split
  · rfl
  · simp [Part.peerView]

/-- A command takes the part where the peer table's law holds. -/
theorem exec_peersKept (c : Instr) (s : State) (k : s.part.PeersKept) :
    ∃ q : Part, exec c s = .next ⟨q, s.pending⟩ ∧ q.PeersKept := by
  cases c with
  | start x => exact ⟨_, rfl, Part.send_peersKept k x _⟩
  | restart x => exact ⟨_, rfl, Part.send_peersKept k x _⟩
  | setTime x => exact ⟨_, rfl, Part.send_peersKept k x _⟩
  | loadBegin x => exact ⟨_, rfl, Part.send_peersKept k x _⟩
  | loadTrain x => exact ⟨_, rfl, Part.send_peersKept k x _⟩
  | loadEnd x => exact ⟨_, rfl, Part.send_peersKept k x _⟩
  | loadAbort x => exact ⟨_, rfl, Part.send_peersKept k x _⟩
  | trainUpdate x => exact ⟨_, rfl, Part.send_peersKept k x _⟩
  | faresBegin x => exact ⟨_, rfl, Part.send_peersKept k x _⟩
  | faresItem x => exact ⟨_, rfl, Part.send_peersKept k x _⟩
  | faresEnd x => exact ⟨_, rfl, Part.send_peersKept k x _⟩
  | faresAbort x => exact ⟨_, rfl, Part.send_peersKept k x _⟩
  | quote x => exact ⟨_, rfl, Part.send_peersKept k x _⟩
  | issue x => exact ⟨_, rfl, Part.send_peersKept k x _⟩
  | abortIssue x => exact ⟨_, rfl, Part.send_peersKept k x _⟩
  | void x => exact ⟨_, rfl, Part.send_peersKept k x _⟩
  | readJournal x => exact ⟨_, rfl, Part.send_peersKept k x _⟩
  | releaseJournal x => exact ⟨_, rfl, Part.send_peersKept k x _⟩
  | takeNotices x => exact ⟨_, rfl, Part.send_peersKept k x _⟩
  | readPage x => exact ⟨_, rfl, Part.send_peersKept k x _⟩
  | readStatus x => exact ⟨_, rfl, Part.send_peersKept k x _⟩
  | clearFlags x => exact ⟨_, rfl, Part.send_peersKept k x _⟩
  | doze x => exact ⟨_, rfl, Part.send_peersKept k x _⟩
  | fetch bytes => exact ⟨_, rfl, k.ite fun _ => Part.fetch_peersKept k bytes⟩
  | powerOn => exact ⟨_, rfl, Part.resetWith_peersKept _ _⟩
  | resetPin => exact ⟨_, rfl, Part.assertReset_peersKept k⟩
  | resetPinRelease => exact ⟨_, rfl, Part.releaseReset_peersKept k⟩
  | mainSupplyLoss => exact ⟨_, rfl, k.congr rfl⟩
  | backupLoss => exact ⟨_, rfl, k.congr rfl⟩
  | selfTestEnd passes => exact ⟨_, rfl, k.ite fun testing => Part.endSelfTest_peersKept k testing passes⟩
  | lineTimeEnd => exact ⟨_, rfl, k.ite fun _ => Part.resetWith_peersKept _ _⟩
  | minuteEvent => exact ⟨_, rfl, k.ite fun _ => k.congr (by simp [Part.peerView])⟩
  | slewPeriod => exact ⟨_, rfl, k.ite fun _ => k.congr (by simp [Part.peerView])⟩
  | sourceDeadline => exact ⟨_, rfl, k.ite fun _ => k.congr (by simp [Part.peerView])⟩
  | referenceLapse => exact ⟨_, rfl, k.ite fun _ => k.congr (by simp [Part.peerView])⟩
  | refreshDeadline t => exact ⟨_, rfl, k.congr (s.part.refreshCame_peerView t)⟩
  | intervalDeadline => exact ⟨_, rfl, k.ite fun _ => k.congr (by simp [Part.peerView])⟩
  | askTime => exact ⟨_, rfl, k.congr s.part.askCame_peerView⟩
  | issueDeadline => exact ⟨_, rfl, k.congr s.part.issueCame_peerView⟩
  | watchExpiry asker number => exact ⟨_, rfl, k.ite fun _ => k.congr rfl⟩
  | takenDeadline t asker number => exact ⟨_, rfl, k.ite fun _ => k.congr (by simp [Part.peerView])⟩
  | silentDeadline node =>
    exact ⟨_, rfl, k.ite fun came => Part.peerSilent_peersKept k (k.hasPeer_of_silentCame came)⟩
  | goneDeadline node =>
    exact ⟨_, rfl, k.ite fun came => Part.peerGone_peersKept k (k.hasPeer_of_goneCame came)⟩
  | beaconDeadline => exact ⟨_, rfl, k.ite fun _ => k.congr (by simp [Part.peerView])⟩
  | holdOffDeadline => exact ⟨_, rfl, k.ite fun _ => k.congr rfl⟩
  | keyInputChange key low => exact ⟨_, rfl, k.congr (s.part.keyInput_peerView key low)⟩
  | settleDeadline key => exact ⟨_, rfl, k.ite fun _ => k.congr (by simp [Part.peerView])⟩
  | lineBusy => exact ⟨_, rfl, k.ite fun _ => k.congr (by simp [Part.peerView])⟩
  | lineQuiet => exact ⟨_, rfl, k.ite fun _ => k.congr (by simp [Part.peerView])⟩
  | slotEnd => exact ⟨_, rfl, k.ite fun _ => k.congr (by simp [Part.peerView])⟩
  | sentWhole => exact ⟨_, rfl, k.ite fun _ => k.congr (by simp [Part.peerView])⟩
  | collision => exact ⟨_, rfl, k.ite fun _ => k.congr (by simp [Part.peerView])⟩
  | breakEnd => exact ⟨_, rfl, k.ite fun _ => k.congr (by simp [Part.peerView])⟩
  | badFrame => exact ⟨_, rfl, k.ite fun _ => k.congr rfl⟩
  | malformedFrame => exact ⟨_, rfl, k.ite fun _ => k.congr rfl⟩
  | beacon x => exact ⟨_, rfl, Part.hear_peersKept k x _⟩
  | train x => exact ⟨_, rfl, Part.hear_peersKept k x _⟩
  | ask x => exact ⟨_, rfl, Part.hear_peersKept k x _⟩
  | grant x => exact ⟨_, rfl, Part.hear_peersKept k x _⟩
  | taken x => exact ⟨_, rfl, Part.hear_peersKept k x _⟩

/-- A millisecond moves line time and the clock alone (R1, R2). -/
theorem Part.tick_peerView (p : Part) : p.tick.peerView = p.peerView := by
  simp only [Part.tick, Part.tickUp, Part.tickDown]
  (repeat' split) <;> simp only [Part.peerView]

/-- Settles O11: the idle millisecond leaves what the law reads, and every command keeps the law. -/
theorem peerTableStaysWhole : Obligations.PeerTableStaysWhole := by
  intro s t k h
  simp only [step] at h
  split at h
  · cases h
    exact k.congr s.part.tick_peerView
  · next c rest _ =>
    obtain ⟨q, run, kept⟩ := exec_peersKept c { s with pending := rest } k
    rw [run] at h
    cases h
    exact kept

end Sys2Proof.Machine
end

section
namespace Sys2Proof.Machine

/-! ### Offers to the transmit store (R151, R152) -/

theorem LineInterface.hasRoom_iff (l : LineInterface) (c : FrameClass) :
    l.hasRoom c = true ↔ l.slots.length < 24 ∧ (c = .urgent ∨ l.used .normal + l.used .bulk < 22) := by
  simp [LineInterface.hasRoom]

/-- The choice that follows an offer counts nothing. -/
@[simp] theorem Part.settleTransmitter_counts (p : Part) : p.settleTransmitter.line.counts = p.line.counts := by
  simp only [Part.settleTransmitter, Part.choose, Part.runWait]
  repeat' split
  all_goals rfl

/-- On a busy line no choice follows. -/
theorem Part.settleTransmitter_of_busy {p : Part} (busy : p.line.busy = true) : p.settleTransmitter = p := by
  simp [Part.settleTransmitter, busy]

theorem Part.offer_of_room {p : Part} {c : FrameClass} (room : p.line.hasRoom c = true) (b : FrameBody) :
    p.offer c b = { p with line := p.line.push c b }.settleTransmitter := by
  simp [Part.offer, room]

/-- A slot without its wait, by its other fields. -/
def Slot.rest (sl : Slot) : Nat × FrameClass × Nat × FrameBody × Nat := (sl.id, sl.cls, sl.seq, sl.body, sl.attempts)

theorem Part.offer_slots (p : Part) (c : FrameClass) (b : FrameBody) (room : p.line.hasRoom c = true) :
    (p.offer c b).line.slots.map Slot.rest
      = p.line.slots.map Slot.rest ++ [(p.line.nextFrame, c, p.line.nextSeq, b, 0)] := by
  have slots := congrArg (List.map Slot.rest) (p.offer_unwaited c b room)
  simp only [List.map_append, List.map_map, List.map_cons, List.map_nil] at slots
  exact slots

/-- An operation that leaves every block but line and draw counter. -/
theorem Part.eq_of_frame_board {p q : Part}
    (frame : q.lineTime = p.lineTime ∧ q.supply = p.supply ∧ q.retained = p.retained ∧ q.start = p.start
      ∧ q.clock = p.clock ∧ q.page = p.page ∧ q.fares = p.fares ∧ q.sales = p.sales ∧ q.quota = p.quota
      ∧ q.peers = p.peers ∧ q.notices = p.notices ∧ q.port = p.port ∧ q.doze = p.doze) (board : q.board = p.board) :
    q = { p with line := q.line, draws := q.draws } :=
  (Part.eq_of_frame frame).trans (by rw [board])

/-- Settles O53: with room the slot pushed and the choice after it, without room the count alone. -/
theorem offerTakesTheNextNumber : Obligations.OfferTakesTheNextNumber := by
  intro p c b free
  have roomy : p.line.hasRoom c = true ↔ free := p.line.hasRoom_iff c
  constructor
  · intro isFree
    have room := roomy.mpr isFree
    have offered := Part.offer_of_room room b
    refine ⟨by simp [offered], by simp [offered, LineInterface.push], ?_, p.offer_slots c b room, fun busy => ?_, ?_⟩
    · have mem : (p.line.newSlot c b).rest ∈ (p.offer c b).line.slots.map Slot.rest := by
        rw [p.offer_slots c b room]
        exact List.mem_append_right _ (List.mem_singleton_self _)
      obtain ⟨sl, stored, same⟩ := List.mem_map.mp mem
      simp only [Slot.rest, LineInterface.newSlot, Prod.mk.injEq] at same
      obtain ⟨id, cls, seq, body, attempts⟩ := same
      exact ⟨sl, stored, id, seq, cls, body, attempts⟩
    · rw [offered, Part.settleTransmitter_of_busy (by exact busy)]
      rfl
    · exact Part.eq_of_frame_board (by simp) (by simp)
  · intro full
    have noRoom : p.line.hasRoom c = false := by simpa using mt roomy.mp full
    cases c <;> simp [Part.offer, noRoom, LineCounts.starve, bump, satAdd]

end Sys2Proof.Machine
end

section
namespace Sys2Proof.Machine

/-! ### The head of the highest class (R154) -/

theorem find?_cls_none {l : List Slot} {c : FrameClass} (absent : ∀ x ∈ l, x.cls ≠ c) :
    l.find? (fun x => x.cls = c) = none := by
  simpa [List.find?_eq_none] using absent

theorem find?_cls_head {before after : List Slot} {sl : Slot} (first : ∀ x ∈ before, x.cls ≠ sl.cls) :
    (before ++ sl :: after).find? (fun x => x.cls = sl.cls) = some sl := by
  rw [List.find?_append, find?_cls_none first]
  simp

/-- The choice takes the head of the highest class that the store holds. -/
theorem LineInterface.head?_of_highest {l : LineInterface} {sl : Slot} (head : HeadOfHighestClass l sl) :
    l.head? = some sl := by
  obtain ⟨before, after, slots, first, normal, bulk⟩ := head
  have found := find?_cls_head (after := after) first
  rw [← slots] at found
  cases cls : sl.cls with
  | urgent => simp [LineInterface.head?, ← cls, found]
  | normal =>
    have noUrgent := find?_cls_none (normal cls)
    simp [LineInterface.head?, noUrgent, ← cls, found]
  | bulk =>
    have absent : ∀ c ≠ .bulk, l.slots.find? (fun x => x.cls = c) = none :=
      fun c other => find?_cls_none fun x hx => bulk cls x hx ▸ other.symm
    simp [LineInterface.head?, absent .urgent (by decide), absent .normal (by decide), ← cls, found]

/-- The slot of a frame number that no other slot has. -/
theorem LineInterface.find_of_mem {l : LineInterface} {sl : Slot} (mem : sl ∈ l.slots)
    (nodup : (l.slots.map Slot.id).Nodup) : l.find sl.id = some sl := by
  cases found : l.find sl.id with
  | none =>
    have absent : ∀ x ∈ l.slots, x.id ≠ sl.id := by simpa [LineInterface.find, List.find?_eq_none] using found
    exact absurd rfl (absent sl mem)
  | some x => rw [List.inj_on_of_nodup_map nodup (List.mem_of_find?_eq_some found) mem (LineInterface.find_id found)]

/-! ### The wait of a chosen frame (R154 to R157) -/

/-- A fresh wait is the base of its class and up to 2^m − 1 slots (R155). -/
theorem freshWait_bounds (c : FrameClass) (attempts draw : Nat) :
    c.baseWait ≤ freshWait c attempts draw
      ∧ freshWait c attempts draw ≤ c.baseWait + (2 ^ min (attempts + 1) 5 - 1) := by
  have below := Nat.mod_lt (Config.backoffDraw draw) (Nat.two_pow_pos (min (attempts + 1) 5))
  simp only [freshWait]
  omega

/-- What an attempt sends depends on the line by the number of used slots alone. -/
theorem Part.payloadOf_withLine (p : Part) (l : LineInterface) (same : l.slots.length = p.line.slots.length)
    (b : FrameBody) : ({ p with line := l }).payloadOf b = p.payloadOf b := by
  cases b with
  | beacon =>
    have free : l.freeSlots = p.line.freeSlots := by simp [LineInterface.freeSlots, same]
    simp only [Part.payloadOf, Part.beaconNow, free]
    rfl
  | _ => rfl

/-- From `p` to `q` a chosen frame's wait becomes `w`: it counts the wait down, or is sent at once at 0. -/
structure Part.Waits (p q : Part) (sl : Slot) (w : Nat) : Prop where
  own : q.line.find sl.id = some { sl with wait := some w }
  others : OthersKept p.line q.line sl.id
  counting : 0 < w → q.line.tx = .counting sl.id ∧ q.line.busy = p.line.busy
  sending : w = 0 → q.line.tx = .sending sl.id ∧ q.line.busy = true
    ∧ q.line.onLine = some ⟨p.ownNode, sl.seq, p.payloadOf sl.body⟩
  nextSeq : q.line.nextSeq = p.line.nextSeq
  counts : q.line.counts = p.line.counts
  frame : q = { p with line := q.line }

theorem Part.runWait_waits (p : Part) {sl : Slot} (w : Nat) (found : p.line.find sl.id = some sl) :
    p.Waits (p.runWait sl w) sl w := by
  let l := { p.line.modify sl.id (fun s => { s with wait := some w }) with tx := .counting sl.id }
  have own : l.find sl.id = some { sl with wait := some w } :=
    (p.line.find_modify sl.id (fun s => { s with wait := some w }) fun _ => rfl).trans (by rw [found]; rfl)
  have others : OthersKept p.line l sl.id :=
    fun f other => p.line.find_modify_other sl.id f (fun s => { s with wait := some w }) (fun _ => rfl) other
  have size : l.slots.length = p.line.slots.length := List.length_map _
  by_cases zero : w = 0
  · have run : p.runWait sl w = ({ p with line := l }).startAttempt sl := if_pos zero
    rw [run]
    refine ⟨own, others, fun pos => absurd zero pos.ne', fun _ => ⟨rfl, rfl, ?_⟩, rfl, rfl, rfl⟩
    rw [← p.payloadOf_withLine l size sl.body]
    rfl
  · have run : p.runWait sl w = { p with line := l } := if_neg zero
    rw [run]
    exact ⟨own, others, fun _ => ⟨rfl, rfl⟩, fun none => absurd none zero, rfl, rfl, rfl⟩

/-! ### LINE BUSY, LINE QUIET and SLOT END (R147, R154 to R156) -/

/-- The part with a line that has just become quiet. -/
def Part.quieted (p : Part) : Part :=
  { p with line := { p.line with busy := false, changedAt := p.lineTime } }

/-- Neither the quiet line nor a draw changes what an attempt sends. -/
theorem Part.payloadOf_quieted (p : Part) (n : Nat) (b : FrameBody) :
    ({ p.quieted with draws := n }).payloadOf b = p.payloadOf b := by
  cases b <;> rfl

theorem Part.lineQuiet_eq {p : Part} (busy : p.line.busy = true) (off : p.line.tx.driving = false) :
    p.lineQuiet = if p.awake && p.line.tx.chooses then p.quieted.choose else p.quieted := by
  simp [Part.lineQuiet, busy, off, Part.quieted, Part.withLine]

/-- The wait that a choice gives a slot: the one it holds, or a fresh one (R154, R155). -/
def Part.chosenWait (p : Part) (sl : Slot) : Nat := sl.wait.getD (freshWait sl.cls sl.attempts p.draws)

theorem Part.chosenWait_bounds (p : Part) {sl : Slot} (fresh : sl.wait = none) :
    sl.cls.baseWait ≤ p.chosenWait sl
      ∧ p.chosenWait sl ≤ sl.cls.baseWait + (2 ^ min (sl.attempts + 1) 5 - 1) := by
  simpa [Part.chosenWait, fresh] using freshWait_bounds sl.cls sl.attempts p.draws

theorem Part.choose_of_empty {p : Part} (empty : p.line.slots = []) : p.choose = p := by
  simp [Part.choose, LineInterface.head?, empty]

/-- A choice is one draw at most, and the wait of the head. -/
theorem Part.choose_waits (p : Part) {sl : Slot} (head : p.line.head? = some sl) (found : p.line.find sl.id = some sl) :
    ∃ n, ({ p with draws := n } : Part).Waits p.choose sl (p.chosenWait sl) := by
  cases wait : sl.wait with
  | none =>
    have chosen : p.choose = ({ p with draws := p.draws + 1 }).runWait sl (p.chosenWait sl) := by
      simp [Part.choose, head, wait, Part.chosenWait]
    exact ⟨p.draws + 1, chosen ▸ Part.runWait_waits _ _ found⟩
  | some w =>
    have chosen : p.choose = p.runWait sl (p.chosenWait sl) := by
      simp [Part.choose, head, wait, Part.chosenWait]
    exact ⟨p.draws, chosen ▸ Part.runWait_waits _ _ found⟩

theorem Part.slotEnd_eq {p : Part} {f : Nat} {sl : Slot} (counting : p.line.tx = .counting f)
    (quiet : p.line.busy = false) (found : p.line.find f = some sl) :
    p.slotEnd = p.runWait sl (sl.wait.getD 0 - 1) := by
  simp [Part.slotEnd, counting, quiet, found]

/-- Settles O54: each command by the line and the transmitter, a choice and a slot by the wait they leave. -/
theorem busyQuietAndSlots : Obligations.BusyQuietAndSlots := by
  intro s up
  refine ⟨fun quiet => ?_, fun busy => ?_, fun busy awake empty idle => ?_, fun busy asleep off => ?_,
    fun sl busy awake choosing head nodup => ?_, fun f sl w counting quiet found wait => ?_⟩
  · simp only [exec_lineBusy, up, if_true, Part.lineBusy, quiet, Part.withLine]
    cases s.part.line.tx <;> rfl
  · simp [up, Part.lineBusy, busy]
  · have noChoice : s.part.quieted.choose = s.part.quieted := Part.choose_of_empty empty
    have run : s.part.lineQuiet = s.part.quieted := by
      simp [Part.lineQuiet_eq busy, idle, Transmitter.driving, noChoice]
    simp [up, run, Part.quieted]
  · have notDriving : s.part.line.tx.driving = false := by
      cases tx : s.part.line.tx with
      | sending f => exact absurd tx (off f).1
      | breaking f => exact absurd tx (off f).2
      | _ => rfl
    simp [up, Part.lineQuiet_eq busy notDriving, asleep, Part.quieted]
  · have mode : s.part.line.tx.driving = false ∧ s.part.line.tx.chooses = true := by
      rcases choosing with idle | ⟨f, paused⟩
      · simp [idle, Transmitter.driving, Transmitter.chooses]
      · simp [paused, Transmitter.driving, Transmitter.chooses]
    have first : s.part.line.head? = some sl := LineInterface.head?_of_highest head
    have found : s.part.line.find sl.id = some sl := by
      obtain ⟨before, after, slots, -⟩ := head
      exact LineInterface.find_of_mem (by simp [slots]) nodup
    have run : s.part.lineQuiet = s.part.quieted.choose := by simp [Part.lineQuiet_eq busy mode.1, awake, mode.2]
    obtain ⟨n, own, others, counts, sends, seq, starved, frame⟩ := s.part.quieted.choose_waits first found
    refine ⟨⟨s.part.quieted.choose, s.pending⟩, s.part.quieted.chosenWait sl, by simp [up, run], rfl,
      fun w wait => by simp [Part.chosenWait, wait], fun none => s.part.quieted.chosenWait_bounds none, own, others,
      counts, fun zero => ?_, seq, starved, Part.eq_of_frame_board (by simp [Part.quieted]) (by simp [Part.quieted])⟩
    obtain ⟨tx, line, sent⟩ := sends zero
    exact ⟨tx, line, sent.trans (by rw [Part.payloadOf_quieted]; rfl)⟩
  · obtain rfl := LineInterface.find_id found
    obtain ⟨own, others, counts, sends, seq, starved, frame⟩ := s.part.runWait_waits (w - 1) found
    refine ⟨⟨s.part.runWait sl (w - 1), s.pending⟩, by simp [up, Part.slotEnd_eq counting quiet found, wait], rfl, own,
      others, fun more => quiet ▸ counts (by omega), fun last => sends (by omega), frame⟩

end Sys2Proof.Machine
end

section
namespace Sys2Proof.Machine

/-! ### Bytes and the numbers they spell (12: encodings) -/

@[simp] theorem beBytes_length (w n : Nat) : (beBytes w n).length = w := by
  induction w with
  | zero => rfl
  | succ w ih => simp [beBytes, ih]

/-- Bytes read one after another: the number read so far, shifted, and the rest. -/
theorem foldl_beBytes (w n a : Nat) :
    (beBytes w n).foldl (fun a b => a * 256 + b.toNat) a = a * 256 ^ w + n % 256 ^ w := by
  induction w generalizing a with
  | zero => simp [beBytes, Nat.mod_one]
  | succ w ih =>
    have split : n % 256 ^ (w + 1) = n % 256 ^ w + 256 ^ w * (n / 256 ^ w % 256) := by rw [pow_succ, Nat.mod_mul]
    simp only [beBytes, List.foldl_cons, ih, BitVec.toNat_ofNat, split]
    ring

theorem beNat_beBytes {w n : Nat} (fits : n < 256 ^ w) : beNat (beBytes w n) = n := by
  rw [beNat, foldl_beBytes, Nat.mod_eq_of_lt fits]
  simp

/-! ### Fields at an offset

A layout is a concatenation; a reader at an offset passes the fields before it and reads the one that stands there. -/

theorem drop_beBytes_append {v off : Nat} (n : Nat) (l : List Byte) (past : v ≤ off) :
    (beBytes v n ++ l).drop off = l.drop (off - v) := by
  rw [List.drop_append, List.drop_eq_nil_of_le (by simpa using past)]
  simp

theorem fieldAt_here {w n : Nat} (l : List Byte) (fits : n < 256 ^ w) : fieldAt 0 w (beBytes w n ++ l) = n := by
  rw [fieldAt, List.drop_zero, List.take_left' (beBytes_length w n), beNat_beBytes fits]

theorem fieldAt_last {w n : Nat} (fits : n < 256 ^ w) : fieldAt 0 w (beBytes w n) = n := by
  simpa using fieldAt_here [] fits

theorem fieldAt_past {v off : Nat} (w n : Nat) (l : List Byte) (past : v ≤ off) :
    fieldAt off w (beBytes v n ++ l) = fieldAt (off - v) w l := by
  rw [fieldAt, drop_beBytes_append n l past, fieldAt]

theorem trainAt_here {t : TrainKey} (l : List Byte) (fits : t.fits = true) : trainAt 0 (t.bytes ++ l) = t := by
  simp only [TrainKey.fits, Bool.and_eq_true, decide_eq_true_eq] at fits
  obtain ⟨id, day⟩ := fits
  simp only [trainAt, TrainKey.bytes, List.append_assoc]
  rw [fieldAt_here _ (by omega), fieldAt_past _ _ _ (by omega), fieldAt_here _ (by omega)]

theorem TrainKey.bytes_length (t : TrainKey) : t.bytes.length = 4 := by simp [TrainKey.bytes]

theorem fieldAt_past_train {off : Nat} (w : Nat) (t : TrainKey) (l : List Byte) (past : 4 ≤ off) :
    fieldAt off w (t.bytes ++ l) = fieldAt (off - 4) w l := by
  simp only [TrainKey.bytes, List.append_assoc]
  rw [fieldAt_past _ _ _ (by omega), fieldAt_past _ _ _ (by omega), Nat.sub_sub]

theorem trainAt_past {v off : Nat} (n : Nat) (l : List Byte) (past : v ≤ off) :
    trainAt off (beBytes v n ++ l) = trainAt (off - v) l := by
  simp only [trainAt, fieldAt_past _ _ _ past, fieldAt_past _ _ _ (le_trans past (Nat.le_add_right off 2)),
    Nat.sub_add_comm past]

theorem codesAt_past {v off : Nat} (n : Nat) (l : List Byte) (past : v ≤ off) :
    codesAt off (beBytes v n ++ l) = codesAt (off - v) l := by
  simp only [codesAt, fieldAt_past _ _ _ past, drop_beBytes_append n l (le_trans past (Nat.le_add_right off 1)),
    Nat.sub_add_comm past]

/-- The codes of a calling list read back from their places. -/
theorem map_toNat_ofNat {l : List Nat} (bytes : ∀ c ∈ l, c < 256) :
    (l.map (BitVec.ofNat 8)).map BitVec.toNat = l := by
  rw [List.map_map]
  refine (List.map_congr_left fun c hc => ?_).trans (List.map_id l)
  simp [Nat.mod_eq_of_lt (bytes c hc)]

theorem callingBytes_length {l : List Nat} (short : l.length ≤ 8) : (callingBytes l).length = 9 := by
  simp only [callingBytes, padTo, List.length_append, beBytes_length, List.length_replicate, List.length_map,
    List.length_take]
  omega

theorem codesAt_calling {l : List Nat} (short : l.length ≤ 8) (bytes : ∀ c ∈ l, c < 256) :
    codesAt 0 (callingBytes l) = l := by
  have count : fieldAt 0 1 (callingBytes l) = l.length := fieldAt_here _ (by omega)
  have places : ((callingBytes l).drop 1).take 8
      = l.map (BitVec.ofNat 8) ++ List.replicate (8 - l.length) 0 := by
    rw [callingBytes, drop_beBytes_append _ _ le_rfl]
    simp [padTo, List.take_of_length_le, short]
  simp only [codesAt, count, short, if_true, Nat.zero_add, places, List.map_append, map_toNat_ofNat bytes]
  simp

end Sys2Proof.Machine
end

section
namespace Sys2Proof.Machine

/-! ### Payloads read back (R145, R118, R205) -/

theorem Roles.ofCode_code (r : Roles) : Roles.ofCode r.code = r := by
  obtain ⟨sells, shows, uplink⟩ := r
  cases sells <;> cases shows <;> cases uplink <;> rfl

theorem Roles.code_lt (r : Roles) : r.code < 256 ^ 1 := by
  have sells := Bool.toNat_le r.sells
  have shows := Bool.toNat_le r.shows
  have uplink := Bool.toNat_le r.uplink
  simp only [Roles.code]
  omega

theorem BeaconPayload.parse_bytes {b : BeaconPayload} (fits : b.fits = true) : BeaconPayload.parse b.bytes = b := by
  simp only [BeaconPayload.fits, Bool.and_eq_true, decide_eq_true_eq] at fits
  obtain ⟨⟨⟨⟨⟨⟨day, ms⟩, stratum⟩, seller⟩, timetable⟩, fare⟩, free⟩ := fits
  have roles := b.roles.code_lt
  simp (disch := omega) only [BeaconPayload.parse, BeaconPayload.bytes, List.append_assoc, fieldAt_here, fieldAt_past,
    fieldAt_last, Roles.ofCode_code, Nat.reduceSub]

theorem Estimate.ofCode_code (e : Estimate) : Estimate.ofCode e.code = some e := by cases e <;> rfl

theorem Estimate.code_lt (e : Estimate) : e.code < 256 ^ 1 := by cases e <;> decide

/-- The two flags of an update's flag byte (R205). -/
theorem flagByte (a b : Bool) :
    a.toNat + 2 * b.toNat < 256 ^ 1 ∧ (a.toNat + 2 * b.toNat).testBit 0 = a
      ∧ (a.toNat + 2 * b.toNat).testBit 1 = b := by
  cases a <;> cases b <;> decide

/-- An absent minute has the mark that no minute of an update has (12, Encodings). -/
theorem minute_read {m : Option Nat} (range : optionally (fun m => decide (m ≤ 1799)) m = true) :
    m.getD 65535 < 256 ^ 2 ∧ (if m.getD 65535 = 65535 then none else some (m.getD 65535)) = m := by
  cases m with
  | none => simp
  | some m =>
    have small : m ≤ 1799 := by simpa [optionally] using range
    exact ⟨by simp; omega, by simp; omega⟩

theorem NewTrain.bytes_length {b : NewTrain} (range : b.inRange = true) : b.bytes.length = 13 := by
  simp only [NewTrain.inRange, Bool.and_eq_true, decide_eq_true_eq] at range
  obtain ⟨⟨-, short⟩, -⟩ := range
  simp [NewTrain.bytes, callingBytes_length short]

/-- The new-train block read back from its place after the first 11 bytes (R205). -/
theorem NewTrain.read_bytes {b : NewTrain} (range : b.inRange = true) :
    (⟨fieldAt 0 1 b.bytes, fieldAt 1 2 b.bytes, fieldAt 3 1 b.bytes, codesAt 4 b.bytes⟩ : NewTrain) = b := by
  simp only [NewTrain.inRange, Bool.and_eq_true, decide_eq_true_eq, List.all_eq_true] at range
  obtain ⟨⟨⟨⟨destination, scheduled⟩, total⟩, short⟩, codes⟩ := range
  have calling := codesAt_calling short fun c hc => Nat.lt_of_le_of_lt (codes c hc) (by decide)
  simp (disch := omega) only [NewTrain.bytes, List.append_assoc, fieldAt_here, fieldAt_past, codesAt_past, calling,
    Nat.reduceSub]

/-- The first 11 bytes of an update. -/
def Update.head (u : Update) : List Byte :=
  u.train.bytes ++ beBytes 2 u.serial ++ beBytes 1 u.estimate.code ++ minuteBytes u.expected ++ beBytes 1 u.platform
    ++ beBytes 1 (u.isNew.toNat + 2 * u.announce.toNat)

theorem Update.head_length (u : Update) : u.head.length = 11 := by
  simp [Update.head, TrainKey.bytes_length, minuteBytes]

theorem Update.bytes_eq (u : Update) : u.bytes = u.head ++ (u.newTrain.map NewTrain.bytes).getD [] := by
  simp only [Update.bytes, Update.head]
  cases u.newTrain <;> rfl

theorem Update.fieldAt_block {off : Nat} (u : Update) (w : Nat) (l : List Byte) :
    fieldAt (11 + off) w (u.head ++ l) = fieldAt off w l := by
  rw [fieldAt, ← u.head_length, List.drop_length_add_append, fieldAt]

theorem Update.codesAt_block {off : Nat} (u : Update) (l : List Byte) :
    codesAt (11 + off) (u.head ++ l) = codesAt off l := by
  have places : (u.head ++ l).drop (11 + off + 1) = l.drop (off + 1) := by
    rw [Nat.add_assoc, ← u.head_length, List.drop_length_add_append]
  simp only [codesAt, u.fieldAt_block, places]

/-- The fields of the first 11 bytes, whatever stands behind them. -/
theorem Update.read_head {u : Update} (ok : u.ok = true) (l : List Byte) :
    trainAt 0 (u.head ++ l) = u.train ∧ fieldAt 4 2 (u.head ++ l) = u.serial
      ∧ fieldAt 6 1 (u.head ++ l) = u.estimate.code ∧ fieldAt 7 2 (u.head ++ l) = u.expected.getD 65535
      ∧ fieldAt 9 1 (u.head ++ l) = u.platform
      ∧ fieldAt 10 1 (u.head ++ l) = u.isNew.toNat + 2 * u.announce.toNat := by
  simp only [Update.ok, Bool.and_eq_true, decide_eq_true_eq] at ok
  obtain ⟨⟨⟨⟨⟨⟨⟨⟨⟨⟨-, id⟩, day⟩, -⟩, serial⟩, minute⟩, platform⟩, -⟩, -⟩, -⟩, -⟩ := ok
  have train : u.train.fits = true := by simp [TrainKey.fits, id, day]
  have estimate := u.estimate.code_lt
  have short := (minute_read minute).1
  have flags := (flagByte u.isNew u.announce).1
  have train' := fun l => trainAt_here l train
  simp (disch := omega) only [Update.head, minuteBytes, List.append_assoc, train', fieldAt_past_train, fieldAt_here,
    fieldAt_past, Nat.reduceSub, true_and]

/-- The new-train block is there exactly if the update has 24 bytes, and reads back. -/
theorem Update.read_block {u : Update} (block : ∀ b ∈ u.newTrain, b.inRange = true) :
    (u.bytes.length = 11 ∨ u.bytes.length = 24)
      ∧ (if u.bytes.length = 24 then
          some ⟨fieldAt 11 1 u.bytes, fieldAt 12 2 u.bytes, fieldAt 14 1 u.bytes, codesAt 15 u.bytes⟩
        else none) = u.newTrain := by
  rw [Update.bytes_eq]
  cases new : u.newTrain with
  | none => simp [u.head_length]
  | some b =>
    have range := block b new
    have size : (u.head ++ b.bytes).length = 24 := by simp [u.head_length, NewTrain.bytes_length range]
    simp only [Option.map_some, Option.getD_some, size, or_true, if_true, true_and]
    rw [u.fieldAt_block (off := 0), u.fieldAt_block (off := 1), u.fieldAt_block (off := 3), u.codesAt_block (off := 4),
      NewTrain.read_bytes range]

theorem Update.parse_bytes {u : Update} (ok : u.ok = true) :
    (u.bytes.length = 11 ∨ u.bytes.length = 24) ∧ Update.parse u.bytes = some u := by
  obtain ⟨train, serial, estimate, minute, platform, flags⟩ :=
    u.read_head ok ((u.newTrain.map NewTrain.bytes).getD [])
  rw [← Update.bytes_eq] at train serial estimate minute platform flags
  simp only [Update.ok, Bool.and_eq_true] at ok
  obtain ⟨⟨⟨⟨⟨⟨-, range⟩, -⟩, -⟩, -⟩, -⟩, block⟩ := ok
  obtain ⟨size, newTrain⟩ := u.read_block fun b new => by rw [Option.mem_def] at new; simpa only [new] using block
  obtain ⟨-, isNew, announce⟩ := flagByte u.isNew u.announce
  refine ⟨size, ?_⟩
  simp only [Update.parse, train, serial, estimate, minute, platform, flags, Estimate.ofCode_code, isNew, announce,
    newTrain, (minute_read range).2, Option.map_some]

/-- The seven bytes that a GRANT and a TAKEN share: a node, an ask number, a train, places (R118). -/
theorem read_settlement {node number count : Nat} {t : TrainKey} (nodeByte : node ≤ 255) (numberByte : number ≤ 255)
    (fits : t.fits = true) (countByte : count ≤ 255) :
    let l := beBytes 1 node ++ beBytes 1 number ++ t.bytes ++ beBytes 1 count
    l.length = 7 ∧ fieldAt 0 1 l = node ∧ fieldAt 1 1 l = number ∧ trainAt 2 l = t ∧ fieldAt 6 1 l = count := by
  refine ⟨by simp [TrainKey.bytes_length], ?_⟩
  simp (disch := omega) only [List.append_assoc, fieldAt_here, fieldAt_past, trainAt_past, trainAt_here _ fits,
    fieldAt_past_train, fieldAt_last, Nat.reduceSub, and_self]

/-- A good payload is read back from its bytes by its kind, and they are at most 24. -/
theorem Payload.parse_bytes {x : Payload} (ok : x.ok = true) :
    x.bytes.length ≤ 24 ∧ Payload.parse x.kind.code x.bytes = some x := by
  cases x with
  | beacon b =>
    simp only [Payload.ok, Bool.and_eq_true] at ok
    obtain ⟨⟨⟨⟨⟨fits, -⟩, -⟩, -⟩, -⟩, -⟩ := ok
    have size : b.bytes.length = 14 := by simp [BeaconPayload.bytes]
    simp [Payload.parse, Payload.bytes, Payload.kind, FrameKind.code, size, BeaconPayload.parse_bytes fits]
  | train u =>
    obtain ⟨size, read⟩ := Update.parse_bytes (u := u) ok
    simp only [Payload.parse, Payload.bytes, Payload.kind, FrameKind.code, size, if_true, read, Option.map_some,
      and_true]
    omega
  | ask a =>
    simp only [Payload.ok, AskPayload.fits, Bool.and_eq_true, decide_eq_true_eq] at ok
    obtain ⟨⟨⟨fits, wanted⟩, -⟩, -⟩ := ok
    have size : a.bytes.length = 5 := by simp [AskPayload.bytes, TrainKey.bytes_length]
    have read : (⟨trainAt 0 a.bytes, fieldAt 4 1 a.bytes⟩ : AskPayload) = a := by
      simp (disch := omega) only [AskPayload.bytes, trainAt_here _ fits, fieldAt_past_train, fieldAt_last,
        Nat.reduceSub]
    simp [Payload.parse, Payload.bytes, Payload.kind, FrameKind.code, size, read]
  | grant g =>
    simp only [Payload.ok, GrantPayload.fits, Bool.and_eq_true, decide_eq_true_eq] at ok
    obtain ⟨⟨⟨⟨⟨⟨asker, number⟩, fits⟩, count⟩, -⟩, -⟩, -⟩ := ok
    obtain ⟨size, asker', number', train', count'⟩ := read_settlement asker number fits count
    rw [← GrantPayload.bytes] at size asker' number' train' count'
    simp [Payload.parse, Payload.bytes, Payload.kind, FrameKind.code, size, asker', number', train', count']
  | taken t =>
    simp only [Payload.ok, TakenPayload.fits, Bool.and_eq_true, decide_eq_true_eq] at ok
    obtain ⟨⟨⟨⟨⟨⟨granter, number⟩, fits⟩, count⟩, -⟩, -⟩, -⟩ := ok
    obtain ⟨size, granter', number', train', count'⟩ := read_settlement granter number fits count
    rw [← TakenPayload.bytes] at size granter' number' train' count'
    simp [Payload.parse, Payload.bytes, Payload.kind, FrameKind.code, size, granter', number', train', count']

/-! ### The characters of a frame (R148, R149, R205) -/

theorem cleanChars_append (a b : List Byte) : cleanChars (a ++ b) = cleanChars a ++ cleanChars b := List.map_append

theorem cleanChars_length (l : List Byte) : (cleanChars l).length = l.length := List.length_map _

theorem cleanChars_data (l : List Byte) : (cleanChars l).map LineChar.data = l := by
  simp [cleanChars, Function.comp_def]

theorem cleanChars_clean (l : List Byte) : (cleanChars l).any LineChar.framingError = false := by simp [cleanChars]

/-- The four header bytes of a frame. -/
def LineFrame.header (f : LineFrame) : List Byte :=
  beBytes 1 f.payload.kind.code ++ beBytes 1 f.sender ++ beBytes 1 f.seq ++ beBytes 1 f.payload.bytes.length

theorem LineFrame.header_length (f : LineFrame) : f.header.length = 4 := by simp [LineFrame.header]

theorem LineFrame.body_eq (f : LineFrame) : f.body = f.header ++ f.payload.bytes := by
  simp [LineFrame.body, LineFrame.header, beBytes]

/-- The header's fields, whatever stands behind it. -/
theorem LineFrame.read_header {f : LineFrame} (ok : f.ok = true) (l : List Byte) :
    fieldAt 0 1 (f.header ++ l) = f.payload.kind.code ∧ fieldAt 1 1 (f.header ++ l) = f.sender
      ∧ fieldAt 2 1 (f.header ++ l) = f.seq ∧ fieldAt 3 1 (f.header ++ l) = f.payload.bytes.length := by
  simp only [LineFrame.ok, isNode, Bool.and_eq_true, decide_eq_true_eq] at ok
  obtain ⟨⟨⟨-, sender⟩, seq⟩, payload⟩ := ok
  have size := (Payload.parse_bytes payload).1
  have kind : f.payload.kind.code < 256 ^ 1 := by cases f.payload.kind <;> decide
  simp (disch := omega) only [LineFrame.header, List.append_assoc, fieldAt_here, fieldAt_past, Nat.reduceSub, and_self]

theorem crcBytes_length (l : List Byte) : (crcBytes l).length = 2 := beBytes_length 2 _

/-- The characters of a frame behind its start mark, and what follows them. -/
def LineFrame.charsThen (f : LineFrame) (rest : List LineChar) : List LineChar :=
  cleanChars f.header ++ (cleanChars (f.payload.bytes ++ crcBytes f.body) ++ rest)

theorem LineFrame.chars_eq (f : LineFrame) (rest : List LineChar) :
    cleanChars f.bytes ++ rest = ⟨startMark, false⟩ :: f.charsThen rest := by
  simp [LineFrame.bytes, LineFrame.charsThen, f.body_eq, cleanChars]

/-- How the receiver cuts those characters: the header, the payload with its check, and whatever follows (R148). -/
theorem LineFrame.charsThen_cut (f : LineFrame) (rest : List LineChar) :
    (f.charsThen rest).take 4 = cleanChars f.header
      ∧ ((f.charsThen rest).drop 4).take (f.payload.bytes.length + 2)
          = cleanChars (f.payload.bytes ++ crcBytes f.body)
      ∧ 4 + f.payload.bytes.length + 2 ≤ (f.charsThen rest).length := by
  have header : (cleanChars f.header).length = 4 := (cleanChars_length _).trans f.header_length
  have behind : (cleanChars (f.payload.bytes ++ crcBytes f.body)).length = f.payload.bytes.length + 2 := by
    rw [cleanChars_length, List.length_append, crcBytes_length]
  refine ⟨List.take_left' header, ?_, ?_⟩
  · rw [LineFrame.charsThen, List.drop_left' header, List.take_left' behind]
  · simp only [LineFrame.charsThen, List.length_append, header, behind]
    omega

/-- The bytes of those characters, cut as the receiver reads them (R149). -/
theorem LineFrame.charsThen_bytes (f : LineFrame) (rest : List LineChar) :
    ∃ more, (f.charsThen rest).map LineChar.data = f.header ++ more
      ∧ (f.header ++ more).take (4 + f.payload.bytes.length) = f.body
      ∧ ((f.header ++ more).drop (4 + f.payload.bytes.length)).take 2 = crcBytes f.body
      ∧ ((f.header ++ more).drop 4).take f.payload.bytes.length = f.payload.bytes := by
  let behind := crcBytes f.body ++ rest.map LineChar.data
  have whole : f.header ++ (f.payload.bytes ++ behind) = f.body ++ behind := by simp [f.body_eq]
  have size : f.body.length = 4 + f.payload.bytes.length := by simp [f.body_eq, f.header_length]
  refine ⟨f.payload.bytes ++ behind, by simp [LineFrame.charsThen, cleanChars_data, behind], ?_, ?_, ?_⟩
  · rw [whole, List.take_left' size]
  · rw [whole, List.drop_left' size, List.take_left' (crcBytes_length f.body)]
  · rw [List.drop_left' f.header_length, List.take_left]

/-- The receiver takes the characters of a good frame in their order, and those that follow it no more. -/
theorem judgeSpell_bytes {f : LineFrame} (ok : f.ok = true) (rest : List LineChar) :
    judgeSpell (cleanChars f.bytes ++ rest) = .good f := by
  have payload : f.payload.ok = true := by
    simp only [LineFrame.ok, Bool.and_eq_true] at ok
    exact ok.2
  obtain ⟨small, parsed⟩ := Payload.parse_bytes payload
  obtain ⟨header, behind, long⟩ := f.charsThen_cut rest
  obtain ⟨more, bytes, body, check, carried⟩ := f.charsThen_bytes rest
  obtain ⟨kind, sender, seq, size⟩ := LineFrame.read_header ok more
  have size' : fieldAt 3 1 f.header = f.payload.bytes.length := by
    simpa using (LineFrame.read_header ok []).2.2.2
  have few : ¬ 56 < f.payload.bytes.length := by omega
  have four : ¬ (f.charsThen rest).length < 4 := by omega
  rw [LineFrame.chars_eq]
  simp [judgeSpell, header, cleanChars_clean, cleanChars_data, size', few, behind, four, Nat.not_lt.mpr long, bytes,
    body, check, carried, kind, sender, seq, parsed, ok]

/-- Settles O3: the receiver's judgement, and with it what is handed on. -/
theorem frameBytesAreHeard : Obligations.FrameBytesAreHeard := by
  intro f rest ok
  have judged := judgeSpell_bytes ok rest
  exact ⟨judged, fun p => by rw [Part.receiveChars, judged, Part.receiveFrame_of_ok p ok]⟩

end Sys2Proof.Machine
end

section
namespace Sys2Proof.Machine

/-! ### What a stored notice does to the attention line (R166 to R174) -/

namespace NoticeQueue
section
variable {q : NoticeQueue} {state : PartState} {holdOff now before : Nat} {urgent : Bool} {n : Notice}

theorem attend_other (notRunning : state ≠ .running) (notDozing : state ≠ .dozing) :
    q.attend state holdOff now before urgent = { q with attention := true } := by
  cases state with
  | running => exact absurd rfl notRunning
  | dozing => exact absurd rfl notDozing
  | _ => rfl

theorem attend_running_at_once (raises : urgent = true ∨ 47 ≤ before) :
    q.attend .running holdOff now before urgent = { q with attention := true, deadline := none } := by
  simp [attend, raises]

/-- In RUNNING a notice that does not raise the line at once leaves it to the hold-off (R170). -/
theorem attend_running_held (calm : urgent = false) (few : before < 47) :
    q.attend .running holdOff now before urgent =
      if before ≠ 0 ∨ holdOff = 0 then q
      else if holdOff = 1 then { q with attention := true }
      else if q.attention then q
      else { q with deadline := some (now + holdOff) } := by
  simp [attend, calm, Nat.not_le.mpr few]

theorem store_of_room (room : q.entries.length < 64) :
    q.store state holdOff now n =
      { q with entries := q.entries ++ [{ n with lineTime := now }] }.attend state holdOff now q.entries.length
        n.urgent :=
  if_pos room

/-- A notice that finds the queue full is counted lost (R167). -/
theorem store_of_full (full : 64 ≤ q.entries.length) :
    q.store state holdOff now n = { q with
      lostCount := min (q.lostCount + 1) 65535
      lostTotal := min (q.lostTotal + 1) 65535
      firstLost := if q.lostCount = 0 then some n.kind else q.firstLost } :=
  if_neg (Nat.not_lt.mpr full)

end
end NoticeQueue

/-! ### What a notice posted in DOZING does (R167, R174, R202) -/

theorem Notice.isWake_iff (n : Notice) :
    n.isWake = true ↔ n.kind ∈ [.lost, .duplicateNode, .key] ∨ n.kind = .clock ∧ n.cause = .disagree := by
  cases kind : n.kind <;> simp [Notice.isWake, kind]

section
variable {p : Part} {n : Notice}

theorem Part.post_of_silent (silent : p.notices.wakeReport n = none) : p.post n = p.note n := by
  simp only [Part.post, silent]

/-- What the queue reports in DOZING wakes the part behind the notice handed to it. -/
theorem Part.post_of_report {kind : NoticeKind} (dozing : p.doze.state = .dozing)
    (reports : p.notices.wakeReport n = some kind) : p.post n = (p.note n).awoken (.notice kind) := by
  rw [← Part.wake_eq_awoken (p.note n) _ dozing]
  simp only [Part.post, reports, Part.note_doze, dozing, if_true]

end

/-- Settles O37: the line by the branches of the part state, and the wake by what the queue reports. -/
theorem storedNoticeDrivesTheLine : Obligations.StoredNoticeDrivesTheLine := by
  refine ⟨fun q state holdOff now n => ⟨fun room => ?_, NoticeQueue.store_of_full⟩, fun p n dozing => ?_⟩
  · rw [NoticeQueue.store_of_room room]
    obtain ⟨entries, lostCount, firstLost, lostTotal⟩ := NoticeQueue.attend_entries
      { q with entries := q.entries ++ [{ n with lineTime := now }] } state holdOff now q.entries.length n.urgent
    refine ⟨entries, lostCount, firstLost, lostTotal, ?_, ?_, ?_, ?_⟩
    · rintro rfl
      exact ⟨rfl, rfl⟩
    · intro notRunning notDozing
      rw [NoticeQueue.attend_other notRunning notDozing]
    · rintro rfl raises
      rw [NoticeQueue.attend_running_at_once raises]
      exact ⟨rfl, rfl⟩
    · rintro rfl calm few
      rw [NoticeQueue.attend_running_held calm few]
      refine ⟨fun later => ?_, fun first one => ?_, fun first long low => ?_⟩
      · rw [if_pos (by simpa using later)]
        exact ⟨rfl, rfl⟩
      · simp [first, one]
      · simp [first, low, show holdOff ≠ 0 by omega, show holdOff ≠ 1 by omega]
  · intro noted wakeKind
    have isNoted : p.note n = noted := by rw [Part.note, dozing]
    rw [← isNoted]
    refine ⟨fun room wakes => ?_, fun room quiet => ?_, fun full first => ?_, fun full later => ?_⟩
    · have wakes : n.isWake = true := n.isWake_iff.mpr wakes
      exact Part.post_of_report dozing (by simp [NoticeQueue.wakeReport, room, wakes])
    · have quiet : n.isWake = false := by simpa using mt n.isWake_iff.mp quiet
      exact Part.post_of_silent (by simp [NoticeQueue.wakeReport, room, quiet])
    · exact Part.post_of_report dozing (by simp [NoticeQueue.wakeReport, Nat.not_lt.mpr full, first])
    · exact Part.post_of_silent (by simp [NoticeQueue.wakeReport, Nat.not_lt.mpr full, Nat.ne_of_gt later])

end Sys2Proof.Machine
end

section
namespace Sys2Proof.Machine

/-! ### TAKE NOTICES (R168, R169, R172) -/

/-- An urgent notice stored outside DOZING raises the line; in RUNNING it clears the hold-off deadline (R171, R173). -/
theorem Part.note_urgent {p : Part} {n : Notice} (room : p.notices.entries.length < 64) (urgent : n.urgent = true)
    (notDozing : p.doze.state ≠ .dozing) :
    p.note n = { p with notices := { p.notices with
      entries := p.notices.entries ++ [{ n with lineTime := p.lineTime }]
      attention := true
      deadline := if p.doze.state = .running then none else p.notices.deadline } } := by
  rw [Part.note, NoticeQueue.store_of_room room]
  by_cases running : p.doze.state = .running
  · rw [running, NoticeQueue.attend_running_at_once (.inl urgent), if_pos rfl]
  · rw [NoticeQueue.attend_other running notDozing, if_neg running]

/-- In DOZING a notice stored joins the queue and changes nothing else of it (R174). -/
theorem Part.note_asleep {p : Part} {n : Notice} (room : p.notices.entries.length < 64)
    (dozing : p.doze.state = .dozing) :
    p.note n = { p with notices := { p.notices with
      entries := p.notices.entries ++ [{ n with lineTime := p.lineTime }] } } := by
  rw [Part.note, NoticeQueue.store_of_room room, dozing, NoticeQueue.attend]

theorem NoticeQueue.settle_of_ne_nil {q : NoticeQueue} (some : q.entries ≠ []) : q.settle = q :=
  if_neg (by simpa using some)

section
variable {p : Part}

/-- With no gap the eight oldest notices go, and a queue left empty drops the line (R169, R172). -/
theorem Part.removeNotices_of_no_gap (noGap : p.notices.lostCount = 0) :
    p.removeNotices = { p with notices := { p.notices with
      entries := p.notices.entries.drop 8
      attention := if p.notices.entries.drop 8 = [] then false else p.notices.attention
      deadline := if p.notices.entries.drop 8 = [] then none else p.notices.deadline } } := by
  simp only [Part.removeNotices, Part.storeLost, noGap, if_true, NoticeQueue.settle, List.isEmpty_iff]
  split <;> rfl

/-- The part whose eight oldest notices are gone and whose gap is about to be reported (R168). -/
def Part.gapCleared (p : Part) : Part :=
  { p with notices := { p.notices with entries := p.notices.entries.drop 8, lostCount := 0, firstLost := none } }

/-- A gap is reported by LOST in the room that the removal left, so the queue is not empty (R168). -/
theorem Part.removeNotices_of_gap (kept : p.notices.Kept) (gap : 0 < p.notices.lostCount) :
    p.removeNotices = p.gapCleared.post (lostNotice p.notices) := by
  obtain ⟨size, -, -, -⟩ := kept
  have room : p.gapCleared.notices.entries.length < 64 := by
    simp only [Part.gapCleared, List.length_drop]; omega
  have held := List.ne_nil_of_mem (p.gapCleared.post_mem (lostNotice p.notices) room)
  have storeLost : ({ p with notices := { p.notices with entries := p.notices.entries.drop 8 } } : Part).storeLost
      = p.gapCleared.post (lostNotice p.notices) := if_neg (Nat.ne_of_gt gap)
  simp only [Part.removeNotices, storeLost, NoticeQueue.settle_of_ne_nil held]

/-- An empty queue has neither a gap to report nor a line to drop, so its removal is no exception. -/
theorem Part.answerTakeNotices_eq (kept : p.notices.Kept) :
    p.answerTakeNotices = (p.removeNotices, ⟨.done, .notices (p.notices.entries.take 8)
      p.removeNotices.notices.entries.length p.removeNotices.notices.lostCount⟩) := by
  obtain ⟨-, full, -, low⟩ := kept
  by_cases empty : p.notices.entries = []
  · have noGap : p.notices.lostCount = 0 := by
      simp only [empty, List.length_nil] at full
      omega
    obtain ⟨attention, deadline⟩ := low empty
    have same : p.removeNotices = p := by
      rw [Part.removeNotices_of_no_gap noGap]
      simp only [empty, List.drop_nil, if_true]
      rw [← empty, ← attention, ← deadline]
    simp [Part.answerTakeNotices, empty, same]
  · simp [Part.answerTakeNotices, empty]

/-- TAKE NOTICES wakes no dozing part, and every part state but SELF_TEST lets it through (R183, R184). -/
theorem Part.sendRequest_takeNotices (up : p.up = true) (free : p.port.reply = none)
    (untested : p.doze.state ≠ .selfTest) :
    p.sendRequest .takeNotices = replied .takeNotices p.afterTaking.answerTakeNotices := by
  have quiet : p.afterTaking.wakeFor .takeNotices = p.afterTaking := if_neg (by simp [RequestKind.quiet])
  have allowed : p.afterTaking.doze.state.refusal .takeNotices = none := by
    change p.doze.state.refusal .takeNotices = none
    cases state : p.doze.state with
    | selfTest => exact absurd state untested
    | _ => rfl
  rw [p.sendRequest_eq_judgeState .takeNotices up free untested rfl]
  simp only [Request.kind, quiet, Part.judgeState, allowed]
  rfl

end

/-- Settles O38: the removal by whether there is a gap, and LOST by whether the part dozes. -/
theorem takeNoticesRemovesTheOldest : Obligations.TakeNoticesRemovesTheOldest := by
  intro s up free kept untested rest lost
  let p := s.part.afterTaking
  have run : exec (.takeNotices (.clean ())) s
      = .next ⟨replied .takeNotices (p.removeNotices, ⟨.done, .notices (s.part.notices.entries.take 8)
          p.removeNotices.notices.entries.length p.removeNotices.notices.lostCount⟩), s.pending⟩ := by
    have answer : p.answerTakeNotices = _ := Part.answerTakeNotices_eq kept
    simp only [exec_takeNotices, Part.send, Part.sendRequest_takeNotices up free untested]
    rw [answer]
    rfl
  have room (gap : 0 < s.part.notices.lostCount) : p.gapCleared.notices.entries.length < 64 := by
    obtain ⟨size, -, -, -⟩ := kept
    simp only [p, Part.gapCleared, Part.afterTaking, List.length_drop]; omega
  refine ⟨fun awake => ⟨_, run, rfl, ?_⟩, fun gap dozing => ?_⟩
  · rcases Nat.eq_zero_or_pos s.part.notices.lostCount with noGap | gap
    · have removed : p.removeNotices = _ := Part.removeNotices_of_no_gap noGap
      rw [removed]
      exact ⟨rfl, rfl, fun _ => rfl, fun gap => absurd noGap (Nat.ne_of_gt gap)⟩
    · have notDozing : s.part.doze.state ≠ .dozing := awake.resolve_left (Nat.ne_of_gt gap)
      have removed : p.removeNotices = p.gapCleared.note (lostNotice p.notices) := by
        rw [Part.removeNotices_of_gap (p := p) kept gap, Part.post_eq_note p.gapCleared _ notDozing]
      have stored : p.gapCleared.note (lostNotice p.notices) = _ := Part.note_urgent (room gap) rfl notDozing
      rw [removed, stored]
      exact ⟨rfl, rfl, fun noGap => absurd noGap (Nat.ne_of_gt gap), fun _ => rfl⟩
  · have stored : p.gapCleared.note (lostNotice p.notices) = _ := Part.note_asleep (room gap) dozing
    have reports : p.gapCleared.notices.wakeReport (lostNotice p.notices) = some .lost := by
      simp [NoticeQueue.wakeReport, room gap, lostNotice, mkNotice, Notice.isWake]
    rw [run, Part.removeNotices_of_gap (p := p) kept gap, Part.post_of_report (p := p.gapCleared) dozing reports,
      stored]
    rfl

end Sys2Proof.Machine
end

section
namespace Sys2Proof.Machine

/-! ### The line and the queue of a woken part (R203) -/

theorem NoticeQueue.store_raised {q : NoticeQueue} (raised : q.attention = true) (state : PartState)
    (holdOff now : Nat) (n : Notice) : (q.store state holdOff now n).attention = true := by
  simp only [NoticeQueue.store]
  split
  · cases state with
    | running => simp only [NoticeQueue.attend]; (repeat' split) <;> simp [raised]
    | dozing => exact raised
    | _ => rfl
  · exact raised

theorem Part.rebuild_raised {p : Part} (raised : p.notices.attention = true) (pick : Nat → Nat → Nat) :
    (p.rebuild pick).notices.attention = true := by
  simp only [Part.rebuild, Part.holdPage]
  split
  · exact raised
  split
  · exact raised
  · exact NoticeQueue.store_raised raised _ _ _ _

theorem Part.startPages_raised {p : Part} (raised : p.notices.attention = true) :
    p.startPages.notices.attention = true := by
  simp only [Part.startPages]
  split
  · exact Part.rebuild_raised raised _
  · exact raised

/-- The doze record of a woken part (R203). -/
theorem Part.wake_doze (p : Part) (c : WakeCause) : (p.wake c).doze =
    { p.doze with state := .running, dozeStart := none, lastWake := some ⟨c, p.dozeLength⟩ } := by
  simp [Part.wake]

/-- The keys outlast a wake (R203, R204). -/
theorem Part.wake_key (p : Part) (c : WakeCause) (k : Key) : (p.wake c).doze.key k = p.doze.key k := by
  rw [Part.wake_doze]
  cases k <;> rfl

theorem Part.wake_attention (p : Part) (c : WakeCause) : (p.wake c).notices.attention = true :=
  Part.startPages_raised rfl

/-- With room for it a wake stores WAKE, and behind it at most the PAGE of the rebuilt page (R55, R203). -/
theorem Part.wake_entries (p : Part) (c : WakeCause) (room : p.notices.entries.length < 64) :
    ∃ (w : Notice) (rest : List Notice), (p.wake c).notices.entries = p.notices.entries ++ w :: rest
      ∧ w.kind = .wake ∧ w.cause = c.noticeCause ∧ rest.length ≤ 1 := by
  let wake := mkNotice .wake c.noticeCause none c.subject c.value p.dozeLength
  have noted : (p.note wake).notices.entries = p.notices.entries ++ [{ wake with lineTime := p.lineTime }] := by
    rw [Part.note_notices, NoticeQueue.store_entries, if_pos room]
  obtain ⟨rest, entries, few⟩ := Part.startPages_posts ({ p.note wake with
    doze := { p.doze with state := .running, dozeStart := none, lastWake := some ⟨c, p.dozeLength⟩ }
    notices := { (p.note wake).notices with attention := true } } : Part)
  refine ⟨{ wake with lineTime := p.lineTime }, rest, ?_, rfl, rfl, few⟩
  have entries : (p.wake c).notices.entries = (p.note wake).notices.entries ++ rest := entries
  rw [entries, noted, List.append_assoc, List.singleton_append]

/-! ### The key inputs (R204) -/

section
variable {p : Part} {k : Key}

theorem Part.settleDue_of_reached {d : Nat} (up : p.up = true) (deadline : (p.doze.key k).settleDeadline = some d)
    (came : d ≤ p.lineTime) : p.settleDue k = true := by
  simp [Part.settleDue, up, deadline, reached, came]

/-- The key's debouncer once its settled level has taken the input's. -/
def Part.settled (p : Part) (k : Key) : Part :=
  p.withKey k (fun d => { d with settleDeadline := none, settledLow := d.inputLow })

theorem Part.settleKey_of_fall (low : (p.doze.key k).inputLow = true) (high : (p.doze.key k).settledLow = false) :
    p.settleKey k = (p.settled k).pressed k :=
  if_pos (by simp [low, high])

/-- A press of a key that is not enabled, or outside RUNNING and DOZING, changes nothing. -/
theorem Part.pressed_ignored (idle : p.keyEnabled k = false ∨ p.awake = false) : p.pressed k = p := by
  rcases idle with disabled | asleep
  · simp [Part.pressed, disabled]
  · simp only [Part.awake, Bool.or_eq_false_iff, decide_eq_false_iff_not] at asleep
    obtain ⟨notRunning, notDozing⟩ := asleep
    simp only [Part.pressed]
    cases state : p.doze.state with
    | running => exact absurd state notRunning
    | dozing => exact absurd state notDozing
    | _ => exact ite_self _

theorem Part.pressed_of_running (enabled : p.keyEnabled k = true) (running : p.doze.state = .running) :
    p.pressed k = p.countPress k := by
  simp only [Part.pressed, enabled, running, if_true]

/-- A press in DOZING is counted in the woken part (R202, R204). -/
theorem Part.pressed_of_dozing (enabled : p.keyEnabled k = true) (dozing : p.doze.state = .dozing) :
    p.pressed k = (p.wake (.key k)).countPress k := by
  simp only [Part.pressed, enabled, dozing, if_true]

theorem Part.settled_keyEnabled : (p.settled k).keyEnabled k = p.keyEnabled k := rfl

theorem Part.settled_state : (p.settled k).doze.state = p.doze.state := DozeKeys.setKey_state _ _ _

/-- No press follows a rise, a level that was LOW already, or a fall that is ignored. -/
theorem Part.settleKey_quiet (quiet : (p.doze.key k).inputLow = false ∨ (p.doze.key k).settledLow = true
    ∨ p.keyEnabled k = false ∨ p.awake = false) : p.settleKey k = p.settled k := by
  by_cases fall : (p.doze.key k).inputLow = true ∧ (p.doze.key k).settledLow = false
  · obtain ⟨low, high⟩ := fall
    have idle : p.keyEnabled k = false ∨ p.awake = false := by simpa [low, high] using quiet
    rw [Part.settleKey_of_fall low high, Part.pressed_ignored]
    simpa only [Part.settled_keyEnabled, Part.awake, Part.settled_state] using idle
  · exact if_neg (by simpa using fall)

/-- A press counted outside DOZING: the count, and KEY PRESSED handed to the queue. -/
theorem Part.countPress_eq (notDozing : p.doze.state ≠ .dozing) :
    p.countPress k = (p.withKey k (fun d => { d with presses := min (d.presses + 1) 65535 })).note
      (keyNotice k 1 (min ((p.doze.key k).presses + 1) 65535)) := by
  have count : bump (p.doze.key k).presses = min ((p.doze.key k).presses + 1) 65535 := rfl
  simp only [Part.countPress, Part.withKey_doze, DozeKeys.key_setKey, count]
  exact Part.post_eq_note _ _ (by simpa using notDozing)

theorem Part.countPress_entries (notDozing : p.doze.state ≠ .dozing) (room : p.notices.entries.length < 64) :
    (p.countPress k).notices.entries = p.notices.entries
      ++ [{ keyNotice k 1 (min ((p.doze.key k).presses + 1) 65535) with lineTime := p.lineTime }] := by
  rw [Part.countPress_eq notDozing, Part.note_notices, NoticeQueue.store_entries, Part.withKey_notices, if_pos room]
  rfl

/-- The queue of a part that a press woke: WAKE, at most a PAGE behind it, and KEY PRESSED at the newest end. -/
theorem Part.wake_countPress_entries (room : p.notices.entries.length ≤ 60) :
    ∃ (w n : Notice) (rest : List Notice),
      ((p.wake (.key k)).countPress k).notices.entries = p.notices.entries ++ w :: (rest ++ [n])
        ∧ w.kind = .wake ∧ w.cause = .wakeKey ∧ n.kind = .key ∧ n.first = 1 := by
  obtain ⟨w, rest, entries, kind, cause, short⟩ := p.wake_entries (.key k) (by omega)
  have room : (p.wake (.key k)).notices.entries.length < 64 := by
    rw [entries, List.length_append, List.length_cons]
    omega
  have awake : (p.wake (.key k)).doze.state ≠ .dozing := by simp [Part.wake_state]
  have counted := Part.countPress_entries (k := k) awake room
  rw [entries, List.append_assoc, List.cons_append] at counted
  exact ⟨w, _, rest, counted, kind, cause, rfl, rfl⟩

end

/-- Settles O52: each command by its own operation, the press in DOZING as one in the woken part. -/
theorem holdOffAndKeysAct : Obligations.HoldOffAndKeysAct := by
  refine ⟨fun s up => ⟨fun d deadline came waiting => ?_, fun k low change => ?_, fun k d deadline came => ?_⟩,
    fun k d s up dozing deadline came low high enabled => ?_⟩
  · have came : s.part.holdOffCame = true := by simp [Part.holdOffCame, up, deadline, reached, came]
    simp [came, NoticeQueue.holdOffEnds, waiting]
  · simp [Part.keyInput, change, up, Part.withKey]
  · rw [exec_settleDeadline, if_pos (Part.settleDue_of_reached up deadline came)]
    refine ⟨fun quiet => ?_, fun low high enabled running => ?_⟩
    · rw [Part.settleKey_quiet quiet]
      rfl
    · have settledRunning : (s.part.settled k).doze.state = .running := Part.settled_state.trans running
      rw [Part.settleKey_of_fall low high, Part.pressed_of_running (p := s.part.settled k) enabled settledRunning,
        Part.countPress_eq (by simp [settledRunning])]
      simp only [Part.note, Part.settled, Part.withKey, DozeKeys.key_setKey, DozeKeys.setKey_setKey,
        DozeKeys.setKey_state, running]
      rfl
  · have settledDozing : (s.part.settled k).doze.state = .dozing := Part.settled_state.trans dozing
    let w := (s.part.settled k).wake (.key k)
    have running : w.doze.state = .running := Part.wake_state _ _
    have key : w.doze.key k = (s.part.settled k).doze.key k := Part.wake_key _ _ k
    have counted := Part.countPress_eq (p := w) (k := k) (by simp [running])
    refine ⟨⟨w.countPress k, s.pending⟩, ?_, rfl, ?_, ?_, ?_, ?_, ?_,
      Part.wake_countPress_entries (p := s.part.settled k), ?_⟩
    · rw [exec_settleDeadline, if_pos (Part.settleDue_of_reached up deadline came), Part.settleKey_of_fall low high,
        Part.pressed_of_dozing (p := s.part.settled k) enabled settledDozing]
    · simp [counted, running]
    · rw [counted]
      simp [w, Part.wake_doze]
    · rw [counted]
      simp [w, Part.wake_doze, Part.dozeLength, Part.settled]
    · simp [counted, key, Part.settled]
    · rw [counted]
      exact NoticeQueue.store_raised (Part.wake_attention _ _) _ _ _ _
    · simp [w, Part.settled]

end Sys2Proof.Machine
end

section
namespace Sys2Proof.Machine

/-! ### Transfers at the unit port (R177 to R180) -/

/-- A command that carries the bytes of a transfer hands them to the port. -/
theorem exec_of_transferOf {c : Instr} {bytes : List Byte} (carries : transferOf c = some bytes) (s : State) :
    exec c s = .next ⟨s.part.transfer bytes, s.pending⟩ := by
  unfold transferOf at carries
  split at carries <;> cases carries <;> rfl

/-- Bytes behind the SEND marker are a SEND (R177). -/
theorem exec_of_sentBytesOf {c : Instr} {bytes : List Byte} (carries : sentBytesOf c = some bytes) (s : State) :
    exec c s = .next ⟨s.part.sendBytes bytes, s.pending⟩ := by
  unfold sentBytesOf at carries
  split at carries
  next first frame transfer =>
    obtain ⟨rfl, rfl⟩ : first = 81#8 ∧ frame = bytes := by simpa using carries
    rw [exec_of_transferOf transfer, Part.transfer_cons, if_pos rfl]
  next => cases carries

section
variable {p : Part}

theorem Part.endSend_held (up : p.up = true) (held : p.port.reply.isSome = true) (judge : Part → Part) :
    p.endSend judge = p.shiftStatus.withPort (fun u => u.found .portBusy) := by
  simp only [Part.endSend, up, held, if_true]

theorem Part.endSend_free (up : p.up = true) (free : p.port.reply = none) (judge : Part → Part) :
    p.endSend judge = judge p.shiftStatus := by
  simp only [Part.endSend, up, if_true]
  exact if_neg (by simp [free])

/-- A SEND of a complete frame is judged on the part that has taken it (R179, R181). -/
theorem Part.sendBytes_of_complete {bytes payload : List Byte} {kind : Nat} (up : p.up = true)
    (free : p.port.reply = none) (judged : judgeSend bytes = .complete kind payload) :
    p.sendBytes bytes = p.afterTaking.takeRequest kind (Request.parse kind payload) := by
  have taking : p.shiftStatus.withPort (fun u => u.found .taken) = p.afterTaking := by
    simp [Part.withPort, Part.shiftStatus, Part.portStatus, UnitPort.found, bump, satAdd, Part.afterTaking, free]
  simp only [Part.sendBytes, Part.endSend_free up free, judged, Part.takeFrame, taking]

/-- The port status of a part that holds no reply (R178). -/
theorem Part.portStatus_of_free (free : p.port.reply = none) :
    p.portStatus = ⟨p.doze.state, false, p.port.outcome⟩ := by
  simp [Part.portStatus, free]

end

/-! ### The judgement of a SEND (R179, R206) -/

theorem judgeSend_of_spoiled {bytes : List Byte} (spoiled : SpoiledBytes bytes) :
    judgeSend bytes = .badFrame ((bytes.head?.map BitVec.toNat).getD 0) := by
  match bytes, spoiled with
  | [], _ => rfl
  | [_], _ => rfl
  | kind :: len :: rest, spoiled =>
    have spoiled : 120 < len.toNat ∨ rest.length < len.toNat + 2
        ∨ (rest.drop len.toNat).take 2 ≠ crcBytes (kind :: len :: rest.take len.toNat) := by
      simpa [SpoiledBytes] using spoiled
    simp only [judgeSend]
    split
    next => rfl
    next short =>
      split
      next => rfl
      next whole => exact if_pos ((spoiled.resolve_left short).resolve_left whole)

theorem envelope_append (kind : Byte) (payload rest : List Byte) :
    envelope kind payload ++ rest = kind :: BitVec.ofNat 8 payload.length :: (payload
      ++ (crcBytes (kind :: BitVec.ofNat 8 payload.length :: payload) ++ rest)) := by
  simp [envelope]

/-- A complete frame is found whatever bytes follow it. -/
theorem judgeSend_envelope {kind : Byte} {payload : List Byte} (small : payload.length ≤ 120) (rest : List Byte) :
    judgeSend (envelope kind payload ++ rest) = .complete kind.toNat payload := by
  have len : (BitVec.ofNat 8 payload.length).toNat = payload.length := by
    rw [BitVec.toNat_ofNat, Nat.mod_eq_of_lt (by omega)]
  let check := crcBytes (kind :: BitVec.ofNat 8 payload.length :: payload)
  have whole : payload.length + 2 ≤ (payload ++ (check ++ rest)).length := by
    simp only [check, List.length_append, crcBytes_length]
    omega
  rw [envelope_append]
  simp only [judgeSend, len, Nat.not_lt.mpr small, Nat.not_lt.mpr whole, if_false, List.take_left, List.drop_left,
    check, List.take_left' (crcBytes_length _), ne_eq, not_true_eq_false]

/-- Settles O14: a SEND in either form ends at the held reply. -/
theorem heldReplyTurnsSendsAway : Obligations.HeldReplyTurnsSendsAway := by
  intro c s sends up held
  have turned (judge : Part → Part) : s.part.endSend judge = { s.part with port := { s.part.port with
      outcome := .portBusy
      portBusy := min (s.part.port.portBusy + 1) 65535
      lastTransfer := some ⟨⟨s.part.doze.state, true, s.part.port.outcome⟩, none⟩ } } := by
    rw [Part.endSend_held up held]
    simp [Part.withPort, Part.shiftStatus, Part.portStatus, held, UnitPort.found, bump, satAdd]
  rcases sends with clean | raw
  · obtain ⟨r, carries⟩ := Option.isSome_iff_exists.mp clean
    rw [exec_of_requestOf carries, Part.sendRequest, turned]
  · obtain ⟨bytes, carries⟩ := Option.isSome_iff_exists.mp raw
    rw [exec_of_sentBytesOf carries, Part.sendBytes, turned]

/-- Settles O15. -/
theorem spoiledSendGetsBadFrame : Obligations.SpoiledSendGetsBadFrame := by
  intro c s bytes carries spoiled up free
  rw [exec_of_sentBytesOf carries, Part.sendBytes, Part.endSend_free up free, judgeSend_of_spoiled spoiled]
  simp [Part.putReply, Part.withPort, Part.shiftStatus, Part.portStatus_of_free free, UnitPort.found, bump, satAdd,
    Answer.bare]

/-! ### Requests refused before their owner (R181, R183) -/

theorem PartState.refusal_waitingStart {k : RequestKind}
    (other : k ∉ [.start, .restart, .setTime, .readStatus, .takeNotices]) :
    PartState.waitingStart.refusal k = some .notStarted := by
  simp only [PartState.refusal]
  split <;> simp at other ⊢

theorem PartState.refusal_fault {k : RequestKind} (other : k ∉ [.restart, .readStatus, .takeNotices]) :
    PartState.fault.refusal k = some .fault := by
  simp only [PartState.refusal]
  split <;> simp at other ⊢

/-- A part that does not doze refuses a request by its state, and only the port changes. -/
theorem Part.sendRequest_refused {p : Part} {r : Request} {code : ResultCode} (up : p.up = true)
    (free : p.port.reply = none) (fits : r.fits = true) (untested : p.doze.state ≠ .selfTest)
    (awake : p.doze.state ≠ .dozing) (refused : p.doze.state.refusal r.kind = some code) :
    p.sendRequest r = { p with port := p.answered r.kind.code code .empty } := by
  have asIs : p.afterTaking.wakeFor r.kind = p.afterTaking := if_neg fun ⟨dozing, _⟩ => awake dozing
  have refused : p.afterTaking.doze.state.refusal r.kind = some code := refused
  simp only [p.sendRequest_eq_judgeState r up free untested fits, asIs, Part.judgeState, refused]
  rfl

/-- Settles O16: a request in a complete frame by the part state, bytes of an unknown kind or length by what they
lay out. -/
theorem requestsAreRefusedBeforeTheirOwner : Obligations.RequestsAreRefusedBeforeTheirOwner := by
  refine ⟨fun c s r code carries up free refusal => ?_, fun c s kind payload rest carries small up free unknown => ?_⟩
  · rw [exec_of_requestOf carries]
    rcases refusal with ⟨state, rfl⟩ | ⟨fits, state, other, rfl⟩ | ⟨fits, state, start, rfl⟩
      | ⟨fits, state, other, rfl⟩
    · rw [s.part.sendRequest_selfTest r up free state]
      rfl
    · rw [Part.sendRequest_refused up free fits (by simp [state]) (by simp [state])
        (state ▸ PartState.refusal_waitingStart other)]
    · rw [Part.sendRequest_refused up free fits (by simp [state]) (by simp [state])
        (code := .locked) (by simp [state, PartState.refusal, start])]
    · rw [Part.sendRequest_refused up free fits (by simp [state]) (by simp [state])
        (state ▸ PartState.refusal_fault other)]
  · have nothing : Request.parse kind.toNat payload = none := by
      simp only [Request.parse]
      split
      next => rfl
      next k code => exact if_neg (unknown k code)
    rw [exec_of_sentBytesOf carries, Part.sendBytes_of_complete up free (judgeSend_envelope small rest), nothing]
    have state : s.part.afterTaking.doze.state = s.part.doze.state := rfl
    simp only [Part.takeRequest, state]
    split <;> rfl

/-! ### FETCH (R180, R206) -/

theorem Reply.bytes_length (r : Reply) : r.bytes.length = 5 + r.payloadLength := by
  simp only [Reply.bytes, Reply.payloadLength, List.length_append, List.length_cons, crcBytes_length]
  omega

theorem Reply.bytes_frame (r : Reply) : ReplyFrame r r.bytes := by
  refine ⟨r.payload, fun l laid => ?_, rfl, rfl⟩
  simp only [Reply.payload, laid]

/-- An empty store shifts out the absent marker and filler behind it (R177). -/
theorem shiftOut_absent (n : Nat) :
    shiftOut (fetchAnswer none) n = (0#8 :: List.replicate (n - 1) 255#8).take n := by
  cases n <;> simp [shiftOut, fetchAnswer, absentMarker, filler]

/-- Settles O17: a FETCH by what the reply store holds, a transfer by its first byte. -/
theorem fetchShiftsOutTheReply : Obligations.FetchShiftsOutTheReply := by
  refine ⟨fun n s up => ⟨fun free => ?_, fun r held => ⟨r.bytes, r.bytes_frame, ?_⟩⟩,
    fun c first rest s carries up => ⟨fun fetch => ?_, fun noSend noFetch => ?_⟩⟩
  · simp [up, Part.fetch, Part.withPort, Part.portStatus_of_free free, free, shiftOut_absent]
  · simp [up, Part.fetch, Part.withPort, Part.portStatus, held, shiftOut, fetchAnswer, filler, r.bytes_length]
  · rw [exec_of_transferOf carries, Part.transfer_cons, if_neg (by simp [fetch]), if_pos fetch]
    rfl
  · rw [exec_of_transferOf carries, Part.transfer_cons, if_neg noSend, if_neg noFetch, if_pos up]
    rfl

end Sys2Proof.Machine
end

section
namespace Sys2Proof.Machine

/-! ### Clamping (R185, R186) -/

theorem clampTo_clampedTo {low high : Nat} (range : low ≤ high) (n : Nat) :
    ClampedTo low high n (clampTo low high n) := by
  simp only [ClampedTo, clampTo]
  omega

/-- A field marked absent takes a default within its range. -/
theorem optionClamped {low high default : Nat} (low_le : low ≤ default) (le_high : default ≤ high) (m : Option Nat) :
    ClampedTo low high (m.getD default) (m.elim default (clampTo low high)) := by
  cases m with
  | none => exact ⟨low_le, le_high, fun _ _ => rfl, fun below => absurd below (Nat.not_lt.mpr low_le),
      fun above => absurd above (Nat.not_lt.mpr le_high)⟩
  | some n => exact clampTo_clampedTo (le_trans low_le le_high) n

/-- The permitted step at or below the one sent, or 1 where none is. -/
theorem clampStep_permitted (n : Nat) :
    clampStep n ∈ [1, 5, 10, 20, 50, 100] ∧ (clampStep n ≤ n ∨ clampStep n = 1)
      ∧ ∀ v ∈ [1, 5, 10, 20, 50, 100], v ≤ n → v ≤ clampStep n := by
  simp only [clampStep]
  refine ⟨?_, ?_, fun v permitted below => ?_⟩
  · split_ifs <;> simp
  · split_ifs <;> omega
  · simp only [List.mem_cons, List.not_mem_nil, or_false] at permitted
    split_ifs <;> omega

theorem modeOf_code {n : Nat} (named : n ≤ 2) : (modeOf n).code = n := by
  obtain rfl | rfl | rfl : n = 0 ∨ n = 1 ∨ n = 2 := by omega
  all_goals rfl

theorem modeOf_unnamed {n : Nat} (unnamed : 2 < n) : modeOf n = .halfUp := by
  simp only [modeOf]
  split <;> simp at unnamed ⊢

theorem optionChanged_iff (m : Option Nat) (kept : Nat) : optionChanged m kept = true ↔ ∃ n ∈ m, kept ≠ n := by
  cases m <;> simp [optionChanged]

/-! The fields that may be marked absent, and those that clamping leaves alone (R186). -/

theorem StartRequest.clamped_beaconPeriod (r : StartRequest) :
    r.clamped.beaconPeriod = r.beaconPeriod.elim 2 (clampTo 1 8) := by
  simp only [StartRequest.clamped]
  cases r.beaconPeriod <;> rfl

theorem StartRequest.clamped_refreshPeriod (r : StartRequest) :
    r.clamped.refreshPeriod = r.refreshPeriod.elim 60 (clampTo 30 240) := by
  simp only [StartRequest.clamped]
  cases r.refreshPeriod <;> rfl

theorem StartRequest.clamped_rolloverMinute (r : StartRequest) :
    r.clamped.rolloverMinute = r.rolloverMinute.elim 150 (clampTo 0 1439) := by
  simp only [StartRequest.clamped]
  cases r.rolloverMinute <;> rfl

@[simp] theorem StartRequest.clamped_roles (r : StartRequest) : r.clamped.roles = r.roles := rfl
@[simp] theorem StartRequest.clamped_masks (r : StartRequest) : r.clamped.masks = r.masks := rfl
@[simp] theorem StartRequest.clamped_keyA (r : StartRequest) : r.clamped.keyA = r.keyA := rfl
@[simp] theorem StartRequest.clamped_keyB (r : StartRequest) : r.clamped.keyB = r.keyB := rfl

/-- The clamp set names exactly the fields changed. -/
theorem StartRequest.mem_clampSet (r : StartRequest) (f : StartField) : f ∈ r.clampSet ↔ StartChanged r f := by
  simp only [StartRequest.clampSet, List.mem_map, List.mem_filter, Prod.exists, List.mem_cons, Prod.mk.injEq,
    List.not_mem_nil, or_false]
  cases f <;> simp [StartChanged, optionChanged_iff]

/-- Settles O20: each field by the range of its clamp, the clamp set by its members. -/
theorem startValuesAreClamped : Obligations.StartValuesAreClamped := by
  intro r
  obtain ⟨step, below, greatest⟩ := clampStep_permitted r.roundingStep
  refine ⟨clampTo_clampedTo (by decide) _, rfl, clampTo_clampedTo (by decide) _, clampTo_clampedTo (by decide) _,
    ?beacon, ?refresh, ?rollover, clampTo_clampedTo (by decide) _, clampTo_clampedTo (by decide) _, rfl,
    clampTo_clampedTo (by decide) _, clampTo_clampedTo (by decide) _, clampTo_clampedTo (by decide) _,
    clampTo_clampedTo (by decide) _, clampTo_clampedTo (by decide) _, rfl, rfl, step, below, greatest,
    modeOf_code, modeOf_unnamed, ?unchanged, r.mem_clampSet⟩
  case beacon => exact r.clamped_beaconPeriod ▸ optionClamped (by decide) (by decide) _
  case refresh => exact r.clamped_refreshPeriod ▸ optionClamped (by decide) (by decide) _
  case rollover => exact r.clamped_rolloverMinute ▸ optionClamped (by decide) (by decide) _
  simp only [List.eq_nil_iff_forall_not_mem, r.mem_clampSet]
  refine ⟨fun same => ?_, fun kept f => ?_⟩
  · have option {m : Option Nat} {c : Nat} (kept : ¬ ∃ n ∈ m, c ≠ n) : ∀ n ∈ m, c = n := by simpa using kept
    exact ⟨not_not.mp (same .node), not_not.mp (same .sellerCount), not_not.mp (same .sellerIndex),
      option (same .beaconPeriod), option (same .refreshPeriod), option (same .rolloverMinute),
      not_not.mp (same .holdOff), not_not.mp (same .roundingStep), not_not.mp (same .roundingMode),
      not_not.mp (same .minimumFare), not_not.mp (same .rows), not_not.mp (same .platformFilter),
      not_not.mp (same .pageInterval), not_not.mp (same .horizon), not_not.mp (same .wakeLead)⟩
  · obtain ⟨node, sellerCount, sellerIndex, beaconPeriod, refreshPeriod, rolloverMinute, holdOff, step, mode,
      minimumFare, rows, platformFilter, pageInterval, horizon, wakeLead⟩ := kept
    cases f with
    | roles | masks | keyEnables => simp [StartChanged]
    | _ => simpa [StartChanged]

end Sys2Proof.Machine
end

section
namespace Sys2Proof.Machine

/-! ### Fields and lists with more bytes behind them (12: encodings) -/

/-- A reader at an offset passes the bytes before it. -/
theorem fieldAt_append {off : Nat} {before : List Byte} (size : before.length ≤ off) (w : Nat) (l : List Byte) :
    fieldAt off w (before ++ l) = fieldAt (off - before.length) w l := by
  rw [fieldAt, List.drop_append, List.drop_eq_nil_of_le size, List.nil_append, fieldAt]

theorem codesAt_past_train {off : Nat} (t : TrainKey) (l : List Byte) (past : 4 ≤ off) :
    codesAt off (t.bytes ++ l) = codesAt (off - 4) l := by
  simp only [TrainKey.bytes, List.append_assoc]
  rw [codesAt_past _ _ (by omega), codesAt_past _ _ (by omega), Nat.sub_sub]

/-- A code list is read from its own nine bytes. -/
theorem codesAt_append {list : List Byte} (size : list.length = 9) (rest : List Byte) :
    codesAt 0 (list ++ rest) = codesAt 0 list := by
  have count : fieldAt 0 1 (list ++ rest) = fieldAt 0 1 list := by
    simp only [fieldAt, List.drop_zero]
    rw [List.take_append_of_le_length (by omega)]
  have places : ((list ++ rest).drop 1).take 8 = (list.drop 1).take 8 := by
    rw [List.drop_append_of_le_length (by omega), List.take_append_of_le_length (by simp [size])]
  simp only [codesAt, count, Nat.zero_add, places]

theorem codesAt_here {l : List Nat} (fits : codesFit l = true) (short : listFits l) (rest : List Byte) :
    codesAt 0 (callingBytes l ++ rest) = l := by
  simp only [codesFit, Bool.and_eq_true, List.all_eq_true, decide_eq_true_eq] at fits
  obtain ⟨-, bytes⟩ := fits
  rw [codesAt_append (callingBytes_length short), codesAt_calling short fun c h => Nat.lt_succ_of_le (bytes c h)]

theorem codesAt_last {l : List Nat} (fits : codesFit l = true) (short : listFits l) :
    codesAt 0 (callingBytes l) = l := by
  simpa using codesAt_here fits short []

/-- The three flags of a byte of flags (R206). -/
theorem threeFlags (a b c : Bool) :
    a.toNat + 2 * b.toNat + 4 * c.toNat < 256 ^ 1 ∧ (a.toNat + 2 * b.toNat + 4 * c.toNat).testBit 0 = a
      ∧ (a.toNat + 2 * b.toNat + 4 * c.toNat).testBit 1 = b
      ∧ (a.toNat + 2 * b.toNat + 4 * c.toNat).testBit 2 = c := by
  cases a <;> cases b <;> cases c <;> decide

/-- A mark outside a field's range stands for its absence (12, Encodings). -/
theorem marked_read {mark : Nat} {m : Option Nat} (fits : optionally (fun n => decide (n < mark)) m = true) :
    m.getD mark ≤ mark ∧ (if m.getD mark = mark then none else some (m.getD mark)) = m := by
  cases m with
  | none => simp
  | some n =>
    have small : n < mark := by simpa [optionally] using fits
    exact ⟨small.le, if_neg small.ne⟩

/-- A field whose absence a flag says takes bytes of 0 when it is absent (R186). -/
theorem flagged_le {top : Nat} {m : Option Nat} (fits : optionally (fun n => decide (n ≤ top)) m = true) :
    m.getD 0 ≤ top := by
  cases m with
  | none => exact Nat.zero_le top
  | some n => simpa [optionally] using fits

theorem flagged_read (m : Option Nat) : (if m.isNone = true then none else some (m.getD 0)) = m := by
  cases m <;> rfl

/-! ### Request payloads read back (R186, R206) -/

theorem StartRequest.parse_bytes {r : StartRequest} (fits : r.fits = true) :
    r.bytes.length = 24 ∧ StartRequest.parse r.bytes = r := by
  simp only [StartRequest.fits, Bool.and_eq_true, decide_eq_true_eq] at fits
  obtain ⟨⟨⟨⟨⟨⟨⟨⟨⟨⟨⟨⟨⟨⟨node, count⟩, index⟩, beacon⟩, refresh⟩, rollover⟩, holdOff⟩, step⟩, mode⟩, minimum⟩, rows⟩,
    filter⟩, interval⟩, horizon⟩, lead⟩ := fits
  have beacon := flagged_le beacon
  have refresh := flagged_le refresh
  have rollover := flagged_le rollover
  have roles := r.roles.code_lt
  obtain ⟨masks, count', concession', overflow'⟩ := threeFlags r.masks.count r.masks.concession r.masks.overflow
  obtain ⟨keys, keyA, keyB⟩ := flagByte r.keyA r.keyB
  obtain ⟨absent, noBeacon, noRefresh, noRollover⟩ :=
    threeFlags r.beaconPeriod.isNone r.refreshPeriod.isNone r.rolloverMinute.isNone
  refine ⟨by simp [StartRequest.bytes], ?_⟩
  simp (disch := omega) only [StartRequest.parse, StartRequest.bytes, List.append_assoc, fieldAt_here, fieldAt_past,
    fieldAt_last, Roles.ofCode_code, Masks.ofCode, Masks.code, count', concession', overflow', keyA, keyB, noBeacon,
    noRefresh, noRollover, flagged_read, Nat.reduceSub]

theorem SetTimeRequest.parse_bytes {r : SetTimeRequest} (fits : r.fits = true) :
    r.bytes.length = 7 ∧ SetTimeRequest.parse r.bytes = r := by
  simp only [SetTimeRequest.fits, Bool.and_eq_true, decide_eq_true_eq] at fits
  obtain ⟨day, ms⟩ := fits
  have reference : r.reference.toNat < 256 ^ 1 ∧ referenceOf r.reference.toNat = r.reference := by
    cases r.reference <;> exact ⟨by decide, rfl⟩
  obtain ⟨small, reference⟩ := reference
  refine ⟨by simp [SetTimeRequest.bytes], ?_⟩
  simp (disch := omega) only [SetTimeRequest.parse, SetTimeRequest.bytes, List.append_assoc, fieldAt_here,
    fieldAt_past, fieldAt_last, reference, Nat.reduceSub]

theorem LoadBeginRequest.parse_bytes {r : LoadBeginRequest} (fits : r.fits = true) :
    r.bytes.length = 3 ∧ LoadBeginRequest.parse r.bytes = r := by
  simp only [LoadBeginRequest.fits, Bool.and_eq_true, decide_eq_true_eq] at fits
  obtain ⟨edition, count⟩ := fits
  refine ⟨by simp [LoadBeginRequest.bytes], ?_⟩
  simp (disch := omega) only [LoadBeginRequest.parse, LoadBeginRequest.bytes, fieldAt_here, fieldAt_past, fieldAt_last,
    Nat.reduceSub]

theorem TrainRecord.parse_bytes {r : TrainRecord} (fits : r.fits = true) (short : listFits r.calling) :
    r.bytes.length = 18 ∧ TrainRecord.parse r.bytes = r := by
  simp only [TrainRecord.fits, Bool.and_eq_true, decide_eq_true_eq] at fits
  obtain ⟨⟨⟨⟨⟨train, destination⟩, scheduled⟩, platform⟩, total⟩, codes⟩ := fits
  refine ⟨by simp [TrainRecord.bytes, TrainKey.bytes_length, callingBytes_length short], ?_⟩
  simp (disch := omega) only [TrainRecord.parse, TrainRecord.bytes, List.append_assoc, trainAt_here _ train,
    fieldAt_past_train, fieldAt_here, fieldAt_past, codesAt_past_train, codesAt_past, codesAt_last codes short,
    Nat.reduceSub]

/-- The update of a request reads back in its bytes, with its ranges still to be judged (R32, R206). -/
theorem Update.parse_bytes_of_fits {u : Update} (fits : u.fits = true)
    (short : ∀ b, u.newTrain = some b → listFits b.calling) :
    (u.bytes.length = 11 ∨ u.bytes.length = 24) ∧ Update.parse u.bytes = some u := by
  simp only [Update.fits, Bool.and_eq_true, decide_eq_true_eq] at fits
  obtain ⟨⟨⟨⟨train, serial⟩, minute⟩, platform⟩, block⟩ := fits
  obtain ⟨marked, expected⟩ := marked_read minute
  obtain ⟨flags, isNew, announce⟩ := flagByte u.isNew u.announce
  have estimate := u.estimate.code_lt
  cases new : u.newTrain with
  | none =>
    have size : u.bytes.length = 11 := by simp [Update.bytes, new, TrainKey.bytes_length, minuteBytes]
    refine ⟨.inl size, ?_⟩
    simp only [Update.parse, size, Nat.reduceEqDiff, if_false]
    simp (disch := omega) only [Update.bytes, new, minuteBytes, List.append_assoc, trainAt_here _ train,
      fieldAt_past_train, fieldAt_here, fieldAt_past, Nat.reduceSub, Estimate.ofCode_code, expected, isNew, announce,
      Option.map_some]
    rw [← new]
  | some b =>
    simp only [new, NewTrain.fits, Bool.and_eq_true, decide_eq_true_eq] at block
    obtain ⟨⟨⟨destination, scheduled⟩, total⟩, codes⟩ := block
    have calling := short b new
    have size : u.bytes.length = 24 := by
      simp [Update.bytes, new, TrainKey.bytes_length, minuteBytes, NewTrain.bytes, callingBytes_length calling]
    refine ⟨.inr size, ?_⟩
    simp only [Update.parse, size, if_true]
    simp (disch := omega) only [Update.bytes, new, NewTrain.bytes, minuteBytes, List.append_assoc,
      trainAt_here _ train, fieldAt_past_train, fieldAt_here, fieldAt_past, codesAt_past_train, codesAt_past,
      codesAt_last codes calling, Nat.reduceSub, Estimate.ofCode_code, expected, isNew, announce, Option.map_some]
    rw [← new]

theorem padTo_length {n : Nat} {l : List Byte} (short : l.length ≤ n) : (padTo n l).length = n := by
  simp only [padTo, List.length_append, List.length_replicate]
  omega

/-- Each kind of item reads back from its 14 bytes, its padding left out (R66, R206). -/
theorem FareItem.parse_bytes {i : FareItem} (fits : i.fits = true)
    (short : ∀ c, i = .concession c → listFits c.products) :
    i.bytes.length = 14 ∧ FareItem.parse i.bytes = some i := by
  cases i with
  | destination r =>
    simp only [FareItem.fits, Bool.and_eq_true, decide_eq_true_eq] at fits
    obtain ⟨⟨⟨code, standard⟩, first⟩, cap⟩ := fits
    refine ⟨padTo_length (by simp), ?_⟩
    simp (disch := omega) only [FareItem.parse, FareItem.bytes, padTo, List.append_assoc, fieldAt_here, fieldAt_past,
      Nat.reduceSub]
  | product r =>
    obtain ⟨code, factor, child, quota⟩ := r
    simp only [FareItem.fits, Bool.and_eq_true, decide_eq_true_eq] at fits
    obtain ⟨⟨codeFits, factorFits⟩, childFits⟩ := fits
    refine ⟨padTo_length (by simp), ?_⟩
    cases quota <;>
      simp (disch := omega) only [FareItem.parse, FareItem.bytes, padTo, List.append_assoc, fieldAt_here, fieldAt_past,
        Nat.reduceSub, Bool.toNat_true, Bool.toNat_false]
  | concession r =>
    simp only [FareItem.fits, Bool.and_eq_true, decide_eq_true_eq] at fits
    obtain ⟨⟨code, discount⟩, codes⟩ := fits
    have products := short r rfl
    refine ⟨padTo_length (by simp [callingBytes_length products]), ?_⟩
    simp (disch := omega) only [FareItem.parse, FareItem.bytes, padTo, List.append_assoc, fieldAt_here, fieldAt_past,
      codesAt_past, codesAt_here codes products, Nat.reduceSub]
  | band r =>
    simp only [FareItem.fits, Bool.and_eq_true, decide_eq_true_eq] at fits
    obtain ⟨start, factor⟩ := fits
    refine ⟨padTo_length (by simp), ?_⟩
    simp (disch := omega) only [FareItem.parse, FareItem.bytes, padTo, List.append_assoc, fieldAt_here, fieldAt_past,
      Nat.reduceSub]

theorem FareClass.ofCode_code (c : FareClass) : FareClass.ofCode c.code = c := by cases c <;> rfl

theorem FareClass.code_lt (c : FareClass) : c.code < 256 ^ 1 := by cases c <;> decide

/-- Train id 0 stands for no train (12). -/
theorem trainBytes_read {t : Option TrainKey} (l : List Byte) (fits : ∀ k, t = some k → k.fits = true ∧ k.id ≠ 0) :
    (if fieldAt 0 2 (trainBytes t ++ l) = 0 then none else some (trainAt 0 (trainBytes t ++ l))) = t := by
  cases t with
  | none =>
    have blank : trainBytes none = beBytes 2 0 ++ beBytes 2 0 := rfl
    simp only [blank, List.append_assoc, fieldAt_here (w := 2) (n := 0) _ (by decide), if_true]
  | some t =>
    obtain ⟨fits, id⟩ := fits t rfl
    have read := trainAt_here l fits
    have first : fieldAt 0 2 (t.bytes ++ l) = t.id := congrArg TrainKey.id read
    simp only [trainBytes, first, id, if_false, read]

theorem trainBytes_length (t : Option TrainKey) : (trainBytes t).length = 4 := by
  cases t with
  | none => rfl
  | some t => exact t.bytes_length

theorem FareInputs.bytes_length (r : FareInputs) : r.bytes.length = 11 := by
  simp [FareInputs.bytes, trainBytes_length]

/-- The inputs of a computation, whatever an ISSUE lays out behind them. -/
theorem FareInputs.parse_bytes {r : FareInputs} (fits : r.fits = true) (l : List Byte) :
    FareInputs.parse (r.bytes ++ l) = r := by
  simp only [FareInputs.fits, Bool.and_eq_true, decide_eq_true_eq] at fits
  obtain ⟨⟨⟨⟨⟨destination, product⟩, concession⟩, adults⟩, children⟩, train⟩ := fits
  obtain ⟨marked, concession⟩ := marked_read concession
  have fareClass := r.fareClass.code_lt
  have train := trainBytes_read (t := r.train) l fun t carried => by simpa [carried] using train
  simp (disch := omega) only [FareInputs.parse, FareInputs.bytes, List.append_assoc, fieldAt_here, fieldAt_past,
    trainAt_past, FareClass.ofCode_code, concession, train, Nat.reduceSub]

theorem IssueRequest.parse_bytes {r : IssueRequest} (fits : r.fits = true) :
    r.bytes.length = 19 ∧ IssueRequest.parse r.bytes = r := by
  simp only [IssueRequest.fits, Bool.and_eq_true, decide_eq_true_eq] at fits
  obtain ⟨⟨inputs, agreed⟩, payment⟩ := fits
  have size := r.inputs.bytes_length
  refine ⟨by simp [IssueRequest.bytes, size], ?_⟩
  have past (off : Nat) (far : 11 ≤ off) (l : List Byte) :
      fieldAt off 4 (r.inputs.bytes ++ l) = fieldAt (off - 11) 4 l := by
    rw [fieldAt_append (by omega), size]
  simp (disch := omega) only [IssueRequest.parse, IssueRequest.bytes, List.append_assoc,
    FareInputs.parse_bytes inputs, past, fieldAt_here, fieldAt_past, fieldAt_last, Nat.reduceSub]

theorem TicketRef.parse_bytes {t : TicketRef} (fits : t.fits = true) :
    t.bytes.length = 6 ∧ TicketRef.parse t.bytes = t := by
  simp only [TicketRef.fits, Bool.and_eq_true, decide_eq_true_eq] at fits
  obtain ⟨⟨⟨day, known⟩, node⟩, serial⟩ := fits
  refine ⟨by simp [TicketRef.bytes], ?_⟩
  simp (disch := omega) only [TicketRef.parse, TicketRef.bytes, List.append_assoc, fieldAt_here, fieldAt_past,
    fieldAt_last, Nat.reduceSub]

theorem StatusRequest.parse_bytes {r : StatusRequest} (fits : r.fits = true) :
    r.bytes.length = 2 ∧ StatusRequest.parse r.bytes = r := by
  simp only [StatusRequest.fits, Bool.and_eq_true, decide_eq_true_eq] at fits
  obtain ⟨sect, first⟩ := fits
  refine ⟨by simp [StatusRequest.bytes], ?_⟩
  simp (disch := omega) only [StatusRequest.parse, StatusRequest.bytes, fieldAt_here, fieldAt_past, fieldAt_last,
    Nat.reduceSub]

/-- A payload of one number of four bytes. -/
theorem read_long {n : Nat} (fits : isLong n = true) : (beBytes 4 n).length = 4 ∧ fieldAt 0 4 (beBytes 4 n) = n :=
  ⟨beBytes_length 4 n, fieldAt_last (Nat.lt_succ_of_le (of_decide_eq_true fits))⟩

/-- Every spellable request reads back from its payload, whose length is one of its kind's (R181). -/
theorem Request.ofPayload_payload {r : Request} (spellable : r.Spellable) :
    r.payload.length ∈ r.kind.lengths ∧ Request.ofPayload r.kind r.payload = r := by
  obtain ⟨fits, noUpdate, noItem, load, update, -, item⟩ := spellable
  cases r with
  | start r => exact (StartRequest.parse_bytes fits).imp List.mem_singleton.mpr (congrArg Request.start)
  | setTime r => exact (SetTimeRequest.parse_bytes fits).imp List.mem_singleton.mpr (congrArg Request.setTime)
  | loadBegin r => exact (LoadBeginRequest.parse_bytes fits).imp List.mem_singleton.mpr (congrArg Request.loadBegin)
  | loadTrain r =>
    exact (TrainRecord.parse_bytes fits (load r rfl)).imp List.mem_singleton.mpr (congrArg Request.loadTrain)
  | trainUpdate u =>
    obtain ⟨u, rfl⟩ := Option.ne_none_iff_exists'.mp fun absent => noUpdate (congrArg Request.trainUpdate absent)
    obtain ⟨size, read⟩ := Update.parse_bytes_of_fits fits fun b => update u b rfl
    exact ⟨by simpa [Request.payload, Request.kind, RequestKind.lengths] using size,
      congrArg Request.trainUpdate read⟩
  | faresBegin edition =>
    exact ⟨List.mem_singleton.mpr (beBytes_length 2 edition),
      congrArg Request.faresBegin (fieldAt_last (Nat.lt_succ_of_le (of_decide_eq_true fits)))⟩
  | faresItem i =>
    obtain ⟨i, rfl⟩ := Option.ne_none_iff_exists'.mp fun absent => noItem (congrArg Request.faresItem absent)
    obtain ⟨size, read⟩ := FareItem.parse_bytes fits fun c concession => item c (by rw [concession])
    exact ⟨List.mem_singleton.mpr size, congrArg Request.faresItem read⟩
  | quote r =>
    have read : FareInputs.parse r.bytes = r := by simpa using FareInputs.parse_bytes fits []
    exact ⟨List.mem_singleton.mpr r.bytes_length, congrArg Request.quote read⟩
  | issue r => exact (IssueRequest.parse_bytes fits).imp List.mem_singleton.mpr (congrArg Request.issue)
  | void t => exact (TicketRef.parse_bytes fits).imp List.mem_singleton.mpr (congrArg Request.void)
  | readJournal first => exact (read_long fits).imp List.mem_singleton.mpr (congrArg Request.readJournal)
  | releaseJournal number => exact (read_long fits).imp List.mem_singleton.mpr (congrArg Request.releaseJournal)
  | readStatus r => exact (StatusRequest.parse_bytes fits).imp List.mem_singleton.mpr (congrArg Request.readStatus)
  | _ => exact ⟨List.mem_singleton.mpr rfl, rfl⟩

/-! ### Requests read back from their frames (R179, R181) -/

/-- The byte of a request kind names it. -/
theorem RequestKind.ofCode_byte (k : RequestKind) :
    (BitVec.ofNat 8 k.code).toNat = k.code ∧ RequestKind.ofCode k.code = some k := by
  cases k <;> exact ⟨rfl, rfl⟩

theorem RequestKind.lengths_le {k : RequestKind} {n : Nat} (length : n ∈ k.lengths) : n ≤ 120 := by
  have all : ∀ n ∈ k.lengths, n ≤ 120 := by cases k <;> decide
  exact all n length

theorem Request.parse_payload {r : Request} (spellable : r.Spellable) :
    Request.parse r.kind.code r.payload = some r := by
  obtain ⟨length, read⟩ := Request.ofPayload_payload spellable
  obtain ⟨-, kind⟩ := r.kind.ofCode_byte
  simp only [Request.parse, kind, length, if_true, read]

/-- Settles O4: the frame is judged complete, and its payload lays out the request. -/
theorem requestBytesAreRead : Obligations.RequestBytesAreRead := by
  intro p r rest spellable
  obtain ⟨byte, -⟩ := r.kind.ofCode_byte
  obtain ⟨length, -⟩ := Request.ofPayload_payload spellable
  have judged : judgeSend (requestFrame r.kind r.payload ++ rest) = .complete r.kind.code r.payload :=
    byte ▸ judgeSend_envelope (RequestKind.lengths_le length) rest
  simp only [Part.sendBytes, judged, Request.parse_payload spellable, Part.sendRequest]

end Sys2Proof.Machine
end

section
namespace Sys2Proof.Machine

/-! ### One bit through the check (R205) -/

/-- The generator has its lowest bit set, so the lowest bit of the new check says whether the generator was added. -/
theorem crcBit_lowest (c : BitVec 16) (b : Bool) : (crcBit c b).getLsbD 0 = (c.getLsbD 15 != b) := by
  unfold crcBit
  split <;> simp_all

/-- The bits above it are the old ones moved up by one, with the generator's added when it was. -/
theorem crcBit_above {i : Nat} (inside : i < 15) (c : BitVec 16) (b : Bool) :
    (crcBit c b).getLsbD (i + 1) = (c.getLsbD i ^^ ((c.getLsbD 15 != b) && (0x1021#16).getLsbD (i + 1))) := by
  have shifted : (c <<< 1).getLsbD (i + 1) = c.getLsbD i := by
    rw [BitVec.getLsbD_shiftLeft]
    simp [Nat.succ_lt_succ inside]
  unfold crcBit
  split
  next added => rw [BitVec.getLsbD_xor, shifted, added, Bool.true_and]
  next kept => rw [shifted, Bool.eq_false_of_not_eq_true kept, Bool.false_and, Bool.xor_false]

/-- Equal low bits after a step: both steps added the generator or neither did, and the low bits before the step, one
fewer, were equal. -/
theorem low_bits_of_crcBit {n : Nat} (size : n ≤ 15) {c d : BitVec 16} {p q : Bool}
    (agree : ∀ i < n + 1, (crcBit c p).getLsbD i = (crcBit d q).getLsbD i) :
    (c.getLsbD 15 != p) = (d.getLsbD 15 != q) ∧ ∀ i < n, c.getLsbD i = d.getLsbD i := by
  have added : (c.getLsbD 15 != p) = (d.getLsbD 15 != q) := by
    simpa only [crcBit_lowest] using agree 0 n.succ_pos
  refine ⟨added, fun i below => ?_⟩
  have next := agree (i + 1) (Nat.succ_lt_succ below)
  rw [crcBit_above (by omega), crcBit_above (by omega), added] at next
  exact Bool.xor_left_inj.mp next

theorem crcBit_injective (b : Bool) : Function.Injective fun c => crcBit c b := by
  intro c d same
  obtain ⟨added, low⟩ := low_bits_of_crcBit le_rfl fun i _ => congrArg (·.getLsbD i) same
  refine BitVec.eq_of_getLsbD_eq fun i inside => ?_
  obtain below | rfl : i < 15 ∨ i = 15 := by omega
  · exact low i below
  · exact Bool.xor_left_inj.mp added

/-! ### Bytes through the check (R205, R206) -/

/-- A fold keeps two starting values apart when each of its steps does. -/
theorem foldl_injective {α β : Type} {f : β → α → β} (step : ∀ x, Function.Injective fun c => f c x) (l : List α) :
    Function.Injective fun c => l.foldl f c := by
  induction l with
  | nil => exact Function.injective_id
  | cons x l ih => exact ih.comp (step x)

theorem crcByte_injective (b : Byte) : Function.Injective fun c => crcByte c b :=
  foldl_injective (fun i => crcBit_injective (b.getLsbD i)) _

/-- Taking bits back out: the low bits of two registers are equal, one bit fewer for each bit sent since. -/
theorem low_bits_of_crcBits {a b : Byte} {n : Nat} (js : List Nat) (size : n + js.length ≤ 16) {c d : BitVec 16}
    (same : js.foldl (fun c j => crcBit c (a.getLsbD j)) c = js.foldl (fun c j => crcBit c (b.getLsbD j)) d) :
    ∀ i < n, c.getLsbD i = d.getLsbD i := by
  induction js generalizing c d n with
  | nil => exact fun i _ => congrArg (·.getLsbD i) same
  | cons j js ih =>
    rw [List.length_cons] at size
    exact (low_bits_of_crcBit (by omega) (ih (n := n + 1) (by omega) same)).2

/-- Two runs of at most 16 bits that start from one register and leave one register are the same bits. -/
theorem bits_eq_of_crcBits_eq {a b : Byte} (js : List Nat) (size : js.length ≤ 16) {c : BitVec 16}
    (same : js.foldl (fun c j => crcBit c (a.getLsbD j)) c = js.foldl (fun c j => crcBit c (b.getLsbD j)) c) :
    ∀ j ∈ js, a.getLsbD j = b.getLsbD j := by
  induction js generalizing c with
  | nil => simp
  | cons j js ih =>
    rw [List.length_cons] at size
    obtain ⟨added, -⟩ := low_bits_of_crcBit (Nat.zero_le 15) (low_bits_of_crcBits js (by omega) same)
    have first : a.getLsbD j = b.getLsbD j := Bool.xor_right_inj.mp added
    rw [List.foldl_cons, List.foldl_cons, first] at same
    exact List.forall_mem_cons.mpr ⟨first, ih (by omega) same⟩

theorem crcByte_injective_byte (c : BitVec 16) : Function.Injective (crcByte c) := by
  intro a b same
  refine BitVec.eq_of_getLsbD_eq fun i inside => bits_eq_of_crcBits_eq [7, 6, 5, 4, 3, 2, 1, 0] (by simp) same i ?_
  simp only [List.mem_cons, List.not_mem_nil, or_false]
  omega

/-- Settles O5: the two registers are equal before the changed byte and differ after it, and no byte that follows makes
them equal again. -/
theorem changedByteFailsTheCheck : Obligations.ChangedByteFailsTheCheck := by
  intro before after a b changed same
  simp only [crc, List.foldl_append, List.foldl_cons] at same
  exact changed (crcByte_injective_byte _ (foldl_injective crcByte_injective after same))

end Sys2Proof.Machine
end

section
namespace Sys2Proof.Machine

/-- The front command is taken with the queue's rest (log 1). -/
theorem step_cons (c : Instr) (rest : List Instr) (s : State) :
    step { s with pending := c :: rest } = exec c { s with pending := rest } := rfl

/-- Every command completes, and leaves the queue alone: it goes to a state with another part and the same queue. -/
theorem exec_completes (c : Instr) (s : State) : ∃ p, exec c s = .next { s with part := p } := by
  obtain ⟨p, taken, -⟩ := exec_lasts c s
  exact ⟨p, taken⟩

/-- Settles O1: the step is the command's meaning on the queue's rest, and every command completes. -/
theorem stepTakesTheFrontCommand : Obligations.StepTakesTheFrontCommand := fun c s =>
  ⟨step_cons c s.pending s, exec_completes c s⟩

end Sys2Proof.Machine
end

section
namespace Sys2Proof.Machine

/-! ### The state after reset (R18, R45, R85, R134, R135, R161, R175) -/

/-- Settles O12: each store as reset leaves it. -/
theorem resetMeetsTheLaws : Obligations.ResetMeetsTheLaws := by
  have ledger : Part.reset.quota.Balanced := by decide
  have reserved : Part.reset.ReservedAgrees := ⟨fun _ => ⟨rfl, rfl⟩, fun outside => absurd rfl outside⟩
  have journal : Part.reset.sales.Ordered := by decide
  have tickets : Part.reset.TicketsUnique := by decide
  have notices : Part.reset.notices.Kept := by decide
  have store : Part.reset.line.Kept := by decide
  have list : Part.reset.board.Kept := by decide
  have clock : Part.reset.clock.Agrees := by decide
  have peers : Part.reset.PeersKept := by decide
  exact ⟨ledger, reserved, journal, tickets, notices, fun _ => ⟨rfl, rfl⟩, store, list, clock, peers⟩

end Sys2Proof.Machine
end

section
namespace Sys2Proof.Machine

/-! ### Resets and supplies (R1, R189, R193, R194) -/

/-- What a reset leaves of the part before it (R192, R194). -/
theorem Part.resetWith_spec (p : Part) (kind : ResetKind) :
    p.KeepsStore (p.resetWith kind) ∧ p.AfterReset (p.resetWith kind) kind :=
  ⟨p.resetWith_keepsStore kind, p.resetWith_afterReset kind⟩

/-- Every part state but SELF_TEST lets a RESTART through to its reset (R183, R189). -/
theorem Part.judgeState_restart_of_tested {p : Part} (tested : p.doze.state ≠ .selfTest) :
    p.judgeState .restart = p.resetWith .restart := by
  cases h : p.doze.state with
  | selfTest => exact absurd h tested
  | waitingStart | running | dozing | fault =>
    simp [Part.judgeState, h, PartState.refusal, Request.kind, Part.handle, Part.answer]

/-- A RESTART resets the part; a dozing one wakes first, and the reset takes the wake back (R184, R189). -/
theorem Part.sendRequest_restart {p : Part} (up : p.up = true) (free : p.port.reply = none)
    (tested : p.doze.state ≠ .selfTest) : p.sendRequest .restart = p.resetWith .restart := by
  rw [p.sendRequest_eq_judgeState .restart up free tested rfl]
  by_cases dozing : p.doze.state = .dozing
  · rw [Part.wakeFor_of_dozing (p := p.afterTaking) dozing rfl,
      Part.judgeState_restart (Part.awoken_running _ _) rfl, Part.resetWith_awoken]
  · rw [Part.wakeFor, if_neg (fun h => dozing h.1)]
    exact Part.judgeState_restart_of_tested (p := p.afterTaking) tested

theorem Part.lineTimeEnded_iff (p : Part) : p.lineTimeEnded = true ↔ p.up = true ∧ 4294967295 ≤ p.lineTime := by
  simp [Part.lineTimeEnded]

/-- The retained store is lost exactly while neither supply holds it (R193). -/
theorem RetainedMarks.under_eq (m : RetainedMarks) (s : Supply) :
    m.under s = if s.mainOn = false ∧ s.backupLow = true then ⟨true, false⟩ else m := by
  simp [RetainedMarks.under, RetainedMarks.lost]

/-- Settles O41: each reset by what it leaves, each supply by whether the other one holds the store. -/
theorem resetsAndSuppliesKeepTheStore : Obligations.ResetsAndSuppliesKeepTheStore := by
  refine ⟨fun s => ⟨?_, fun on => ?_, fun off => ?_, fun up free tested => ?_, fun up ended => ?_, fun running => ?_⟩,
    fun s => ⟨fun held => ?_, fun released => ?_, ?_, ?_⟩⟩
  · obtain ⟨store, rest⟩ := Part.resetWith_spec { s.part with supply := { s.part.supply with mainOn := true } } .powerOn
    exact ⟨_, exec_powerOn s, rfl, store, rest, rfl⟩
  · obtain ⟨store, rest⟩ := Part.resetWith_spec { s.part with supply := { s.part.supply with resetHeld := true } } .resetPin
    refine ⟨_, exec_resetPin s, rfl, ?_⟩
    simp only [Part.assertReset, on, if_true]
    exact ⟨store, rest, rfl⟩
  · simp [Part.assertReset, off]
  · obtain ⟨store, rest⟩ := s.part.resetWith_spec .restart
    refine ⟨_, exec_of_requestOf rfl s, rfl, ?_⟩
    rw [Part.sendRequest_restart up free tested]
    exact ⟨store, rest, rfl⟩
  · obtain ⟨store, rest⟩ := s.part.resetWith_spec .restart
    refine ⟨_, exec_lineTimeEnd s, rfl, ?_⟩
    rw [if_pos (s.part.lineTimeEnded_iff.mpr ⟨up, ended⟩)]
    exact ⟨store, rest, rfl⟩
  · have going : ¬ s.part.lineTimeEnded = true := by
      rw [s.part.lineTimeEnded_iff]
      rintro ⟨up, ended⟩
      rcases running with h | h
      · simp [h] at up
      · omega
    rw [exec_lineTimeEnd, if_neg going]
  · simp [Part.releaseReset, held]
  · simp [Part.releaseReset, released]
  · simp [Part.loseMain, Part.withSupply, RetainedMarks.under_eq]
  · cases on : s.part.supply.mainOn <;> simp [Part.loseBackup, Part.withSupply, RetainedMarks.under_eq, on]

end Sys2Proof.Machine
end

section
namespace Sys2Proof.Machine

/-! ### A millisecond passes (R1, R2, R13) -/

theorem shuffleFrom_perm (n draw : Nat) (l : List Instr) : (shuffleFrom n draw l).Perm l := by
  induction n generalizing draw l with
  | zero => exact .refl l
  | succ n ih =>
    simp only [shuffleFrom]
    cases h : l[Config.eventOrder draw % l.length]? with
    | none => exact .refl l
    | some i =>
      obtain ⟨lt, rfl⟩ := List.getElem?_eq_some_iff.mp h
      exact ((ih _ _).cons _).trans (List.getElem_cons_eraseIdx_perm lt)

/-- The free order of the events of one millisecond is an order of just these events (log 2). -/
theorem inFreeOrder_perm (draw : Nat) (l : List Instr) : (inFreeOrder draw l).Perm l := by
  unfold inFreeOrder
  split
  · exact .refl _
  · exact .refl _
  · exact shuffleFrom_perm _ _ _

theorem Reading.ofMs_within {n : Nat} (within : n < 65536 * 86400000) :
    Reading.ofMs n = ⟨n / 86400000, n % 86400000⟩ := if_pos within

theorem Reading.ofMs_past {n : Nat} (past : 65536 * 86400000 ≤ n) : Reading.ofMs n = ⟨65535, 86399999⟩ :=
  if_neg (Nat.not_lt.mpr past)

theorem Reading.toMs_eq (r : Reading) : r.toMs = r.day * 86400000 + r.ms := rfl

/-- Every reading that the clock is given in ms is within its ranges (R2). -/
theorem Reading.ofMs_valid (n : Nat) : (Reading.ofMs n).Valid := by
  rcases Nat.lt_or_ge n (65536 * 86400000) with within | past
  · rw [Reading.ofMs_within within]
    constructor <;> dsimp only <;> omega
  · rw [Reading.ofMs_past past]
    exact ⟨Nat.le_refl _, Nat.le_refl _⟩

/-- The ms of a reading given in ms: those, up to the clock's last reading (R2). -/
theorem Reading.toMs_ofMs (n : Nat) : (Reading.ofMs n).toMs = min n (65536 * 86400000 - 1) := by
  rcases Nat.lt_or_ge n (65536 * 86400000) with within | past
  · rw [Reading.ofMs_within within, Reading.toMs_eq]
    dsimp only
    omega
  · rw [Reading.ofMs_past past, Reading.toMs_eq]
    dsimp only
    omega

theorem Reading.Valid.toMs_le {r : Reading} (v : r.Valid) : r.toMs ≤ 65536 * 86400000 - 1 := by
  obtain ⟨day, ms⟩ := v
  rw [Reading.toMs_eq]
  omega

theorem Reading.advance_valid (r : Reading) (n : Nat) : (r.advance n).Valid := Reading.ofMs_valid _

theorem Reading.toMs_advance (r : Reading) (n : Nat) :
    (r.advance n).toMs = min (r.toMs + n) (65536 * 86400000 - 1) := Reading.toMs_ofMs _

/-- A millisecond at the part: line time while it runs and has not ended, and the clock's reading unless a slew gives it
its time by the period, or line time has ended. -/
theorem Part.tick_eq (p : Part) : p.tick = { p with
    lineTime := if p.up = true ∧ p.lineTime < 4294967295 then p.lineTime + 1 else p.lineTime
    clock := { p.clock with reading :=
      if p.up = true ∧ (p.clock.pending ≠ 0 ∨ 4294967295 ≤ p.lineTime) then p.clock.reading
      else p.clock.reading.advance 1 } } := by
  cases up : p.up with
  | false => simp [Part.tick, Part.tickDown, up]
  | true =>
    by_cases ended : p.lineTime < 4294967295
    · by_cases still : p.clock.pending = 0 <;>
        simp [Part.tick, Part.tickUp, up, ended, still, HaltClock.tick, Nat.not_le.mpr ended]
    · simp [Part.tick, Part.tickUp, up, ended, Nat.not_lt.mp ended]

/-- Settles O2: the millisecond at the part, and its events in some order. -/
theorem millisecondPasses : Obligations.MillisecondPasses := by
  intro s idle valid
  refine ⟨s.tick, by simp [step, idle], ?_, ?_, ?_, ?_, ?_⟩
  · simp [State.tick, Part.tick_eq]
  · simp [State.tick, Part.tick_eq]
  · simp only [State.tick, Part.tick_eq]
    split
    · exact valid
    · exact Reading.advance_valid _ _
  · simp only [State.tick, Part.tick_eq]
    split
    · rfl
    · exact Reading.toMs_advance _ _
  · simp only [State.tick, idle, List.nil_append]
    exact inFreeOrder_perm _ _

end Sys2Proof.Machine
end

section
namespace Sys2Proof.Machine

/-! ### READ PAGE and READ STATUS (R56, R190) -/

/-- The order of READ STATUS over ledger records: by service day, then train id (R190). -/
def LedgerRecord.NotAfter (a b : LedgerRecord) : Prop :=
  a.train.day < b.train.day ∨ a.train.day = b.train.day ∧ a.train.id ≤ b.train.id

theorem LedgerRecord.before_iff (a b : LedgerRecord) : a.before b = true ↔ a.NotAfter b := by
  simp only [LedgerRecord.before, LedgerRecord.NotAfter]
  split <;> simp <;> omega

/-- The ledger in the order of READ STATUS is its insertion sort (R190). -/
theorem ledgerOrder_eq (l : List LedgerRecord) :
    ledgerOrder l = l.insertionSort (fun a b => a.before b = true) := by
  have inserted : ∀ r l, insertLedger r l = l.orderedInsert (fun a b => a.before b = true) r := fun r l => by
    induction l with
    | nil => rfl
    | cons x xs ih => rw [insertLedger, List.orderedInsert_cons, ih]
  induction l with
  | nil => rfl
  | cons r rs ih => rw [ledgerOrder, List.insertionSort_cons, ih, inserted]

theorem ledgerOrder_perm (l : List LedgerRecord) : (ledgerOrder l).Perm l := by
  rw [ledgerOrder_eq]
  exact List.perm_insertionSort _ l

theorem ledgerOrder_pairwise (l : List LedgerRecord) : (ledgerOrder l).Pairwise LedgerRecord.NotAfter := by
  have total : Std.Total (fun a b : LedgerRecord => a.before b = true) := ⟨fun a b => by
    simp only [LedgerRecord.before_iff, LedgerRecord.NotAfter]
    omega⟩
  have trans : IsTrans LedgerRecord (fun a b => a.before b = true) := ⟨fun a b c => by
    simp only [LedgerRecord.before_iff, LedgerRecord.NotAfter]
    omega⟩
  rw [ledgerOrder_eq]
  exact (List.pairwise_insertionSort _ l).imp fun {a b} before => (a.before_iff b).mp before

section
variable (p : Part) (first : Nat)

/-- The reference time left is reported in whole minutes, rounded up (R17). -/
theorem Part.clockReport_reports : p.Reports first (.clock p.clockReport) := by
  refine ⟨p.referenceMinutes, rfl, fun unset => ?_, fun d deadline => ?_⟩
  · simp only [Part.referenceMinutes, unset]
  · simp only [Part.referenceMinutes, deadline]
    omega

theorem DepartureList.countIn_eq (st : EntryState) : p.board.countIn st = p.entriesIn st := by
  rw [Part.entriesIn, List.countP_eq_length_filter]
  rfl

theorem Part.boardReport_reports : p.Reports first (.board p.boardReport) := by
  simp only [Part.Reports, Part.boardReport, DepartureList.countIn_eq]

theorem Part.pageReport_reports : p.Reports first (.page p.pageReport) := by
  have settings : p.pageSettings = (p.port.record.filter (fun r => r.roles.shows)).map
      (fun r => ⟨r.rows, r.platformFilter, r.pageInterval, r.horizon⟩) := by
    cases record : p.port.record with
    | none => simp [Part.pageSettings, record]
    | some r => cases shows : r.roles.shows <;> simp [Part.pageSettings, record, shows, Option.filter]
  simp [Part.Reports, Part.pageReport, settings, timeLeft, Part.pageRunning]

theorem Part.faresReport_reports : p.Reports first (.fares p.faresReport) := rfl

theorem Part.quotaReport_reports : p.Reports first (.quota (p.quotaReport first)) :=
  ⟨ledgerOrder p.quota.ledger, ledgerOrder_perm _, ledgerOrder_pairwise _, rfl⟩

theorem Part.lineReport_reports : p.Reports first (.line p.lineReport) := by
  have transmitter : p.line.tx.state = (match p.line.tx with
      | .idle => .idle | .counting _ => .counting | .paused _ => .paused | .sending _ => .sending
      | .breaking _ => .breaking) := rfl
  simp only [Part.Reports, Part.lineReport, transmitter, LineInterface.freeSlots]
  rfl

/-- The section that READ STATUS names is reported, each field by its rule; other numbers name none (R190). -/
theorem Part.statusReport_reports {sect : Nat} (low : 1 ≤ sect) (high : sect ≤ 11) :
    ∃ report, p.statusReport sect first = some report ∧ ReplyBody.sect (.status report) = sect
      ∧ p.Reports first report := by
  interval_cases sect
  · exact ⟨_, rfl, rfl, rfl⟩
  · exact ⟨_, rfl, rfl, p.clockReport_reports first⟩
  · exact ⟨_, rfl, rfl, p.boardReport_reports first⟩
  · exact ⟨_, rfl, rfl, p.pageReport_reports first⟩
  · exact ⟨_, rfl, rfl, p.faresReport_reports first⟩
  · exact ⟨_, rfl, rfl, rfl⟩
  · exact ⟨_, rfl, rfl, p.quotaReport_reports first⟩
  · exact ⟨_, rfl, rfl, rfl⟩
  · exact ⟨_, rfl, rfl, p.lineReport_reports first⟩
  · exact ⟨_, rfl, rfl, rfl⟩
  · exact ⟨_, rfl, rfl, rfl⟩

theorem Part.statusReport_none {sect : Nat} (none : sect = 0 ∨ 11 < sect) : p.statusReport sect first = .none := by
  rcases none with rfl | past
  · rfl
  · match sect, past with
    | _ + 12, _ => rfl

end

/-- READ STATUS reaches its owner in every part state but SELF_TEST, and wakes none (R183, R184). -/
theorem Part.sendRequest_readStatus {p : Part} (r : StatusRequest) (up : p.up = true) (free : p.port.reply = none)
    (tested : p.doze.state ≠ .selfTest) (fits : r.fits = true) :
    p.sendRequest (.readStatus r) = replied .readStatus (p.afterTaking.answerReadStatus r) := by
  have quiet : p.afterTaking.wakeFor .readStatus = p.afterTaking := if_neg (by simp [RequestKind.quiet])
  have taken : p.afterTaking.doze.state.refusal .readStatus = none := by
    show p.doze.state.refusal .readStatus = none
    cases h : p.doze.state with
    | selfTest => exact absurd h tested
    | waitingStart | running | dozing | fault => rfl
  rw [p.sendRequest_eq_judgeState (.readStatus r) up free tested fits, Request.kind, quiet, Part.judgeState,
    Request.kind, taken]
  rfl

/-- Settles O39: READ PAGE by the role, READ STATUS by whether its number names a section. -/
theorem pageAndStatusAreRead : Obligations.PageAndStatusAreRead := by
  intro s up free
  refine ⟨fun running => ?_, fun r fits tested => ?_⟩
  · have attentive : s.part.Attentive := ⟨up, running, free⟩
    by_cases shows : s.part.roles.shows = true
    · rw [if_pos shows]
      exact attentive.exec_answered .readPage rfl rfl rfl (if_pos shows) rfl
    · rw [if_neg shows]
      exact attentive.exec_refused .readPage rfl rfl rfl (if_neg shows)
  · refine ⟨_, exec_of_requestOf (r := .readStatus r) rfl s, rfl, ?_⟩
    rw [Part.sendRequest_readStatus r up free tested fits]
    cases none : s.part.afterTaking.statusReport r.sect r.first with
    | none =>
      have answer : s.part.afterTaking.answerReadStatus r = s.part.afterTaking.refuse .badRequest := by
        simp only [Part.answerReadStatus, none]
      rw [answer]
      refine ⟨rfl, fun ⟨low, high⟩ => ?_, fun _ => rfl⟩
      obtain ⟨report, some, -⟩ := s.part.afterTaking.statusReport_reports r.first low high
      simp [none] at some
    | some report =>
      have answer : s.part.afterTaking.answerReadStatus r = (s.part.afterTaking, ⟨.done, .status report⟩) := by
        simp only [Part.answerReadStatus, none]
      rw [answer]
      refine ⟨rfl, fun ⟨low, high⟩ => ?_, fun unnamed => ?_⟩
      · obtain ⟨report', some, sect, reports⟩ := s.part.afterTaking.statusReport_reports r.first low high
        rw [none, Option.some.injEq] at some
        exact ⟨report', by rw [← some]; rfl, sect, reports⟩
      · rw [Part.statusReport_none _ _ unnamed] at none
        cases none

end Sys2Proof.Machine
end

section
namespace Sys2Proof.Machine

/-! ### The clock after its checks and corrections (R3 to R14) -/

/-- The clock after the comparison of the sales day (R3): the later of the one held and the computed one. -/
def HaltClock.dayCompared (c : HaltClock) : HaltClock :=
  { c with salesDay := c.salesDay.map (fun d => max d c.computedDay) }

/-- The clock after a minute event of its present minute (R4). -/
def HaltClock.minuteTold (c : HaltClock) : HaltClock := { c with lastEventMinute := some c.reading.absMinute }

/-- The clock after a change of its reading was checked (R5), in a part that listens or not. -/
def HaltClock.checked (c : HaltClock) (awake : Bool) : HaltClock :=
  if awake = true ∧ c.isSet = true then c.dayCompared.minuteTold else c

/-- The clock corrected by an offset against a source reading in ms (R11), the checks of a step included (R5). -/
def HaltClock.corrected (c : HaltClock) (source : Nat) (offset : Int) (now : Nat) (awake : Bool) : HaltClock :=
  match bandOf offset with
  | .agreed => { c with pending := 0, disagree := false }
  | .slew => { c with pending := offset, periodStart := now, disagree := false }
  | .step => { c with reading := Reading.ofMs source, pending := 0, disagree := false }.checked awake
  | .disagree => { c with pending := 0, disagree := true }

/-- The clock set by a beacon of its new source (R14). -/
def HaltClock.setBy (c : HaltClock) (b : BeaconPayload) (now : Nat) : HaltClock :=
  let c := { c.followed b now with reading := Reading.ofMs b.sourceMs, pending := 0 }
  { c with salesDay := some c.computedDay }

/-- A sales day that is unknown, or not behind the computed one, stands (R3). -/
theorem HaltClock.dayCompared_of_stands {c : HaltClock} (stands : ∀ d, c.salesDay = some d → c.computedDay ≤ d) :
    c.dayCompared = c := by
  have same : c.salesDay.map (fun d => max d c.computedDay) = c.salesDay := by
    cases day : c.salesDay with
    | none => rfl
    | some d => simp [stands d day]
  rw [HaltClock.dayCompared, same]

/-- A sales day behind the computed one becomes it (R3). -/
theorem HaltClock.dayCompared_of_rise {c : HaltClock} {d : Nat} (day : c.salesDay = some d) (rise : d < c.computedDay) :
    c.dayCompared = { c with salesDay := some c.computedDay } := by
  rw [HaltClock.dayCompared, day, Option.map_some, Nat.max_eq_right rise.le]

section
variable (p : Part)

theorem Part.salesDayCheck_awake : p.salesDayCheck.awake = p.awake := p.salesDayCheck_listens

theorem Part.minuteEvent_clock : p.minuteEvent.clock = p.clock.minuteTold := by
  simp [Part.minuteEvent, HaltClock.minuteTold]

theorem Part.rollover_clock (old new : Nat) :
    (p.rollover old new).clock = { p.clock with salesDay := some new } := by
  simp [Part.rollover]

theorem Part.salesDayCheck_clock :
    p.salesDayCheck.clock = if p.awake = true ∧ p.clock.isSet = true then p.clock.dayCompared else p.clock := by
  simp only [Part.salesDayCheck, Bool.and_eq_true]
  split
  · split
    · rename_i unknown
      rw [HaltClock.dayCompared_of_stands fun d hd => by rw [unknown] at hd; cases hd]
    rename_i old day
    split
    · rename_i rise
      rw [Part.rollover_clock, HaltClock.dayCompared_of_rise day rise]
    · rename_i stands
      rw [HaltClock.dayCompared_of_stands fun d hd => by rw [day] at hd; cases hd; exact Nat.not_lt.mp stands]
  · rfl

/-- A minute event that is not due has been told already (R4). -/
theorem Part.minuteCheck_clock :
    p.minuteCheck.clock = if p.awake = true ∧ p.clock.isSet = true then p.clock.minuteTold else p.clock := by
  by_cases listens : p.awake = true ∧ p.clock.isSet = true
  · by_cases told : p.clock.lastEventMinute = some p.clock.reading.absMinute
    · have stands : p.clock.minuteTold = p.clock := by rw [HaltClock.minuteTold, ← told]
      simp [Part.minuteCheck, Part.minuteDue, listens, told, stands]
    · simp [Part.minuteCheck, Part.minuteDue, listens, told, Part.minuteEvent_clock]
  · have idle : p.minuteDue = false := by
      simp only [Part.minuteDue, ← Bool.not_eq_true, Bool.and_eq_true]
      exact fun due => listens due.1
    simp [Part.minuteCheck, idle, listens]

theorem Part.clockCheck_clock : p.clockCheck.clock = p.clock.checked p.awake := by
  rw [Part.clockCheck, Part.minuteCheck_clock, Part.salesDayCheck_clock, Part.salesDayCheck_awake, HaltClock.checked]
  by_cases listens : p.awake = true ∧ p.clock.isSet = true
  · rw [if_pos listens, if_pos listens, if_pos]
    exact listens
  · rw [if_neg listens, if_neg listens, if_neg listens]

theorem Part.correctBy_clock (sender source : Nat) (offset : Int) :
    (p.correctBy sender source offset).clock = p.clock.corrected source offset p.lineTime p.awake := by
  simp only [Part.correctBy, HaltClock.corrected]
  cases bandOf offset with
  | agreed | slew => rfl
  | step =>
    dsimp only
    simp only [Part.clockCheck_clock, Part.post_awake, Part.post_frame]
    rfl
  | disagree =>
    dsimp only
    split <;> simp

theorem Part.sourceBeacon_clock (sender : Nat) (b : BeaconPayload) :
    (p.sourceBeacon sender b).clock
      = (p.clock.followed b p.lineTime).corrected b.sourceMs (p.clock.offset b) p.lineTime p.awake :=
  Part.correctBy_clock _ _ _ _

theorem HaltClock.setBy_isSet (c : HaltClock) (b : BeaconPayload) (now : Nat) : (c.setBy b now).isSet = true :=
  decide_eq_true (followStratum_ne b.stratum)

theorem Part.setFromBeacon_clock (sender : Nat) (b : BeaconPayload) :
    (p.setFromBeacon sender b).clock
      = if p.awake = true then (p.clock.setBy b p.lineTime).minuteTold else p.clock.setBy b p.lineTime := by
  have checked := (p.withClock (fun c => c.setBy b p.lineTime)).minuteCheck_clock
  rw [Part.withClock_clock, HaltClock.setBy_isSet] at checked
  have posted : (p.setFromBeacon sender b).clock
      = (p.withClock (fun c => c.setBy b p.lineTime)).minuteCheck.clock := by
    simp [Part.setFromBeacon, HaltClock.setBy]
  rw [posted, checked]
  simp [Part.awake]

end

/-! ### The clock in agreement, going on and never back (R2, R3, R6, R11, R17) -/

/-- Going from `c` to `c'` a clock in agreement stays so, and its sales day stays known and does not fall (R3). -/
structure HaltClock.GoesOn (c c' : HaltClock) : Prop where
  agrees : c.Agrees → c'.Agrees
  day : c.Agrees → ∀ d, c.salesDay = some d → ∃ d', c'.salesDay = some d' ∧ d ≤ d'

/-- A clock that is set is not set back either (R2). -/
structure HaltClock.RunsOn (c c' : HaltClock) : Prop extends HaltClock.GoesOn c c' where
  reading : c.Agrees → c.isSet = true → c.reading.toMs ≤ c'.reading.toMs

section
variable {c c' c'' : HaltClock}

/-- A clock in agreement knows its sales day exactly while it is set (R3). -/
theorem HaltClock.Agrees.isSet_iff (k : c.Agrees) : c.isSet = true ↔ ∃ d, c.salesDay = some d := by
  obtain ⟨-, -, -, -, -, day, -⟩ := k
  rw [HaltClock.isSet, decide_eq_true_eq, Ne, ← day, ← Ne, Option.ne_none_iff_exists']

theorem HaltClock.GoesOn.refl (c : HaltClock) : c.GoesOn c := ⟨id, fun _ d hd => ⟨d, hd, Nat.le_refl d⟩⟩

theorem HaltClock.GoesOn.trans (a : c.GoesOn c') (b : c'.GoesOn c'') : c.GoesOn c'' := by
  refine ⟨b.agrees ∘ a.agrees, fun k d hd => ?_⟩
  obtain ⟨e, he, le⟩ := a.day k d hd
  obtain ⟨f, hf, le'⟩ := b.day (a.agrees k) e he
  exact ⟨f, hf, le.trans le'⟩

theorem HaltClock.RunsOn.refl (c : HaltClock) : c.RunsOn c := ⟨.refl c, fun _ _ => Nat.le_refl _⟩

theorem HaltClock.RunsOn.trans (a : c.RunsOn c') (b : c'.RunsOn c'') : c.RunsOn c'' := by
  refine ⟨a.toGoesOn.trans b.toGoesOn, fun k set => (a.reading k set).trans (b.reading (a.agrees k) ?_)⟩
  obtain ⟨d, hd⟩ := k.isSet_iff.mp set
  obtain ⟨e, he, -⟩ := a.day k d hd
  exact (a.agrees k).isSet_iff.mpr ⟨e, he⟩

/-- Reading and sales day stand. -/
theorem HaltClock.RunsOn.of_standing (agrees : c.Agrees → c'.Agrees) (day : c'.salesDay = c.salesDay)
    (reading : c'.reading = c.reading) : c.RunsOn c' :=
  ⟨⟨agrees, fun _ d hd => ⟨d, day.trans hd, Nat.le_refl d⟩⟩, fun _ _ => by rw [reading]⟩

theorem HaltClock.RunsOn.of_eq (same : c' = c) : c.RunsOn c' := same ▸ .refl c

theorem HaltClock.GoesOn.of_eq (same : c' = c) : c.GoesOn c' := same ▸ .refl c

end

section
variable (c : HaltClock)

theorem HaltClock.dayCompared_runsOn : c.RunsOn c.dayCompared := by
  refine ⟨⟨fun k => ?_, fun _ d hd => ⟨max d c.computedDay, by simp [HaltClock.dayCompared, hd], Nat.le_max_left _ _⟩⟩,
    fun _ _ => Nat.le_refl _⟩
  simpa [HaltClock.Agrees, HaltClock.dayCompared] using k

theorem HaltClock.minuteTold_runsOn : c.RunsOn c.minuteTold := .of_standing id rfl rfl

theorem HaltClock.checked_runsOn (awake : Bool) : c.RunsOn (c.checked awake) := by
  simp only [HaltClock.checked]
  split
  · exact c.dayCompared_runsOn.trans (HaltClock.minuteTold_runsOn _)
  · exact .refl c

/-- A slew period gives the clock time, and the pending correction stays in its range (R11, R13). -/
theorem HaltClock.slewed_runsOn : c.RunsOn c.slewed := by
  rw [HaltClock.slewed]
  refine ⟨⟨fun ⟨_, strata, source, deadline, reference, day, low, high⟩ => ?_, fun _ d hd => ⟨d, hd, Nat.le_refl d⟩⟩,
    fun k _ => ?_⟩
  · refine ⟨Reading.advance_valid _ _, strata, source, deadline, reference, day, ?_, ?_⟩ <;> dsimp only <;> split <;>
      omega
  · have last := k.1.toMs_le
    rw [Reading.toMs_advance]
    omega

/-- A clock that follows a node loses it and stays set, at stratum 8 (R9). -/
theorem HaltClock.lost_runsOn (followed : c.source.isSome = true) : c.RunsOn c.lost := by
  refine .of_standing (fun ⟨valid, _, source, _, reference, day, range⟩ => ?_) rfl rfl
  obtain ⟨low, high⟩ := source.mp followed
  have noReference : c.referenceDeadline.isSome ≠ true := fun h => by have := reference.mp h; omega
  have known : c.salesDay ≠ none := fun h => by have := day.mp h; omega
  exact ⟨valid, by simp [HaltClock.lost], by simp [HaltClock.lost], rfl, by simpa [HaltClock.lost] using noReference,
    by simpa [HaltClock.lost] using known, range⟩

/-- Reference time that lapses leaves the clock set, at stratum 8 (R17). -/
theorem HaltClock.lapsed_runsOn (referenced : c.referenceDeadline.isSome = true) :
    c.RunsOn { c with stratum := 8, referenceDeadline := none } := by
  refine .of_standing (fun ⟨valid, _, source, deadline, reference, day, range⟩ => ?_) rfl rfl
  have zero := reference.mp referenced
  have own : c.source.isSome ≠ true := fun h => by have := source.mp h; omega
  have known : c.salesDay ≠ none := fun h => by have := day.mp h; omega
  exact ⟨valid, by simp, by simpa using own, deadline, by simp, by simpa using known, range⟩

/-- The band of an offset, read back from it (R11). -/
theorem bandOf_spec (offset : Int) : match bandOf offset with
    | .agreed => -2 ≤ offset ∧ offset ≤ 2
    | .slew => (offset < -2 ∨ 2 < offset) ∧ -60000 ≤ offset ∧ offset ≤ 1000
    | .step => 1000 < offset
    | .disagree => offset < -60000 := by
  by_cases step : 1000 < offset
  · simp [bandOf, step]
  by_cases hold : offset < -60000
  · simp [bandOf, step, hold]
  by_cases slew : 2 < offset ∨ offset < -2
  · simp only [bandOf, step, hold, slew, if_true, if_false]
    omega
  · simp only [bandOf, step, hold, slew, if_false]
    omega

/-- A clock corrected by its own offset keeps the pending correction in range, and a step is forward (R11). -/
theorem HaltClock.corrected_runsOn (source now : Nat) (awake : Bool) :
    c.RunsOn (c.corrected source ((source : Int) - (c.reading.toMs : Int)) now awake) := by
  have band := bandOf_spec ((source : Int) - (c.reading.toMs : Int))
  rw [HaltClock.corrected]
  split <;> rename_i h <;> rw [h] at band
  · exact .of_standing (fun ⟨valid, strata, follows, deadline, reference, day, _⟩ =>
      ⟨valid, strata, follows, deadline, reference, day, by simp⟩) rfl rfl
  · exact .of_standing (fun ⟨valid, strata, follows, deadline, reference, day, _⟩ =>
      ⟨valid, strata, follows, deadline, reference, day, band.2⟩) rfl rfl
  · refine .trans (c' := { c with reading := Reading.ofMs source, pending := 0, disagree := false })
      ⟨⟨fun ⟨_, strata, follows, deadline, reference, day, _⟩ =>
        ⟨Reading.ofMs_valid source, strata, follows, deadline, reference, day, by simp⟩,
      fun _ d hd => ⟨d, hd, Nat.le_refl d⟩⟩, fun k _ => ?_⟩ (HaltClock.checked_runsOn _ awake)
    have last := k.1.toMs_le
    have ahead : 1000 < (source : Int) - (c.reading.toMs : Int) := band
    rw [Reading.toMs_ofMs]
    omega
  · exact .of_standing (fun ⟨valid, strata, follows, deadline, reference, day, _⟩ =>
      ⟨valid, strata, follows, deadline, reference, day, by simp⟩) rfl rfl

theorem followStratum_range (s : Nat) : 1 ≤ followStratum s ∧ followStratum s ≤ 7 := by
  simp only [followStratum]
  omega

/-- A set clock without reference time follows a node (R7, R8). -/
theorem HaltClock.followed_runsOn (node now : Nat) (b : BeaconPayload) (disagree : Bool)
    (set : c.Agrees → c.isSet = true) (lower : c.Agrees → c.stratum ≠ 0) :
    c.RunsOn ({ c with source := some node, disagree }.followed b now) := by
  refine .of_standing (fun k => ?_) rfl rfl
  have noReference := lower k
  obtain ⟨d, known⟩ := k.isSet_iff.mp (set k)
  obtain ⟨low, high⟩ := followStratum_range b.stratum
  obtain ⟨valid, -, -, -, reference, -, range⟩ := k
  have unset : c.referenceDeadline.isSome ≠ true := fun h => noReference (reference.mp h)
  rw [HaltClock.followed]
  refine ⟨valid, .inl (by dsimp only; omega), by simp [low, high], rfl, ?_, ?_, range⟩
  · exact iff_of_false unset (by dsimp only; omega)
  · exact iff_of_false (by simp [known]) (by dsimp only; omega)

/-- An unset clock set by a beacon agrees with what it was given; it had neither sales day nor reading to keep (R14). -/
theorem HaltClock.setBy_runsOn (node now : Nat) (b : BeaconPayload) (disagree : Bool) (unset : c.isSet = false) :
    c.RunsOn ({ c with source := some node, disagree }.setBy b now) := by
  have stratum : c.stratum = 15 := by simpa [HaltClock.isSet] using unset
  refine ⟨⟨fun ⟨_, _, _, _, reference, _, _⟩ => ?_, fun k d hd => ?_⟩, fun _ set => by simp [unset] at set⟩
  · obtain ⟨low, high⟩ := followStratum_range b.stratum
    have noReference : c.referenceDeadline.isSome ≠ true := fun h => by have := reference.mp h; omega
    rw [HaltClock.setBy, HaltClock.followed]
    refine ⟨Reading.ofMs_valid _, .inl (by dsimp only; omega), by simp [low, high], rfl, ?_, ?_, by simp⟩
    · exact iff_of_false noReference (by dsimp only; omega)
    · exact iff_of_false (by simp) (by dsimp only; omega)
  · have := k.isSet_iff.mpr ⟨d, hd⟩
    simp [unset] at this

/-- An accepted SET TIME sets the clock, which keeps the sales day that it knows (R16). -/
theorem HaltClock.setTo_goesOn (r : SetTimeRequest) (now : Nat) (valid : Reading.Valid ⟨r.day, r.ms⟩) :
    c.GoesOn (c.setTo r now) := by
  refine ⟨fun k => ?_, fun k d hd => ⟨d, ?_, Nat.le_refl d⟩⟩
  · have known : (c.setTo r now).salesDay ≠ none := by
      by_cases set : c.isSet = true
      · obtain ⟨d, hd⟩ := k.isSet_iff.mp set
        simp [HaltClock.setTo, set, hd]
      · simp [HaltClock.setTo, set]
    refine ⟨valid, ?_, ?_, rfl, ?_, ?_, by simp [HaltClock.setTo], by simp [HaltClock.setTo]⟩
    · cases h : r.reference <;> simp [HaltClock.setTo, h]
    · cases h : r.reference <;> simp [HaltClock.setTo, h]
    · cases h : r.reference <;> simp [HaltClock.setTo, h]
    · refine ⟨fun h => absurd h known, fun h => ?_⟩
      cases h' : r.reference <;> simp [HaltClock.setTo, h'] at h
  · simp [HaltClock.setTo, k.isSet_iff.mpr ⟨d, hd⟩, hd]

/-- A reset keeps reading and sales day, and the clock is set exactly if its sales day is known (R18). -/
theorem HaltClock.restarted_goesOn : c.GoesOn c.restarted := by
  refine ⟨fun ⟨valid, _⟩ => ?_, fun _ d hd => ⟨d, hd, Nat.le_refl d⟩⟩
  refine ⟨valid, ?_, ?_, rfl, ?_, ?_, by simp [HaltClock.restarted, HaltClock.cold], by
    simp [HaltClock.restarted, HaltClock.cold]⟩ <;>
    cases day : c.salesDay <;> simp [HaltClock.restarted, HaltClock.cold, day]

theorem HaltClock.cold_agrees : HaltClock.cold.Agrees := by decide

/-- Another rollover minute leaves the clock in agreement (R187). -/
theorem HaltClock.rolledAt_goesOn (minute : Nat) : c.GoesOn { c with rolloverMinute := minute } :=
  ⟨id, fun _ d hd => ⟨d, hd, Nat.le_refl d⟩⟩

end

end Sys2Proof.Machine
end

section
namespace Sys2Proof.Machine

/-! ### Operations on the clock (R3 to R17) -/

section
variable (p : Part)

/-- An operation behind a test. -/
theorem HaltClock.RunsOn.ite {p q : Part} {c : Prop} [Decidable c] (runs : c → p.clock.RunsOn q.clock) :
    p.clock.RunsOn (if c then q else p).clock := by
  split
  · exact runs ‹_›
  · exact .refl _

theorem HaltClock.GoesOn.ite {p q : Part} {c : Prop} [Decidable c] (goes : c → p.clock.GoesOn q.clock) :
    p.clock.GoesOn (if c then q else p).clock := by
  split
  · exact goes ‹_›
  · exact .refl _

theorem Part.clockCheck_runsOn : p.clock.RunsOn p.clockCheck.clock := by
  rw [Part.clockCheck_clock]
  exact p.clock.checked_runsOn _

theorem Part.withClock_awake (f : HaltClock → HaltClock) : (p.withClock f).awake = p.awake := rfl

theorem Part.slewPeriod_clock : p.slewPeriod.clock = p.clock.slewed.checked p.awake := by
  rw [Part.slewPeriod, Part.clockCheck_clock, Part.withClock_clock, Part.withClock_awake]

theorem Part.slewPeriod_runsOn : p.clock.RunsOn p.slewPeriod.clock := by
  rw [Part.slewPeriod_clock]
  exact p.clock.slewed_runsOn.trans (HaltClock.checked_runsOn _ _)

theorem Part.clockPeerLost_clock (node : Nat) :
    (p.clockPeerLost node).clock = if p.clock.source = some node then p.clock.lost else p.clock := by
  simp only [Part.clockPeerLost]
  split <;> rfl

theorem Part.clockPeerLost_runsOn (node : Nat) : p.clock.RunsOn (p.clockPeerLost node).clock := by
  rw [Part.clockPeerLost_clock]
  split
  · rename_i source
    exact p.clock.lost_runsOn (by simp [source])
  · exact .refl _

/-- A beacon of the source corrects the clock that follows it (R8, R10): its clock before may follow another node. -/
theorem Part.sourceBeacon_runsOn (sender : Nat) (b : BeaconPayload)
    (followed : p.clock.RunsOn (p.clock.followed b p.lineTime)) : p.clock.RunsOn (p.sourceBeacon sender b).clock := by
  have offset : p.clock.offset b
      = (b.sourceMs : Int) - ((p.clock.followed b p.lineTime).reading.toMs : Int) := by
    rw [HaltClock.offset, HaltClock.followed]
  rw [Part.sourceBeacon_clock, offset]
  exact followed.trans (HaltClock.corrected_runsOn _ _ _ _)

/-- A sender that becomes the source corrects a set clock, or sets an unset one (R7, R14). -/
theorem Part.follow_runsOn (sender : Nat) (b : BeaconPayload) (lower : p.clock.stratum ≠ 0) :
    p.clock.RunsOn (p.follow sender b).clock := by
  simp only [Part.follow]
  split
  · rename_i set
    rw [Part.sourceBeacon_clock]
    have followed := p.clock.followed_runsOn sender p.lineTime b false (fun _ => set) (fun _ => lower)
    have corrected := followed.trans (HaltClock.corrected_runsOn _ b.sourceMs p.lineTime p.awake)
    exact corrected
  · rename_i unset
    have setBy := p.clock.setBy_runsOn sender p.lineTime b false (Bool.eq_false_iff.mpr unset)
    rw [Part.setFromBeacon_clock]
    split
    · exact setBy.trans (HaltClock.minuteTold_runsOn _)
    · exact setBy

theorem Part.hearClock_runsOn (sender : Nat) (b : BeaconPayload) : p.clock.RunsOn (p.hearClock sender b).clock := by
  simp only [Part.hearClock]
  split
  · rename_i source
    have follows : p.clock.source.isSome = true := by rw [source]; rfl
    split
    · have stratum : p.clock.Agrees → 1 ≤ p.clock.stratum ∧ p.clock.stratum ≤ 7 := fun ⟨_, _, strata, _⟩ =>
        strata.mp follows
      have followed := p.clock.followed_runsOn sender p.lineTime b p.clock.disagree
        (fun k => decide_eq_true (by have := stratum k; omega)) (fun k => by have := stratum k; omega)
      rw [← source] at followed
      exact p.sourceBeacon_runsOn sender b followed
    · exact p.clock.lost_runsOn follows
  · split
    · rename_i preferred
      refine p.follow_runsOn sender b fun zero => ?_
      simp [Part.prefers, zero] at preferred
    · exact .refl _

theorem Part.deliver_runsOn (f : LineFrame) : p.clock.RunsOn (p.deliver f).clock := by
  simp only [Part.deliver]
  split
  · refine .trans (.of_eq ?_) (Part.hearClock_runsOn _ _ _)
    simp
  all_goals exact .of_eq (by simp)

theorem Part.receiveGood_runsOn (f : LineFrame) : p.clock.RunsOn (p.receiveGood f).clock := by
  simp only [Part.receiveGood]
  split
  · exact .of_eq (by simp)
  split
  · exact .of_eq (by simp)
  split
  · exact .of_eq (by simp)
  · refine .trans (.of_eq ?_) (Part.deliver_runsOn _ f)
    simp

theorem Part.hear_runsOn {α : Type} (x : Heard α) (payload : α → Payload) :
    p.clock.RunsOn (p.hear x payload).clock := by
  refine .ite fun _ => ?_
  cases x with
  | clean sender seq a =>
    simp only [Part.receiveFrame]
    split
    · exact p.receiveGood_runsOn _
    · exact .of_eq (by simp)
  | raw chars =>
    simp only [Part.receiveChars]
    split
    · exact .of_eq (by simp)
    · exact .of_eq (by simp)
    · exact p.receiveGood_runsOn _

theorem Part.peerSilent_runsOn (node : Nat) : p.clock.RunsOn (p.peerSilent node).clock := by
  refine .trans (.of_eq ?_) (Part.clockPeerLost_runsOn _ node)
  simp

theorem Part.peerGone_runsOn (node : Nat) : p.clock.RunsOn (p.peerGone node).clock := by
  simp only [Part.peerGone, Part.quotaPeerGone_frame]
  refine .trans (.of_eq ?_) (Part.clockPeerLost_runsOn _ node)
  simp

/-- A deadline of the source or of the reference that has come is one of a source or of reference time (R6, R17). -/
theorem isSome_of_reached {now : Nat} {d : Option Nat} (come : reached now d = true) : d.isSome = true := by
  cases d with
  | none => cases come
  | some d => rfl

theorem Part.sourceDeadline_runsOn (came : p.sourceCame = true) : p.clock.RunsOn p.loseSource.clock := by
  simp only [Part.sourceCame, Bool.and_eq_true] at came
  have deadline := isSome_of_reached came.2
  refine ⟨⟨fun k => ?_, fun _ d hd => ⟨d, hd, Nat.le_refl d⟩⟩, fun _ _ => Nat.le_refl _⟩
  obtain ⟨-, -, -, followed, -⟩ := id k
  exact (p.clock.lost_runsOn (followed.symm.trans deadline)).agrees k

theorem Part.referenceLapse_runsOn (came : p.referenceCame = true) : p.clock.RunsOn p.referenceLapse.clock := by
  simp only [Part.referenceCame, Bool.and_eq_true] at came
  exact p.clock.lapsed_runsOn (isSome_of_reached came.2)

end

/-- A command of the halt line, the clock, the deadlines or the keys lets the clock run on (R2, R3). -/
theorem exec_runsOn {c : Instr} (halt : ofTheHalt c = true) (s : State) :
    ∃ q, exec c s = .next ⟨q, s.pending⟩ ∧ s.part.clock.RunsOn q.clock := by
  cases c with
  | start x | restart x | setTime x | loadBegin x | loadTrain x | loadEnd x | loadAbort x | trainUpdate x | faresBegin x
  | faresItem x | faresEnd x | faresAbort x | quote x | issue x | abortIssue x | void x | readJournal x
  | releaseJournal x | takeNotices x | readPage x | readStatus x | clearFlags x | doze x | fetch x | powerOn | resetPin
  | resetPinRelease | mainSupplyLoss | backupLoss | selfTestEnd x | lineTimeEnd => cases halt
  | minuteEvent => exact ⟨_, rfl, .ite fun _ => s.part.clockCheck_runsOn⟩
  | slewPeriod => exact ⟨_, rfl, .ite fun _ => s.part.slewPeriod_runsOn⟩
  | sourceDeadline => exact ⟨_, rfl, .ite s.part.sourceDeadline_runsOn⟩
  | referenceLapse => exact ⟨_, rfl, .ite s.part.referenceLapse_runsOn⟩
  | refreshDeadline t => exact ⟨_, rfl, .of_eq (by split <;> simp)⟩
  | intervalDeadline => exact ⟨_, rfl, .ite fun _ => .of_eq (by simp)⟩
  | askTime => exact ⟨_, rfl, .of_eq (by split <;> simp)⟩
  | issueDeadline => exact ⟨_, rfl, .of_eq (by split <;> simp)⟩
  | watchExpiry asker number => exact ⟨_, rfl, .ite fun _ => .of_eq (by simp)⟩
  | takenDeadline t asker number => exact ⟨_, rfl, .ite fun _ => .of_eq (by simp)⟩
  | silentDeadline node => exact ⟨_, rfl, .ite fun _ => s.part.peerSilent_runsOn node⟩
  | goneDeadline node => exact ⟨_, rfl, .ite fun _ => s.part.peerGone_runsOn node⟩
  | beaconDeadline => exact ⟨_, rfl, .ite fun _ => .of_eq (by simp)⟩
  | holdOffDeadline => exact ⟨_, rfl, .ite fun _ => .of_eq rfl⟩
  | keyInputChange k low => exact ⟨_, rfl, .of_eq (by simp only [Part.keyInput]; (repeat' split) <;> simp)⟩
  | settleDeadline k => exact ⟨_, rfl, .ite fun _ => .of_eq (by simp)⟩
  | lineBusy => exact ⟨_, rfl, .ite fun _ => .of_eq (by simp)⟩
  | lineQuiet => exact ⟨_, rfl, .ite fun _ => .of_eq (by simp)⟩
  | slotEnd => exact ⟨_, rfl, .ite fun _ => .of_eq (by simp)⟩
  | sentWhole => exact ⟨_, rfl, .ite fun _ => .of_eq (by simp)⟩
  | collision => exact ⟨_, rfl, .ite fun _ => .of_eq (by simp)⟩
  | breakEnd => exact ⟨_, rfl, .ite fun _ => .of_eq (by simp)⟩
  | badFrame => exact ⟨_, rfl, .ite fun _ => .of_eq (by simp)⟩
  | malformedFrame => exact ⟨_, rfl, .ite fun _ => .of_eq (by simp)⟩
  | beacon x => exact ⟨_, rfl, s.part.hear_runsOn x _⟩
  | train x => exact ⟨_, rfl, s.part.hear_runsOn x _⟩
  | ask x => exact ⟨_, rfl, s.part.hear_runsOn x _⟩
  | grant x => exact ⟨_, rfl, s.part.hear_runsOn x _⟩
  | taken x => exact ⟨_, rfl, s.part.hear_runsOn x _⟩

/-! ### Requests and the clock (R15, R16, R187) -/

section
variable (p : Part)

theorem Part.acceptTime_clock (r : SetTimeRequest) :
    (p.acceptTime r).clock = (p.clock.setTo r p.lineTime).checked p.awake :=
  (p.withClock (fun c => c.setTo r p.lineTime)).clockCheck_clock

theorem Part.acceptTime_goesOn (r : SetTimeRequest) (valid : Reading.Valid ⟨r.day, r.ms⟩) :
    p.clock.GoesOn (p.acceptTime r).clock := by
  rw [Part.acceptTime_clock]
  exact (p.clock.setTo_goesOn r p.lineTime valid).trans (HaltClock.checked_runsOn _ _).toGoesOn

theorem Part.setTimeRefusal_ms {p : Part} {r : SetTimeRequest} (taken : p.setTimeRefusal r = none) : r.ms ≤ 86399999 := by
  simp only [Part.setTimeRefusal] at taken
  split at taken
  · cases taken
  · omega

theorem Part.answerSetTime_goesOn (r : SetTimeRequest) (fits : r.fits = true) :
    p.clock.GoesOn (p.answerSetTime r).1.clock := by
  have day : r.day ≤ 65535 := by
    simp only [SetTimeRequest.fits, isShort, Bool.and_eq_true, decide_eq_true_eq] at fits
    omega
  simp only [Part.answerSetTime]
  split
  · exact .refl _
  · exact p.acceptTime_goesOn r ⟨day, Part.setTimeRefusal_ms ‹_›⟩

/-- The clock at an acceptance (R4): the sales day compared and one minute event, if it is set. -/
theorem Part.acceptClock_clock (awake : p.awake = true) :
    p.acceptClock.clock = if p.clock.isSet = true then p.clock.dayCompared.minuteTold else p.clock := by
  simp only [Part.acceptClock]
  split
  · rename_i set
    rw [Part.minuteEvent_clock, Part.salesDayCheck_clock, if_pos ⟨awake, set⟩]
  · rfl

theorem Part.acceptStart_goesOn (r : StartRequest) : p.clock.GoesOn (p.acceptStart r).clock := by
  let q := ((p.adopt r).writeAlways (.start (p.adopt r).start.kind ((p.adopt r).start.store.getD .cleared))).startPages
  have adopted : q.clock = { p.clock with rolloverMinute := r.clamped.rolloverMinute } := by simp [q, Part.adopt]
  have checked : q.clock.RunsOn q.acceptClock.clock := by
    have doze : q.awake = true := by simp [q, Part.awake, Part.adopt]
    rw [Part.acceptClock_clock q doze]
    split
    · exact q.clock.dayCompared_runsOn.trans (HaltClock.minuteTold_runsOn _)
    · exact .refl _
  have after : (p.acceptStart r).clock = q.acceptClock.clock := by simp [Part.acceptStart, q]
  rw [after]
  exact (adopted ▸ p.clock.rolledAt_goesOn _).trans checked.toGoesOn

theorem Part.checkIssue_clock (x : IssueRequest) : (p.checkIssue x).1.clock = p.clock := by
  have taken : ∀ (q : Part) n, (q.takeIssue x n).1.clock = q.clock := fun q n => by
    simp only [Part.takeIssue, Part.startIssue, Part.refuse]
    (repeat' split) <;> simp
  simp only [Part.checkIssue, Part.refuse]
  (repeat' split) <;> simp [taken]

theorem Part.voidSale_clock (f : SaleFields) (n : Nat) : (p.voidSale f n).clock = p.clock := by
  simp only [Part.voidSale, Part.unsellPlaces, Part.topUpAfterVoid, Part.clearWindow]
  (repeat' split) <;> simp

/-- Of all requests START, RESTART and SET TIME alone touch the clock. -/
theorem Part.answer_clock (r : Request) (other : r.kind ∉ [.start, .restart, .setTime]) :
    (p.answer r).1.clock = p.clock := by
  cases r with
  | start x | restart | setTime x => simp [Request.kind] at other
  | loadBegin x => simp only [Part.answer, Part.answerLoadBegin, Part.refuse]; (repeat' split) <;> rfl
  | loadTrain x => simp only [Part.answer, Part.answerLoadTrain, Part.refuse]; (repeat' split) <;> simp
  | loadEnd => simp only [Part.answer, Part.answerLoadEnd, Part.refuse]; (repeat' split) <;> rfl
  | loadAbort => simp only [Part.answer, Part.answerLoadAbort, Part.refuse]; (repeat' split) <;> rfl
  | trainUpdate u => simp only [Part.answer, Part.answerTrainUpdate, Part.refuse]; (repeat' split) <;> simp
  | faresBegin edition => simp only [Part.answer, Part.answerFaresBegin, Part.refuse]; (repeat' split) <;> rfl
  | faresItem i => simp only [Part.answer, Part.answerFaresItem, Part.refuse]; (repeat' split) <;> rfl
  | faresEnd => simp only [Part.answer, Part.answerFaresEnd, Part.refuse]; (repeat' split) <;> rfl
  | faresAbort => simp only [Part.answer, Part.answerFaresAbort, Part.refuse]; (repeat' split) <;> rfl
  | quote i => simp only [Part.answer, Part.answerQuote, Part.refuse]; (repeat' split) <;> rfl
  | issue x =>
    simp only [Part.answer, Part.answerIssue, Part.refuse]; (repeat' split) <;> simp [Part.checkIssue_clock]
  | abortIssue => simp only [Part.answer, Part.answerAbortIssue, Part.refuse]; (repeat' split) <;> simp
  | void t => simp only [Part.answer, Part.answerVoid, Part.refuse]; (repeat' split) <;> simp [Part.voidSale_clock]
  | readJournal first => rfl
  | releaseJournal number =>
    simp only [Part.answer, Part.answerReleaseJournal, Part.refuse]; (repeat' split) <;> rfl
  | takeNotices =>
    simp only [Part.answer, Part.answerTakeNotices, Part.removeNotices]
    (repeat' split) <;> simp [Part.storeLost_clock]
  | readPage => simp only [Part.answer, Part.answerReadPage, Part.refuse]; (repeat' split) <;> rfl
  | readStatus x => simp only [Part.answer, Part.answerReadStatus, Part.refuse]; (repeat' split) <;> rfl
  | clearFlags => rfl
  | doze => simp only [Part.answer, Part.answerDoze]; (repeat' split) <;> rfl

theorem Part.answer_goesOn (r : Request) (fits : r.fits = true) : p.clock.GoesOn (p.answer r).1.clock := by
  by_cases other : r.kind ∉ [.start, .restart, .setTime]
  · exact .of_eq (p.answer_clock r other)
  cases r with
  | start x =>
    simp only [Part.answer, Part.answerStart]
    split
    · exact .refl _
    · exact p.acceptStart_goesOn x
  | restart => exact p.clock.restarted_goesOn
  | setTime x => exact p.answerSetTime_goesOn x fits
  | _ => exact absurd (by simp [Request.kind]) other

theorem Part.judgeState_goesOn (r : Request) (fits : r.fits = true) : p.clock.GoesOn (p.judgeState r).clock := by
  have answered := p.answer_goesOn r fits
  simp only [Part.judgeState, Part.handle]
  split
  · exact .refl _
  · split <;> exact answered

theorem Part.takeRequest_goesOn (kind : Nat) (r : Option Request) : p.clock.GoesOn (p.takeRequest kind r).clock := by
  simp only [Part.takeRequest]
  split
  · exact .refl _
  split
  · exact .refl _
  split
  · rename_i r fits
    have woken : (p.wakeFor r.kind).clock = p.clock := by simp only [Part.wakeFor]; split <;> simp
    exact woken ▸ Part.judgeState_goesOn _ r fits
  · exact .refl _

theorem Part.endSend_goesOn (judge : Part → Part) (judged : ∀ q : Part, q.clock.GoesOn (judge q).clock) :
    p.clock.GoesOn (p.endSend judge).clock := by
  refine .ite fun _ => ?_
  dsimp only
  split
  · exact .refl _
  · exact judged p.shiftStatus

theorem Part.takeFrame_goesOn (kind : Nat) (r : Option Request) : p.clock.GoesOn (p.takeFrame kind r).clock :=
  (p.withPort (fun u => u.found .taken)).takeRequest_goesOn kind r

theorem Part.sendBytes_goesOn (bytes : List Byte) : p.clock.GoesOn (p.sendBytes bytes).clock := by
  refine p.endSend_goesOn _ fun q => ?_
  split
  · exact .refl _
  · exact q.takeFrame_goesOn _ _

theorem Part.send_goesOn {α : Type} (x : Sent α) (request : α → Request) : p.clock.GoesOn (p.send x request).clock := by
  cases x with
  | clean r => exact p.endSend_goesOn _ fun q => q.takeFrame_goesOn _ _
  | raw bytes =>
    cases bytes with
    | nil => exact .refl _
    | cons first rest =>
      rw [Part.send, Part.transfer_cons]
      split
      · exact p.sendBytes_goesOn rest
      split
      · exact .ite fun _ => .refl _
      · exact .ite fun _ => .refl _

/-- Self-test that finds a good store leaves the clock alone; a cold start clears it (R195, R196). -/
theorem Part.endSelfTest_clock (passes : Bool) :
    (p.endSelfTest passes).clock = if p.retained.good = true then p.clock else .cold := by
  simp only [Part.endSelfTest]
  split <;> simp [Part.warmStart, Part.coldStart]

end

/-- Every command but a cold start lets the clock go on (R3). -/
theorem exec_goesOn (c : Instr) (s : State)
    (warm : ∀ passes, c = .selfTestEnd passes → s.part.selfTesting = true → s.part.retained.good = true) :
    ∃ q, exec c s = .next ⟨q, s.pending⟩ ∧ s.part.clock.GoesOn q.clock := by
  cases halt : ofTheHalt c with
  | true =>
    obtain ⟨q, run, runs⟩ := exec_runsOn halt s
    exact ⟨q, run, runs.toGoesOn⟩
  | false =>
    cases c with
    | start x | restart x | setTime x | loadBegin x | loadTrain x | loadEnd x | loadAbort x | trainUpdate x
    | faresBegin x | faresItem x | faresEnd x | faresAbort x | quote x | issue x | abortIssue x | void x | readJournal x
    | releaseJournal x | takeNotices x | readPage x | readStatus x | clearFlags x | doze x =>
      exact ⟨_, rfl, s.part.send_goesOn x _⟩
    | fetch bytes => exact ⟨_, rfl, .ite fun _ => .refl _⟩
    | powerOn => exact ⟨_, rfl, s.part.clock.restarted_goesOn⟩
    | resetPin =>
      refine ⟨_, rfl, ?_⟩
      simp only [Part.assertReset]
      split
      · exact s.part.clock.restarted_goesOn
      · exact .refl _
    | resetPinRelease => exact ⟨_, rfl, .ite fun _ => .refl _⟩
    | mainSupplyLoss | backupLoss => exact ⟨_, rfl, .refl _⟩
    | selfTestEnd passes =>
      refine ⟨_, rfl, .ite fun testing => .of_eq ?_⟩
      rw [Part.endSelfTest_clock, if_pos (warm passes rfl testing)]
    | lineTimeEnd => exact ⟨_, rfl, .ite fun _ => s.part.clock.restarted_goesOn⟩
    | _ => cases halt

/-- A cold start's clock agrees too, so every command keeps a clock in agreement. -/
theorem exec_clockAgrees (c : Instr) (s : State) (k : s.part.clock.Agrees) :
    ∃ q : Part, exec c s = .next ⟨q, s.pending⟩ ∧ q.clock.Agrees := by
  by_cases warm : ∀ passes, c = .selfTestEnd passes → s.part.selfTesting = true → s.part.retained.good = true
  · obtain ⟨q, run, goes⟩ := exec_goesOn c s warm
    exact ⟨q, run, goes.agrees k⟩
  · simp only [not_forall] at warm
    obtain ⟨passes, rfl, testing, lost⟩ := warm
    refine ⟨_, rfl, ?_⟩
    rw [if_pos testing, Part.endSelfTest_clock, if_neg lost]
    exact HaltClock.cold_agrees

/-- A millisecond lets the clock run on (R2). -/
theorem Part.tick_runsOn (p : Part) : p.clock.RunsOn p.tick.clock := by
  have advanced : p.clock.RunsOn { p.clock with reading := p.clock.reading.advance 1 } := by
    refine ⟨⟨fun k => ⟨Reading.advance_valid _ _, k.2⟩, fun _ d hd => ⟨d, hd, Nat.le_refl d⟩⟩, fun k _ => ?_⟩
    have last := k.1.toMs_le
    rw [Reading.toMs_advance]
    omega
  rw [Part.tick_eq]
  dsimp only
  split
  · exact .refl _
  · exact advanced

/-- Settles O8: the millisecond and every command keep the clock in agreement. -/
theorem clockStaysInAgreement : Obligations.ClockStaysInAgreement := by
  intro s t k h
  simp only [step] at h
  split at h
  · cases h
    exact s.part.tick_runsOn.agrees k
  · rename_i c rest _
    obtain ⟨q, run, agrees⟩ := exec_clockAgrees c { s with pending := rest } k
    rw [run] at h
    cases h
    exact agrees

/-- Settles O13: the sales day by what every command but a cold start keeps, the reading by what the halt and time keep. -/
theorem timeNeverRunsBack : Obligations.TimeNeverRunsBack := by
  refine ⟨fun c s t d k run day warm => ?_, fun s t k set halt h => ?_⟩
  · obtain ⟨q, run', goes⟩ := exec_goesOn c s warm
    rw [run'] at run
    cases run
    exact goes.day k d day
  · simp only [step] at h
    split at h
    · cases h
      exact s.part.tick_runsOn.reading k set
    · rename_i c rest waiting
      have taken : ofTheHalt c = true := by simpa [waiting] using halt
      obtain ⟨q, run, runs⟩ := exec_runsOn taken { s with pending := rest }
      rw [run] at h
      cases h
      exact runs.reading k set

/-- The checks of the reading change the sales day and the last event minute alone (R3, R4, R5). -/
theorem HaltClock.checked_eq (c : HaltClock) (awake : Bool) :
    c.checked awake = { c with
      salesDay := (c.checked awake).salesDay
      lastEventMinute := if awake = true ∧ c.isSet = true then some c.reading.absMinute else c.lastEventMinute } := by
  simp only [HaltClock.checked]
  split <;> rfl

/-- Settles O44: each deadline that has come is its owner's operation on the clock. -/
theorem clockDeadlinesAct : Obligations.ClockDeadlinesAct := by
  intro s up
  refine ⟨fun slews ended => ?_, fun d deadline come => ?_, fun d deadline come => ?_⟩
  · have came : s.part.slewCame = true := by simp [Part.slewCame, Part.slewDue, up, slews, ended]
    refine ⟨⟨s.part.slewPeriod, s.pending⟩, by rw [exec_slewPeriod, if_pos came], rfl, ?_, by simp, by simp, by simp,
      by simp⟩
    have clock := s.part.clock.slewed.checked_eq s.part.awake
    have set : s.part.clock.slewed.isSet = s.part.clock.isSet := by
      rw [HaltClock.isSet, HaltClock.slewed_stratum, HaltClock.isSet]
    rw [← Part.slewPeriod_clock, set, HaltClock.slewed] at clock
    exact clock
  · have came : s.part.sourceCame = true := by simp [Part.sourceCame, up, deadline, reached, come]
    rw [exec_sourceDeadline, if_pos came]
    rfl
  · have came : s.part.referenceCame = true := by simp [Part.referenceCame, up, deadline, reached, come]
    rw [exec_referenceLapse, if_pos came]
    rfl

end Sys2Proof.Machine
end

section
namespace Sys2Proof.Machine

/-! ### What every receiver of a minute or rollover event keeps (R4, R5)

Board, page builder, quota unit, sales unit and keys act by a few moves; a relation that each of them keeps holds of the
checks of the clock. -/

/-- A relation between parts that the moves of a minute or rollover event keep. -/
structure Part.EventRule (R : Part → Part → Prop) : Prop where
  trans : ∀ {p q r : Part}, R p q → R q r → R p r
  fields : ∀ (p : Part) (clock : HaltClock) (board : DepartureList) (sales : SalesUnit) (quota : QuotaUnit) (draws : Nat),
    R p { p with clock, board, sales, quota, draws }
  post : ∀ (p : Part) (n : Notice), R p (p.post n)
  boardChanged : ∀ p : Part, R p p.boardChanged
  withdraw : ∀ (p : Part) (ids : List Nat), R p (p.withdraw ids)
  dozeMinute : ∀ p : Part, R p p.dozeMinute

section
variable {R : Part → Part → Prop} (rule : Part.EventRule R) (p : Part)
include rule

theorem Part.EventRule.refl : R p p := rule.fields p p.clock p.board p.sales p.quota p.draws

theorem Part.EventRule.sales (s : SalesUnit) : R p { p with sales := s } :=
  rule.fields p p.clock p.board s p.quota p.draws

theorem Part.EventRule.withClock (f : HaltClock → HaltClock) : R p (p.withClock f) :=
  rule.fields p (f p.clock) p.board p.sales p.quota p.draws

theorem Part.EventRule.drawOrder : R p p.drawOrder := rule.fields p p.clock p.board p.sales p.quota (p.draws + 1)

theorem Part.EventRule.modifyEntry (t : TrainKey) (f : Entry → Entry) : R p (p.modifyEntry t f) :=
  rule.fields p p.clock (p.board.modify t f) p.sales p.quota p.draws

theorem Part.EventRule.purgeLedger (new : Nat) : R p (p.purgeLedger new) :=
  rule.fields p p.clock p.board p.sales (p.purgeLedger new).quota p.draws

theorem Part.EventRule.moveOn (t : Option TrainKey) (f : LedgerRecord → LedgerRecord) : R p (p.moveOn t f) := by
  cases t with
  | none => exact rule.refl p
  | some t => exact rule.fields p p.clock p.board p.sales (p.quota.modify t f) p.draws

theorem Part.EventRule.boardChangedIf (c : Bool) : R p (p.boardChangedIf c) := by
  cases c with
  | false => exact rule.refl p
  | true => exact rule.boardChanged p

theorem Part.EventRule.lapseTrain (t : TrainKey) : R p (p.lapseTrain t) := by
  simp only [Part.lapseTrain]
  split
  · exact rule.refl p
  · have withdrawn := fun f ids => rule.trans (rule.moveOn p (some t) f) (rule.withdraw _ ids)
    split
    · exact withdrawn _ _
    · exact rule.trans (withdrawn _ _) (rule.post _ _)

theorem Part.EventRule.salesTrainLeft (t : TrainKey) (code : ResultCode) : R p (p.salesTrainLeft t code) := by
  simp only [Part.salesTrainLeft]
  split
  · exact rule.refl p
  · exact rule.trans (rule.trans (rule.moveOn p _ _) (rule.sales _ _)) (rule.post _ _)

theorem Part.EventRule.enterGone (e : Entry) : R p (p.enterGone e) := by
  simp only [Part.enterGone, Part.reportLeft]
  split
  · exact rule.trans (rule.trans (rule.modifyEntry p _ _) (rule.lapseTrain _ _)) (rule.salesTrainLeft _ _ _)
  · exact rule.trans (rule.modifyEntry p _ _) (rule.salesTrainLeft _ _ _)

theorem Part.EventRule.evaluateEntry (e : Entry) (now : Nat) (tell : Bool) : R p (p.evaluateEntry e now tell).1 := by
  simp only [Part.evaluateEntry]
  split
  · exact rule.refl p
  split
  · split
    · exact rule.trans (rule.enterGone p e) (rule.post _ _)
    · exact rule.enterGone p e
  · exact rule.modifyEntry p _ _

theorem Part.EventRule.evaluateAll (now : Nat) (l : List TrainKey) : R p (p.evaluateAll now l).1 := by
  induction l generalizing p with
  | nil => exact rule.refl p
  | cons t l ih =>
    simp only [Part.evaluateAll]
    split
    · exact ih p
    · exact rule.trans (rule.evaluateEntry p _ _ _) (ih _)

theorem Part.EventRule.boardMinute (now : Nat) : R p (p.boardMinute now) :=
  rule.trans (rule.evaluateAll p _ _) (rule.boardChangedIf _ _)

theorem Part.EventRule.overrunOldest : R p p.overrunOldest := by
  simp only [Part.overrunOldest]
  split
  · exact rule.refl p
  · exact rule.trans (rule.sales p _) (rule.post _ _)

theorem Part.EventRule.writeAlways (body : JournalBody) : R p (p.writeAlways body) := by
  simp only [Part.writeAlways]
  split
  · exact rule.sales p _
  · refine rule.trans (q := if 256 ≤ p.sales.journal.length then p.overrunOldest else p) ?_ (rule.sales _ _)
    split
    · exact rule.overrunOldest p
    · exact rule.refl p

theorem Part.EventRule.closeDay (old : Nat) : R p (p.closeDay old) := by
  simp only [Part.closeDay]
  split
  · exact rule.refl p
  · exact rule.trans (rule.writeAlways p _) (rule.sales _ _)

theorem Part.EventRule.purgeBoard (new : Nat) : R p (p.purgeBoard new) := by
  simp only [Part.purgeBoard]
  exact rule.trans (rule.trans (rule.withdraw p _) (rule.fields _ _ _ _ _ _)) (rule.boardChangedIf _ _)

theorem Part.EventRule.handRollover (order old new : Nat) : R p (p.handRollover order old new) :=
  threeInOrder_trans (R := R) rule.trans (fun q => rule.closeDay q old) (fun q => rule.purgeBoard q new)
    (fun q => rule.purgeLedger q new) order p

theorem Part.EventRule.handMinute (order minute : Nat) : R p (p.handMinute order minute) :=
  threeInOrder_trans (R := R) rule.trans (fun q => rule.boardMinute q minute) (fun q => rule.boardChanged q)
    (fun q => rule.dozeMinute q) order p

theorem Part.EventRule.rollover (old new : Nat) : R p (p.rollover old new) := by
  simp only [Part.rollover]
  exact rule.trans (rule.trans (rule.withClock p _) (rule.drawOrder _)) (rule.handRollover _ _ _ _)

theorem Part.EventRule.minuteEvent : R p p.minuteEvent := by
  simp only [Part.minuteEvent]
  exact rule.trans (rule.trans (rule.withClock p _) (rule.drawOrder _)) (rule.handMinute _ _ _)

theorem Part.EventRule.salesDayCheck : R p p.salesDayCheck := by
  simp only [Part.salesDayCheck]
  (repeat' split)
  · exact rule.refl p
  · exact rule.rollover p _ _
  · exact rule.refl p
  · exact rule.refl p

theorem Part.EventRule.clockCheck : R p p.clockCheck := by
  refine rule.trans (rule.salesDayCheck p) ?_
  simp only [Part.clockCheck, Part.minuteCheck]
  split
  · exact rule.minuteEvent _
  · exact rule.refl _

end

/-! ### What the checks of the clock leave of the transmit store (R5, R153)

The receivers of minute and rollover events withdraw frames and offer none. -/

/-- Frames are withdrawn at most: the sequence number and the counters of the line stand. -/
structure Part.OffersNone (p q : Part) : Prop where
  counts : q.line.counts = p.line.counts
  numbers : q.line.nextSeq = p.line.nextSeq
  slots : (q.line.slots.map Slot.unwaited).Sublist (p.line.slots.map Slot.unwaited)

theorem Part.OffersNone.of_same {p q : Part} (line : q.line = p.line) : p.OffersNone q :=
  ⟨by rw [line], by rw [line], by rw [line]⟩

theorem Part.OffersNone.trans {p q r : Part} (a : p.OffersNone q) (b : q.OffersNone r) : p.OffersNone r :=
  ⟨b.counts.trans a.counts, b.numbers.trans a.numbers, b.slots.trans a.slots⟩

/-- An empty store stays empty. -/
theorem Part.OffersNone.empty {p q : Part} (a : p.OffersNone q) (empty : p.line.slots = []) : q.line.slots = [] := by
  have slots := a.slots
  rw [empty, List.map_nil, List.sublist_nil, List.map_eq_nil_iff] at slots
  exact slots

theorem Part.withdraw_offersNone (p : Part) (ids : List Nat) : p.OffersNone (p.withdraw ids) := by
  refine ⟨?_, (p.withdraw_numbers ids).2, ?_⟩
  · simp only [Part.withdraw]
    split <;> simp
  · rw [p.withdraw_unwaited]
    exact List.filter_sublist.map _

theorem Part.OffersNone.eventRule : Part.EventRule Part.OffersNone where
  trans := .trans
  fields _ _ _ _ _ _ := .of_same rfl
  post p n := .of_same (by simp)
  boardChanged p := .of_same (by simp)
  withdraw p ids := p.withdraw_offersNone ids
  dozeMinute p := .of_same (by simp)

section
variable (p : Part)

theorem Part.correctBy_offersNone (sender source : Nat) (offset : Int) :
    p.OffersNone (p.correctBy sender source offset) := by
  rw [Part.correctBy]
  cases bandOf offset with
  | agreed | slew => exact .of_same rfl
  | step => exact .trans (.of_same (by simp)) (Part.OffersNone.eventRule.clockCheck _)
  | disagree => exact .of_same (by dsimp only; split <;> simp)

/-- A beacon of the source offers nothing either (R8, R10, R11). -/
theorem Part.sourceBeacon_offersNone (sender : Nat) (b : BeaconPayload) : p.OffersNone (p.sourceBeacon sender b) := by
  simp only [Part.sourceBeacon, Part.correct]
  refine .trans (.of_same ?_) (Part.correctBy_offersNone _ _ _ _)
  rfl

end

/-! ### A beacon heard, at the clock (R7 to R14, R141) -/

/-- The part after a BEACON was recorded and checked, before the clock takes it (R141 to R143). -/
def Part.beaconNoted (p : Part) (sender : Nat) (b : BeaconPayload) : Part :=
  ((((p.withPeers (fun t => t.modify sender (fun r => { r with advert := some b.advert }))).checkTimetable sender
    b.timetable).checkFareEdition sender b.fare).checkClash sender b)

section
variable (p : Part) (sender : Nat) (b : BeaconPayload)

theorem Part.checkTimetable_listens (edition : Nat) :
    (p.checkTimetable sender edition).doze.listens = p.doze.listens := by
  simp only [Part.checkTimetable]; split <;> simp [Part.withPeers]

theorem Part.checkFareEdition_listens (edition : Nat) :
    (p.checkFareEdition sender edition).doze.listens = p.doze.listens := by
  simp only [Part.checkFareEdition]; split <;> simp [Part.withPeers]

theorem Part.checkClash_listens : (p.checkClash sender b).doze.listens = p.doze.listens := by
  simp only [Part.checkClash]; (repeat' split) <;> simp [Part.withPeers]

theorem Part.hearBeacon_eq : p.hearBeacon sender b = (p.beaconNoted sender b).hearClock sender b := rfl

theorem Part.beaconNoted_frame : (p.beaconNoted sender b).clock = p.clock ∧ (p.beaconNoted sender b).line = p.line
    ∧ (p.beaconNoted sender b).lineTime = p.lineTime ∧ (p.beaconNoted sender b).port = p.port
    ∧ (p.beaconNoted sender b).awake = p.awake := by
  simp [Part.beaconNoted, Part.awake_eq_listens, Part.checkTimetable_listens, Part.checkFareEdition_listens,
    Part.checkClash_listens, Part.withPeers]

/-- The clock changes no peer record, so the sender stands in the table as it was noted (R141). -/
theorem Part.beaconNoted_find : (p.beaconNoted sender b).peers.find sender = (p.hearBeacon sender b).peers.find sender := by
  rw [Part.hearBeacon_eq]
  simp

end

/-- A beacon that the part hears reaches the clock of a part that differs from it in peer table, notices and wake alone;
its sender is PRESENT there, with what it advertises (R139, R141). -/
theorem exec_beacon_of_hears {sender seq : Nat} {b : BeaconPayload} {s : State} (hears : s.part.Hears sender seq)
    (ok : (Payload.beacon b).ok = true) (known : (s.part.peers.find sender).isSome) :
    ∃ q : Part, exec (.beacon (.clean sender seq b)) s = .next ⟨q.hearClock sender b, s.pending⟩
      ∧ q.clock = s.part.clock ∧ q.line = s.part.line ∧ q.lineTime = s.part.lineTime ∧ q.port = s.part.port
      ∧ q.fares = s.part.fares ∧ q.awake = true ∧ q.peerPresent sender = true
      ∧ (q.peers.find sender).bind PeerRecord.advert = some b.advert := by
  obtain ⟨r, found⟩ := Option.isSome_iff_exists.mp known
  let a := s.part.acceptFrame sender seq
  obtain ⟨clock, line, lineTime, port, awake⟩ := a.beaconNoted_frame sender b
  have noted := a.beaconNoted_find sender b
  rw [(a.hearBeacon_find sender b (s.part.acceptFrame_find sender seq found).1).1] at noted
  refine ⟨a.beaconNoted sender b, exec_of_hears (f := ⟨sender, seq, .beacon b⟩) rfl hears ok, ?_, ?_, ?_, ?_, ?_, ?_,
    ?_, ?_⟩
  · rw [clock]; simp [a]
  · rw [line]; simp [a]
  · rw [lineTime]; simp [a]
  · rw [port]; simp [a]
  · simp [Part.beaconNoted, a]
  · rw [awake, Part.acceptFrame_awake, hears.2.1]
  · simp [Part.peerPresent, noted, PeerRecord.heardAt]
  · simp [noted]

/-- What the checks of the reading leave (R5). -/
theorem HaltClock.checked_stands (c : HaltClock) (awake : Bool) :
    (c.checked awake).reading = c.reading ∧ (c.checked awake).pending = c.pending
      ∧ (c.checked awake).disagree = c.disagree ∧ (c.checked awake).source = c.source
      ∧ (c.checked awake).stratum = c.stratum ∧ (c.checked awake).sourceDeadline = c.sourceDeadline := by
  rw [HaltClock.checked]
  split <;> exact ⟨rfl, rfl, rfl, rfl, rfl, rfl⟩

/-- A correction by the band of its offset (R11), of a clock that may have been told of its source before (R8). -/
theorem HaltClock.corrected_correctedBy {c₀ c : HaltClock} (reading : c.reading = c₀.reading) (source : Nat) (offset : Int)
    (now : Nat) (awake : Bool) :
    CorrectedBy offset (Reading.ofMs source) now c₀ (c.corrected source offset now awake) := by
  have band := bandOf_spec offset
  obtain ⟨stepped, pending, disagree, -⟩ :=
    HaltClock.checked_stands { c with reading := Reading.ofMs source, pending := 0, disagree := false } awake
  rw [CorrectedBy, ← reading, HaltClock.corrected]
  split <;> rename_i h <;> rw [h] at band
  · exact ⟨fun _ _ => ⟨rfl, rfl, rfl⟩, fun out => by omega, fun _ => by omega, fun _ => by omega⟩
  · exact ⟨fun _ _ => by omega, fun _ _ _ => ⟨rfl, rfl, rfl, rfl⟩, fun _ => by omega, fun _ => by omega⟩
  · exact ⟨fun _ _ => by omega, fun _ _ _ => by omega, fun _ => ⟨pending, disagree, stepped⟩, fun _ => by omega⟩
  · exact ⟨fun _ _ => by omega, fun _ _ _ => by omega, fun _ => by omega, fun _ => ⟨rfl, rfl, rfl⟩⟩

/-- A correction concerns neither the source nor its deadline nor the stratum. -/
theorem HaltClock.corrected_source (c : HaltClock) (source : Nat) (offset : Int) (now : Nat) (awake : Bool) :
    (c.corrected source offset now awake).source = c.source
      ∧ (c.corrected source offset now awake).stratum = c.stratum
      ∧ (c.corrected source offset now awake).sourceDeadline = c.sourceDeadline := by
  obtain ⟨-, -, -, stands⟩ :=
    HaltClock.checked_stands { c with reading := Reading.ofMs source, pending := 0, disagree := false } awake
  rw [HaltClock.corrected]
  split
  · exact ⟨rfl, rfl, rfl⟩
  · exact ⟨rfl, rfl, rfl⟩
  · exact stands
  · exact ⟨rfl, rfl, rfl⟩

/-- The source reading of a beacon in ms, written out (R10). -/
theorem BeaconPayload.sourceMs_eq (b : BeaconPayload) : b.sourceMs = b.day * 86400000 + b.ms + 2 := by
  rw [BeaconPayload.sourceMs, Reading.toMs_eq]

/-- A beacon that a followed clock takes (R8): the clock follows its sender, and the offset of the clock corrects it. -/
theorem Part.sourceBeacon_spec (p : Part) (sender : Nat) (b : BeaconPayload) :
    (p.sourceBeacon sender b).clock.source = p.clock.source
      ∧ (p.sourceBeacon sender b).clock.stratum = min (b.stratum + 1) 7
      ∧ (p.sourceBeacon sender b).clock.sourceDeadline = some (p.lineTime + 60000)
      ∧ ∀ c, p.clock.reading = c.reading →
          CorrectedBy (((b.day * 86400000 + b.ms + 2 : Nat) : Int) - (c.reading.toMs : Int))
            (Reading.ofMs (b.day * 86400000 + b.ms + 2)) p.lineTime c (p.sourceBeacon sender b).clock := by
  rw [Part.sourceBeacon_clock]
  obtain ⟨source, stratum, deadline⟩ :=
    (p.clock.followed b p.lineTime).corrected_source b.sourceMs (p.clock.offset b) p.lineTime p.awake
  refine ⟨source, stratum, deadline, fun c reading => ?_⟩
  rw [← BeaconPayload.sourceMs_eq, ← reading]
  have same : (p.clock.followed b p.lineTime).reading = c.reading := by rw [HaltClock.followed]; exact reading
  exact HaltClock.corrected_correctedBy same b.sourceMs (p.clock.offset b) p.lineTime p.awake

/-- Settles O45: the source's beacon follows it and corrects by the band of the offset, or loses it. -/
theorem beaconCorrectsItsFollower : Obligations.BeaconCorrectsItsFollower := by
  intro sender seq b s hears ok source _ known
  obtain ⟨q, run, clock, line, lineTime, port, fares, -, present, advert⟩ := exec_beacon_of_hears hears ok known
  have follows : q.clock.source = some sender := by rw [clock, source]
  have frame := q.hearClock_frame sender b
  refine ⟨_, run, rfl, ?_, fun far => ?_, fun near => ?_, ?_, ?_, ?_, ?_⟩
  · simpa [BeaconPayload.advert] using advert
  · have lost : q.hearClock sender b = q.loseSource := by
      rw [Part.hearClock, if_pos follows, if_neg]
      simp only [Part.eligible, Bool.and_eq_true, decide_eq_true_eq]
      omega
    simp only [lost, Part.loseSource, Part.withClock_clock, clock, HaltClock.lost]
  · have corrected : q.hearClock sender b = q.sourceBeacon sender b := by
      rw [Part.hearClock, if_pos follows, if_pos]
      simp [Part.eligible, present, near]
    obtain ⟨own, stratum, deadline, correct⟩ := q.sourceBeacon_spec sender b
    rw [lineTime] at deadline correct
    simp only [corrected]
    exact ⟨own.trans follows, stratum, deadline, correct _ (by rw [clock])⟩
  · simp [fares]
  · simp [port]
  · simp [lineTime]
  · have offers : q.OffersNone (q.hearClock sender b) := by
      rw [Part.hearClock, if_pos follows]
      split
      · exact q.sourceBeacon_offersNone sender b
      · exact .of_same rfl
    exact offers.counts.trans (by rw [line])

/-- Settles O46: a nearer sender becomes the source and sets or corrects the clock; another one has no effect on it. -/
theorem nearerBeaconIsFollowed : Obligations.NearerBeaconIsFollowed := by
  intro sender seq b s hears ok other known
  obtain ⟨q, run, clock, -, lineTime, port, -, awake, present, -⟩ := exec_beacon_of_hears hears ok known
  have follows : ¬ q.clock.source = some sender := by rwa [clock]
  have own : q.ownNode = s.part.ownNode := by rw [Part.ownNode, port, Part.ownNode]
  have decides : (q.eligible sender b && q.prefers sender b) = true ↔
      b.stratum ≤ 7 ∧ (b.stratum + 1 < s.part.clock.stratum
        ∨ b.stratum + 1 = s.part.clock.stratum ∧ sender < s.part.clock.source.getD s.part.ownNode) := by
    simp [Part.eligible, Part.prefers, Part.sourceNumber, present, clock, own]
  refine ⟨_, run, fun far => ?_, fun near => ?_⟩
  · have stands : q.hearClock sender b = q := by
      rw [Part.hearClock, if_neg follows, if_neg (mt decides.mp far)]
    simp only [stands, clock]
  have taken : q.hearClock sender b = q.follow sender b := by
    rw [Part.hearClock, if_neg follows, if_pos (decides.mpr near)]
  simp only [taken, Part.follow]
  by_cases set : s.part.clock.isSet = true
  · rw [if_pos (by rw [clock, set])]
    obtain ⟨source, stratum, deadline, correct⟩ :=
      (q.withClock (fun c => { c with source := some sender, disagree := false })).sourceBeacon_spec sender b
    rw [Part.withClock_lineTime, lineTime] at deadline correct
    refine ⟨source, stratum, deadline, fun unset => by simp [set] at unset, fun _ => correct _ ?_⟩
    rw [Part.withClock_clock, clock]
  · rw [if_neg (by rw [clock]; exact set)]
    have setBy := (q.withClock (fun c => { c with source := some sender, disagree := false })).setFromBeacon_clock sender b
    rw [Part.withClock_awake, if_pos awake, Part.withClock_clock, Part.withClock_lineTime, clock, lineTime,
      HaltClock.minuteTold, HaltClock.setBy, HaltClock.followed, BeaconPayload.sourceMs_eq] at setBy
    rw [setBy]
    exact ⟨rfl, rfl, rfl, fun _ => ⟨rfl, rfl, rfl, rfl, rfl⟩, fun set' => absurd set' set⟩

end Sys2Proof.Machine
end

section
namespace Sys2Proof.Machine

/-! ### SET TIME taken (R15, R16) -/

section
variable (c : HaltClock) (r : SetTimeRequest) (now : Nat)

theorem HaltClock.setTo_isSet : (c.setTo r now).isSet = true := by
  cases h : r.reference <;> simp [HaltClock.setTo, HaltClock.isSet, h]

theorem HaltClock.setTo_computedDay :
    (c.setTo r now).computedDay = computedSalesDay c.rolloverMinute ⟨r.day, r.ms⟩ := rfl

/-- The clock of a part that listens or not, once it took a SET TIME that sets no sales day back (R3, R4, R16). -/
theorem HaltClock.setTo_checked (awake : Bool)
    (ahead : ∀ held, c.salesDay = some held → held ≤ computedSalesDay c.rolloverMinute ⟨r.day, r.ms⟩) :
    (c.setTo r now).checked awake = { c with
      reading := ⟨r.day, r.ms⟩
      pending := 0
      disagree := false
      source := none
      sourceDeadline := none
      stratum := if r.reference then 0 else 8
      referenceDeadline := if r.reference then some (now + 900000) else none
      salesDay :=
        if c.isSet = false then some (computedSalesDay c.rolloverMinute ⟨r.day, r.ms⟩)
        else if awake = true then c.salesDay.map (fun _ => computedSalesDay c.rolloverMinute ⟨r.day, r.ms⟩)
        else c.salesDay
      lastEventMinute := if awake = true then some (r.day * 1440 + r.ms / 60000) else c.lastEventMinute } := by
  have day : (c.setTo r now).salesDay.map (fun d => max d (c.setTo r now).computedDay)
      = if c.isSet = false then some (computedSalesDay c.rolloverMinute ⟨r.day, r.ms⟩)
        else c.salesDay.map (fun _ => computedSalesDay c.rolloverMinute ⟨r.day, r.ms⟩) := by
    rw [HaltClock.setTo_computedDay, HaltClock.setTo]
    cases set : c.isSet with
    | false => simp
    | true =>
      cases held : c.salesDay with
      | none => rfl
      | some d => simp [ahead d held]
  cases awake with
  | true =>
    rw [HaltClock.checked, if_pos ⟨rfl, c.setTo_isSet r now⟩, HaltClock.dayCompared, day, HaltClock.minuteTold,
      HaltClock.setTo]
    simp [Reading.absMinute, Reading.minuteOfDay]
  | false =>
    rw [HaltClock.checked, if_neg (by simp), HaltClock.setTo]
    cases set : c.isSet <;> simp

end

/-- SET TIME reaches the clock in WAITING_START and in RUNNING (R183). -/
theorem Part.sendRequest_setTime {p : Part} {r : SetTimeRequest} (up : p.up = true) (free : p.port.reply = none)
    (fits : r.fits = true) (state : p.doze.state = .waitingStart ∨ p.doze.state = .running) :
    p.sendRequest (.setTime r) = replied .setTime (p.afterTaking.answerSetTime r) := by
  have untested : p.doze.state ≠ .selfTest := by rcases state with h | h <;> simp [h]
  have asIs : p.afterTaking.wakeFor .setTime = p.afterTaking := if_neg fun ⟨dozing, _⟩ => by
    have dozing : p.doze.state = .dozing := dozing
    rcases state with h | h <;> simp [h] at dozing
  have taken : p.afterTaking.doze.state.refusal .setTime = none := by
    have same : p.afterTaking.doze = p.doze := rfl
    rcases state with h | h <;> simp [same, h, PartState.refusal]
  rw [p.sendRequest_eq_judgeState (.setTime r) up free untested fits]
  simp only [Request.kind, asIs, Part.judgeState, taken]
  rfl

/-- Settles O21: the first failing check refuses; a SET TIME that passes them all is taken, and checked in RUNNING. -/
theorem setTimeIsCheckedAndTaken : Obligations.SetTimeIsCheckedAndTaken := by
  intro r s up free fits state
  have reach := Part.sendRequest_setTime up free fits state
  refine ⟨fun code refused => ?_, fun ms reference ahead => ?_⟩
  · have refusal : s.part.afterTaking.setTimeRefusal r = some code := by
      change s.part.setTimeRefusal r = some code
      rw [Part.setTimeRefusal]
      rcases refused with ⟨late, rfl⟩ | ⟨ms, reference, role, rfl⟩ | ⟨ms, reference, ⟨held, known, behind⟩, rfl⟩
      · rw [if_pos late]
      · rw [if_neg (by omega), if_pos (by simp [reference, role])]
      · rw [if_neg (by omega), if_neg (by simpa using reference), known]
        exact if_pos behind
    have answer : s.part.afterTaking.answerSetTime r = s.part.afterTaking.refuse code := by
      rw [Part.answerSetTime, refusal]
    rw [exec_setTime, Part.send, reach, answer]
    rfl
  · have refusal : s.part.afterTaking.setTimeRefusal r = none := by
      change s.part.setTimeRefusal r = none
      rw [Part.setTimeRefusal, if_neg (by omega), if_neg (by simpa using reference)]
      cases known : s.part.clock.salesDay with
      | none => rfl
      | some held => exact if_neg (Nat.not_lt.mpr (ahead held known))
    let q := s.part.afterTaking.acceptTime r
    have answer : s.part.afterTaking.answerSetTime r = (q, ⟨.done, .time q.clock.stratum q.clock.salesDay⟩) := by
      rw [Part.answerSetTime, refusal]
    have undozed : s.part.afterTaking.doze.state ≠ .dozing := by
      change s.part.doze.state ≠ .dozing
      rcases state with h | h <;> simp [h]
    have awake : s.part.awake = true ↔ s.part.doze.state = .running := by
      rcases state with h | h <;> simp [Part.awake, h]
    have clock : q.clock = _ := (s.part.afterTaking.acceptTime_clock r).trans
      (s.part.clock.setTo_checked r s.part.lineTime s.part.awake ahead)
    have run : exec (.setTime (.clean r)) s
        = .next ⟨replied .setTime (q, ⟨.done, .time q.clock.stratum q.clock.salesDay⟩), s.pending⟩ := by
      rw [exec_setTime, Part.send, reach, answer]
    obtain ⟨lineTime, -, retained, start, fares, peers, -⟩ := s.part.afterTaking.acceptTime_frame r
    refine ⟨_, run, rfl, ?_, ?_, ?_⟩
    · rw [(replied_frame _ _).2.1]
      simpa only [awake] using clock
    · have port : q.port = s.part.afterTaking.port := by simp [q]
      rw [(replied_frame _ _).2.1]
      exact replied_port (o := (q, _)) port .setTime
    · exact ⟨fares, peers, lineTime, Part.acceptTime_running _ r undozed, retained, start⟩

end Sys2Proof.Machine
end

section
namespace Sys2Proof.Machine

/-! ### A peer that falls silent or has gone (R129, R140) -/

/-- The record of a peer that has fallen silent (R140). -/
def PeerRecord.fallenSilent (r : PeerRecord) : PeerRecord := { r with state := .silent, silentDeadline := none }

/-- The record of a peer that has gone (R140). -/
def PeerRecord.leftTheHalt (r : PeerRecord) : PeerRecord := { r with state := .gone, goneDeadline := none }

/-- The grants that await a node are part of the places awaited (R111). -/
theorem LedgerRecord.Balanced.awaits_le {l : LedgerRecord} (k : l.Balanced) (asker : Nat) :
    placesOf (l.grants.filter (GrantRecord.awaits asker)) ≤ l.awaiting := by
  obtain ⟨-, -, -, awaiting, -⟩ := l.balanced_iff.mp k
  have split := placesIn_split GrantRecord.isAwaiting (GrantRecord.awaits asker)
    (fun g => g.isAwaiting && !g.awaits asker) l.grants
    (fun g => by cases h : g.isAwaiting <;> simp [GrantRecord.awaits, h])
    (fun g awaits => by simp [awaits])
  have same : placesOf (l.grants.filter (GrantRecord.awaits asker)) = placesIn (GrantRecord.awaits asker) l.grants := rfl
  omega

/-- No grant awaits a node that has gone (R129). -/
theorem LedgerRecord.peerGone_grants (l : LedgerRecord) (asker : Nat) {g : GrantRecord} (mem : g ∈ (l.peerGone asker).grants)
    (its : g.asker = asker) : g.isAwaiting = false := by
  obtain ⟨g', -, rfl⟩ := List.mem_map.mp mem
  cases awaits : g'.awaits asker with
  | true => simp [GrantRecord.isAwaiting]
  | false =>
    have its : g'.asker = asker := by simpa [awaits] using its
    simpa [GrantRecord.awaits, its] using awaits

section
variable (p : Part) (node : Nat)

/-- The DOUBTFUL notices change no ledger (R129, R132). -/
theorem Part.quotaPeerGone_quota :
    (p.quotaPeerGone node).quota = { p.quota with ledger := p.quota.ledger.map (fun l => l.peerGone node) } := by
  have notes : ∀ (l : List LedgerRecord) (q : Part), (l.foldl (fun q r => q.notePeerGone node r) q).quota = q.quota := by
    intro l
    induction l with
    | nil => exact fun _ => rfl
    | cons r l ih => intro q; rw [List.foldl_cons, ih]; simp
  exact notes _ _

theorem Part.peerSilent_spec :
    (p.peerSilent node).peers = p.peers.modify node PeerRecord.fallenSilent
      ∧ (p.peerSilent node).clock = (if p.clock.source = some node then p.clock.lost else p.clock)
      ∧ (p.peerSilent node).quota = p.quota ∧ (p.peerSilent node).line = p.line ∧ (p.peerSilent node).sales = p.sales := by
  simp [Part.peerSilent, Part.clockPeerLost_clock, Part.withPeers]
  rfl

theorem Part.peerGone_spec :
    (p.peerGone node).peers
        = { p.peers.modify node PeerRecord.leftTheHalt with
            peerGone := bump p.peers.peerGone }
      ∧ (p.peerGone node).clock = (if p.clock.source = some node then p.clock.lost else p.clock)
      ∧ (p.peerGone node).quota = { p.quota with ledger := p.quota.ledger.map (fun l => l.peerGone node) }
      ∧ (p.peerGone node).line = p.line ∧ (p.peerGone node).sales = p.sales := by
  simp [Part.peerGone, Part.quotaPeerGone_quota, Part.clockPeerLost_clock, Part.withPeers]
  rfl

end

/-! ### The beacon deadline (R144) -/

section
variable (p : Part)

/-- The part with its beacon deadline restarted (R144). -/
def Part.beaconRestarted : Part := p.withPeers (fun t => { t with beaconDeadline := some (p.lineTime + p.beaconMs) })

theorem Part.beaconDue_eq : p.beaconDue = p.beaconRestarted.offerBeacon := rfl

/-- An offer does not read the peer table. -/
theorem Part.beaconRestarted_offer :
    (p.beaconRestarted.offer .normal .beacon).line = (p.offer .normal .beacon).line :=
  Part.OffersAs.offer (p := p.beaconRestarted) (q := p) ⟨rfl, rfl, rfl, rfl, rfl, rfl, rfl, rfl⟩ _ _

/-- A beacon due changes peer table, line and draw counter: the deadline starts again, and no record changes. -/
theorem Part.beaconDue_spec :
    p.beaconDue = { p with peers := p.beaconDue.peers, line := p.beaconDue.line, draws := p.beaconDue.draws }
      ∧ p.beaconDue.peers = { p.peers with
          beaconDeadline := some (p.lineTime + p.beaconMs), skipped := p.beaconDue.peers.skipped } := by
  rw [Part.beaconDue_eq, Part.offerBeacon, Part.offer_eq]
  split
  · exact ⟨rfl, rfl⟩
  split <;> exact ⟨rfl, rfl⟩

/-- With a beacon in the store none is offered (R144). -/
theorem Part.beaconDue_of_stored (stored : p.line.beaconInStore = true) :
    p.beaconDue.line = p.line ∧ p.beaconDue.peers.skipped = p.peers.skipped := by
  have kept : p.beaconRestarted.line.beaconInStore = true := stored
  rw [Part.beaconDue_eq, Part.offerBeacon, if_pos kept]
  exact ⟨rfl, rfl⟩

/-- Without one a beacon is offered, and skipped when the store has no slot for it (R144). -/
theorem Part.beaconDue_of_none (none : p.line.beaconInStore = false) :
    p.beaconDue.line = (p.offer .normal .beacon).line
      ∧ p.beaconDue.peers.skipped = if p.line.hasRoom .normal = true then p.peers.skipped
          else min (p.peers.skipped + 1) 65535 := by
  have without : ¬ p.beaconRestarted.line.beaconInStore = true := by
    rw [show p.beaconRestarted.line = p.line from rfl, none]; exact Bool.false_ne_true
  have line : p.beaconRestarted.line.hasRoom .normal = p.line.hasRoom .normal := rfl
  have offered : (p.beaconRestarted.offer .normal .beacon).peers = p.beaconRestarted.peers := by simp
  rw [Part.beaconDue_eq, Part.offerBeacon, if_neg without, line, ← p.beaconRestarted_offer]
  split
  · exact ⟨rfl, by rw [offered]; rfl⟩
  · refine ⟨by simp, ?_⟩
    rw [Part.skipBeacon, Part.withPeers, offered]
    rfl

end

/-- Settles O51: each deadline that has come is the peer table's operation on it. -/
theorem peerDeadlinesAct : Obligations.PeerDeadlinesAct := by
  refine ⟨fun node r d s up awake found => ⟨fun state deadline come => ?_, fun state deadline come => ?_⟩,
    fun d s up awake deadline come => ?_⟩
  · have came : s.part.silentCame node = true := by
      simp [Part.silentCame, Part.acting, up, awake, found, PeerRecord.silentDue, state, deadline, reached, come]
    obtain ⟨peers, clock, quota, line, sales⟩ := s.part.peerSilent_spec node
    refine ⟨⟨s.part.peerSilent node, s.pending⟩, by rw [exec_silentDeadline, if_pos came], rfl, ?_, fun n other => ?_,
      clock, quota, line, sales⟩
    · rw [peers, PeerTable.find_modify _ node PeerRecord.fallenSilent (fun _ => rfl), found]
      rfl
    · rw [peers, PeerTable.find_modify_other _ n node PeerRecord.fallenSilent (fun _ => rfl) other]
  · have came : s.part.goneCame node = true := by
      simp [Part.goneCame, Part.acting, up, awake, found, PeerRecord.goneDue, state, deadline, reached, come]
    obtain ⟨peers, clock, quota, line, sales⟩ := s.part.peerGone_spec node
    refine ⟨⟨s.part.peerGone node, s.pending⟩, by rw [exec_goneDeadline, if_pos came], rfl, ?_, ?_, fun n other => ?_,
      clock, fun balanced l mem => ?_, line, sales⟩
    · rw [peers]
      have modified := s.part.peers.find_modify node PeerRecord.leftTheHalt (fun _ => rfl)
      rw [found] at modified
      exact modified
    · rw [peers]
      rfl
    · rw [peers]
      exact s.part.peers.find_modify_other n node PeerRecord.leftTheHalt (fun _ => rfl) other
    · rw [quota] at mem
      obtain ⟨l', mem', rfl⟩ := List.mem_map.mp mem
      refine ⟨fun g hg its => l'.peerGone_grants node hg its, l', mem', rfl, rfl, rfl, ?_⟩
      have part := (balanced.2.2 l' mem').awaits_le node
      simp only [LedgerRecord.peerGone]
      omega
  · have came : s.part.beaconCame = true := by
      simp [Part.beaconCame, Part.acting, up, awake, deadline, reached, come]
    obtain ⟨frame, peers⟩ := s.part.beaconDue_spec
    refine ⟨⟨s.part.beaconDue, s.pending⟩, by rw [exec_beaconDeadline, if_pos came], rfl, ?_, ?_,
      s.part.beaconDue_of_stored, s.part.beaconDue_of_none, frame⟩
    · rw [peers]
    · rw [peers]

end Sys2Proof.Machine
end

section
namespace Sys2Proof.Machine

/-! ### The journal across a rollover event (R104, R108) -/

section
variable {p q : Part}

theorem Part.overrunOldest_journal (p : Part) : p.overrunOldest.sales.journal = p.sales.journal.tail := by
  simp only [Part.overrunOldest]
  split
  · rename_i empty
    rw [empty, List.tail_nil]
  · rename_i oldest rest journal
    simp [journal, Part.countOverrun]

/-- The record of a DAY_CLOSE or START is the newest, behind what the room for it left (R104). -/
theorem Part.writeAlways_journal {n : Nat} (next : p.sales.nextNumber = some n) (body : JournalBody) :
    (p.writeAlways body).sales.journal
      = (if 256 ≤ p.sales.journal.length then p.sales.journal.tail else p.sales.journal) ++ [p.record n body] := by
  simp only [Part.writeAlways, next]
  split <;> simp [Part.write, Part.record, Part.overrunOldest_journal]

/-- The newest record is not the one that makes room for another (R104). -/
theorem Part.writeAlways_keeps_newest {l : List JournalRecord} {j : JournalRecord} (newest : p.sales.journal = l ++ [j])
    (body : JournalBody) : j ∈ (p.writeAlways body).sales.journal := by
  cases next : p.sales.nextNumber with
  | none => simp [Part.writeAlways, next, Part.countOverrun, newest]
  | some n =>
    rw [Part.writeAlways_journal next, newest]
    refine List.mem_append_left _ ?_
    split
    · rename_i full
      have some : l ≠ [] := fun empty => by simp [empty] at full
      rw [List.tail_append_of_ne_nil some]
      simp
    · simp

/-- The close of a day writes its record, and the totals, serials and void window start anew (R108). -/
theorem Part.closeDay_sales (sells : p.roles.sells = true) (old : Nat) :
    (p.closeDay old).sales = { (p.writeAlways (.dayClose old p.sales.totals)).sales with
      totals := DayTotals.zero, nextSerial := 1, voidWindow := none } := by
  rw [Part.closeDay, if_neg (by simp [sells])]

/-- A part that does not sell closes no day (log 38). -/
theorem Part.closeDay_idle (idle : p.roles.sells = false) (old : Nat) : p.closeDay old = p := by
  rw [Part.closeDay, if_pos (by simp [idle])]

theorem Part.closeDay_keeps_newest {l : List JournalRecord} {j : JournalRecord} (newest : p.sales.journal = l ++ [j])
    (old : Nat) : j ∈ (p.closeDay old).sales.journal := by
  cases role : p.roles.sells with
  | false => simp [Part.closeDay_idle role, newest]
  | true =>
    rw [Part.closeDay_sales role]
    exact Part.writeAlways_keeps_newest newest _

/-- The close of a day reads the sales unit, the clock and the start record alone. -/
theorem Part.closeDay_congr (sales : q.sales = p.sales) (clock : q.clock = p.clock) (port : q.port = p.port) (old : Nat) :
    (q.closeDay old).sales = (p.closeDay old).sales := by
  have roles : q.roles = p.roles := by rw [Part.roles, Part.roles, port]
  have oldest : q.overrunOldest.sales = p.overrunOldest.sales := by
    simp only [Part.overrunOldest, sales]
    split <;> simp [Part.countOverrun, sales]
  simp only [Part.closeDay, Part.writeAlways, roles, sales]
  split
  · exact sales
  split
  · simp [Part.countOverrun, sales]
  split
  · simp [Part.write, Part.record, clock, oldest]
  · simp [Part.write, Part.record, clock, sales]

/-- A rollover event changes the sales unit by the close of the day, whichever receiver acts first (R108). -/
theorem Part.handRollover_sales (p : Part) (order old new : Nat) :
    (p.handRollover order old new).sales = (p.closeDay old).sales := by
  have after : ∀ q : Part, q.sales = p.sales → q.clock = p.clock → q.port = p.port →
      (q.closeDay old).sales = (p.closeDay old).sales := fun q sales clock port => Part.closeDay_congr sales clock port old
  simp only [Part.handRollover, threeInOrder]
  split <;> simp [after]

theorem Part.rollover_sales (p : Part) (old new : Nat) :
    (p.rollover old new).sales
      = ((p.withClock (fun c => { c with salesDay := some new })).drawOrder.closeDay old).sales :=
  Part.handRollover_sales _ _ _ _

end

/-! ### What a minute event leaves (R4, R22, R25) -/

/-- Evaluation keeps the trains of list and ledger, the blind mark, and the sales unit but for the issue in flight
(R25, R94, R130). -/
structure Part.Judges (p q : Part) : Prop where
  sales : q.sales = { p.sales with issue := q.sales.issue }
  blind : q.quota.blind = p.quota.blind
  ledger : q.quota.ledger.map LedgerRecord.train = p.quota.ledger.map LedgerRecord.train
  board : q.board.entries.map Entry.train = p.board.entries.map Entry.train

section
variable {p q r : Part}

theorem Part.Judges.trans (a : p.Judges q) (b : q.Judges r) : p.Judges r :=
  ⟨by rw [b.sales, a.sales], b.blind.trans a.blind, b.ledger.trans a.ledger, b.board.trans a.board⟩

theorem Part.Judges.of_same (sales : q.sales = p.sales) (quota : q.quota = p.quota) (board : q.board = p.board) :
    p.Judges q := ⟨by rw [sales], by rw [quota], by rw [quota], by rw [board]⟩

end

section
variable (p : Part)

theorem Part.post_judges (n : Notice) : p.Judges (p.post n) := .of_same (by simp) (by simp) (by simp)

theorem Part.moveOn_judges (t : Option TrainKey) {f : LedgerRecord → LedgerRecord} (keeps : ∀ l, (f l).train = l.train) :
    p.Judges (p.moveOn t f) := by
  cases t with
  | none => exact .of_same rfl rfl rfl
  | some t =>
    refine ⟨rfl, rfl, ?_, rfl⟩
    simp only [Part.moveOn, QuotaUnit.modify, List.map_map]
    refine List.map_congr_left fun l _ => ?_
    simp only [Function.comp]
    split
    · exact keeps l
    · rfl

theorem Part.lapseTrain_judges (t : TrainKey) : p.Judges (p.lapseTrain t) := by
  simp only [Part.lapseTrain]
  split
  · exact .of_same rfl rfl rfl
  · have withdrawn : ∀ f ids, p.Judges ((p.moveOn (some t) (fun l => l.lapse f)).withdraw ids) := fun f ids =>
      (p.moveOn_judges (some t) (f := fun l => l.lapse f) (fun _ => rfl)).trans (.of_same (by simp) (by simp) (by simp))
    split
    · exact withdrawn _ _
    · exact (withdrawn _ _).trans (Part.post_judges _ _)

theorem Part.salesTrainLeft_judges (t : TrainKey) (code : ResultCode) : p.Judges (p.salesTrainLeft t code) := by
  simp only [Part.salesTrainLeft]
  split
  · exact .of_same rfl rfl rfl
  · rename_i i _
    have moved := p.moveOn_judges i.request.inputs.train (f := LedgerRecord.lapseReserved) (fun _ => rfl)
    have cleared : Part.Judges _ (p.moveOn i.request.inputs.train LedgerRecord.lapseReserved).clearIssue :=
      moved.trans ⟨rfl, rfl, rfl, rfl⟩
    exact cleared.trans (Part.post_judges _ _)

theorem Part.modifyEntry_judges (t : TrainKey) {f : Entry → Entry} (keeps : ∀ e, (f e).train = e.train) :
    p.Judges (p.modifyEntry t f) := ⟨rfl, rfl, rfl, p.board.modify_trains t f keeps⟩

theorem Part.enterGone_judges (e : Entry) : p.Judges (p.enterGone e) := by
  have left := p.modifyEntry_judges e.train (f := fun e => { e with state := .gone, refreshDeadline := none }) (fun _ => rfl)
  simp only [Part.enterGone, Part.reportLeft]
  split
  · exact (left.trans (Part.lapseTrain_judges _ _)).trans (Part.salesTrainLeft_judges _ _ _)
  · exact left.trans (Part.salesTrainLeft_judges _ _ _)

theorem Part.evaluateEntry_judges (e : Entry) (now : Nat) (tell : Bool) : p.Judges (p.evaluateEntry e now tell).1 := by
  simp only [Part.evaluateEntry]
  split
  · exact .of_same rfl rfl rfl
  split
  · split
    · exact (p.enterGone_judges e).trans (Part.post_judges _ _)
    · exact p.enterGone_judges e
  · exact p.modifyEntry_judges _ (fun _ => rfl)

theorem Part.evaluateAll_judges (now : Nat) (l : List TrainKey) : p.Judges (p.evaluateAll now l).1 := by
  induction l generalizing p with
  | nil => exact .of_same rfl rfl rfl
  | cons t l ih =>
    simp only [Part.evaluateAll]
    split
    · exact ih p
    · exact (p.evaluateEntry_judges _ _ _).trans (ih _)

theorem Part.boardMinute_judges (now : Nat) : p.Judges (p.boardMinute now) := by
  refine (p.evaluateAll_judges now (p.board.entries.map Entry.train)).trans ?_
  rw [Part.boardMinute]
  exact .of_same (by simp) (by simp) (by simp)

theorem Part.boardChanged_judges : p.Judges p.boardChanged := .of_same (by simp) (by simp) (by simp)

theorem Part.dozeMinute_judges : p.Judges p.dozeMinute := .of_same (by simp) (by simp) (by simp)

theorem Part.handMinute_judges (order minute : Nat) : p.Judges (p.handMinute order minute) :=
  threeInOrder_trans (R := Part.Judges) .trans (fun q => q.boardMinute_judges minute) (fun q => q.boardChanged_judges)
    (fun q => q.dozeMinute_judges) order p

theorem Part.minuteEvent_judges : p.Judges p.minuteEvent := by
  simp only [Part.minuteEvent]
  refine .trans ?_ (Part.handMinute_judges _ _ _)
  exact .of_same rfl rfl rfl

end

/-- The newest record outlasts the checks of the clock at an acceptance (R187). -/
theorem Part.acceptClock_keeps_newest {p : Part} {l : List JournalRecord} {j : JournalRecord}
    (newest : p.sales.journal = l ++ [j]) : j ∈ p.acceptClock.sales.journal := by
  have here : j ∈ p.sales.journal := by simp [newest]
  have day : j ∈ p.salesDayCheck.sales.journal := by
    simp only [Part.salesDayCheck]
    (repeat' split)
    · exact here
    · rw [Part.rollover_sales]
      exact Part.closeDay_keeps_newest (p := (p.withClock _).drawOrder) (l := l) newest _
    · exact here
    · exact here
  simp only [Part.acceptClock]
  split
  · rw [p.salesDayCheck.minuteEvent_judges.sales]
    exact day
  · exact here

end Sys2Proof.Machine
end

section
namespace Sys2Proof.Machine

/-! ### The page interval while the part runs (R52, R57) -/

/-- A part that does not doze keeps its doze block and its interval deadline. -/
def Part.KeepsInterval (p q : Part) : Prop :=
  p.doze.state ≠ .dozing → q.doze = p.doze ∧ q.page.deadline = p.page.deadline

theorem Part.rebuild_deadline (p : Part) (pick : Nat → Nat → Nat) : (p.rebuild pick).page.deadline = p.page.deadline := by
  simp only [Part.rebuild, Part.holdPage]
  split
  · rfl
  split <;> rfl

theorem Part.KeepsInterval.eventRule : Part.EventRule Part.KeepsInterval where
  trans a b awake := by
    obtain ⟨doze, deadline⟩ := a awake
    obtain ⟨doze', deadline'⟩ := b (by rwa [doze])
    exact ⟨doze'.trans doze, deadline'.trans deadline⟩
  fields _ _ _ _ _ _ _ := ⟨rfl, rfl⟩
  post p n awake := by rw [Part.post_eq_note p n awake]; exact ⟨rfl, rfl⟩
  boardChanged p _ := by
    refine ⟨by simp, ?_⟩
    simp only [Part.boardChanged]
    split
    · exact p.rebuild_deadline _
    · rfl
  withdraw p ids _ := by simp
  dozeMinute p awake := by rw [Part.dozeMinute, if_neg awake]; exact ⟨rfl, rfl⟩

theorem Part.EventRule.acceptClock {R : Part → Part → Prop} (rule : Part.EventRule R) (p : Part) : R p p.acceptClock := by
  simp only [Part.acceptClock]
  split
  · exact rule.trans (rule.salesDayCheck p) (rule.minuteEvent _)
  · exact rule.refl p

/-! ### Notices of an acceptance (R175, R187, R198) -/

/-- Receivers that keep a condition and post so much each post so much together, in any order. -/
theorem threeInOrder_posts {inv : Part → Prop} {f g h : Part → Part} {a b c : Nat}
    (hf : ∀ p, inv p → inv (f p) ∧ p.Posts (f p) a) (hg : ∀ p, inv p → inv (g p) ∧ p.Posts (g p) b)
    (hh : ∀ p, inv p → inv (h p) ∧ p.Posts (h p) c) (n : Nat) (p : Part) (holds : inv p) :
    inv (threeInOrder n f g h p) ∧ p.Posts (threeInOrder n f g h p) (a + b + c) := by
  have chain : ∀ {u v w : Part → Part} {i j k : Nat}, (∀ p, inv p → inv (u p) ∧ p.Posts (u p) i) →
      (∀ p, inv p → inv (v p) ∧ p.Posts (v p) j) → (∀ p, inv p → inv (w p) ∧ p.Posts (w p) k) →
      i + j + k = a + b + c → inv (w (v (u p))) ∧ p.Posts (w (v (u p))) (a + b + c) := by
    intro u v w i j k hu hv hw total
    obtain ⟨kept, posts⟩ := hu p holds
    obtain ⟨kept', posts'⟩ := hv _ kept
    obtain ⟨kept'', posts''⟩ := hw _ kept'
    exact ⟨kept'', total ▸ (posts.trans posts').trans posts''⟩
  simp only [threeInOrder]
  split
  · exact chain hf hg hh rfl
  · exact chain hf hh hg (by omega)
  · exact chain hg hf hh (by omega)
  · exact chain hg hh hf (by omega)
  · exact chain hh hf hg (by omega)
  · exact chain hh hg hf (by omega)

section
variable (p : Part)

theorem Part.writeAlways_posts (body : JournalBody) : p.Posts (p.writeAlways body) 3 := by
  have freed : p.Posts p.overrunOldest 3 := by
    simp only [Part.overrunOldest]
    split
    · exact (Part.Posts.of_same rfl).mono (by omega)
    · exact Part.Posts.trans (m := 0) (.of_same (by simp)) (Part.post_posts _ _)
  simp only [Part.writeAlways]
  split
  · exact (Part.Posts.of_same rfl).mono (by omega)
  split
  · exact freed.trans (n := 0) (.of_same (by simp))
  · exact (Part.Posts.of_same (by simp)).mono (by omega)

theorem Part.closeDay_posts (old : Nat) : p.Posts (p.closeDay old) 3 := by
  simp only [Part.closeDay]
  split
  · exact (Part.Posts.of_same rfl).mono (by omega)
  · exact (p.writeAlways_posts _).trans (n := 0) (.of_same rfl)

theorem Part.dozeMinute_posts : p.Posts p.dozeMinute 2 := by
  simp only [Part.dozeMinute]
  split
  · split
    · exact (Part.Posts.of_same rfl).mono (by omega)
    · exact p.wake_posts _
  · exact (Part.Posts.of_same rfl).mono (by omega)

/-- With an empty list a rollover event has nothing to purge there (R44). -/
theorem Part.purgeBoard_of_empty {p : Part} (empty : p.board.entries = []) (new : Nat) :
    (p.purgeBoard new).board.entries = [] ∧ p.Posts (p.purgeBoard new) 0 := by
  refine ⟨by rw [Part.purgeBoard_entries, empty, List.filter_nil], .of_same ?_⟩
  simp [Part.purgeBoard, empty, Part.boardChangedIf]

theorem Part.boardMinute_of_empty {p : Part} (empty : p.board.entries = []) (minute : Nat) : p.boardMinute minute = p := by
  simp [Part.boardMinute, empty, Part.evaluateAll, Part.boardChangedIf]

theorem Part.handRollover_of_empty {p : Part} (empty : p.board.entries = []) (order old new : Nat) :
    (p.handRollover order old new).board.entries = [] ∧ p.Posts (p.handRollover order old new) 3 :=
  threeInOrder_posts (inv := fun q => q.board.entries = []) (a := 3) (b := 0) (c := 0)
    (f := fun q => q.closeDay old) (g := fun q => q.purgeBoard new) (h := fun q => q.purgeLedger new)
    (fun q h => ⟨by simpa using h, q.closeDay_posts old⟩) (fun q h => Part.purgeBoard_of_empty h new)
    (fun q h => ⟨h, .of_same rfl⟩) order p empty

theorem Part.handMinute_of_empty {p : Part} (empty : p.board.entries = []) (order minute : Nat) :
    p.Posts (p.handMinute order minute) 3 :=
  (threeInOrder_posts (inv := fun q => q.board.entries = []) (a := 0) (b := 1) (c := 2)
    (f := fun q => q.boardMinute minute) (g := Part.boardChanged) (h := Part.dozeMinute)
    (fun q h => by rw [Part.boardMinute_of_empty h]; exact ⟨h, .of_same rfl⟩)
    (fun q h => ⟨by simpa using h, q.boardChanged_posts⟩) (fun q h => ⟨by simpa using h, q.dozeMinute_posts⟩)
    order p empty).2

/-- With an empty list the checks of an acceptance post little (R187). -/
theorem Part.acceptClock_posts {p : Part} (empty : p.board.entries = []) : p.Posts p.acceptClock 6 := by
  have day : p.salesDayCheck.board.entries = [] ∧ p.Posts p.salesDayCheck 3 := by
    have stands : p.board.entries = [] ∧ p.Posts p 3 := ⟨empty, (Part.Posts.of_same rfl).mono (by omega)⟩
    simp only [Part.salesDayCheck]
    (repeat' split)
    · exact stands
    · exact Part.handRollover_of_empty (p := (p.withClock _).drawOrder) empty _ _ _
    · exact stands
    · exact stands
  simp only [Part.acceptClock]
  split
  · refine day.2.trans (n := 3) ?_
    simp only [Part.minuteEvent]
    exact Part.handMinute_of_empty (p := (p.salesDayCheck.withClock _).drawOrder) day.1 _ _
  · exact (Part.Posts.of_same rfl).mono (by omega)

theorem map_filter_pair {α β : Type} (x y : α) (pick : α → Bool) (f : α → β) :
    ([x, y].filter pick).map f = (if pick x then [f x] else []) ++ (if pick y then [f y] else []) := by
  cases hx : pick x <;> cases hy : pick y <;> simp [hx, hy]

/-- The notice of a key found LOW at an acceptance, if it is enabled (R198). -/
def Part.heldNotice (k : Key) : List Notice :=
  if p.keyEnabled k && (p.doze.key k).settledLow then
    [{ keyNotice k 2 (p.doze.key k).presses with lineTime := p.lineTime }]
  else []

/-- A key reported LOW, in a part that does not doze (R198). -/
theorem Part.reportHeld_of_awake {p : Part} (k : Key) (awake : p.doze.state ≠ .dozing)
    (room : p.notices.entries.length < 64) :
    (p.reportHeld k).notices.entries = p.notices.entries ++ p.heldNotice k
      ∧ (p.reportHeld k).page = p.page := by
  simp only [Part.reportHeld, Part.heldNotice]
  split
  · rw [Part.post_eq_note p _ awake]
    exact ⟨by simp [Part.note, NoticeQueue.store_entries, room], rfl⟩
  · exact ⟨(List.append_nil _).symm, rfl⟩

end

/-! ### START accepted or refused (R186, R187, R198) -/

/-- The part at an acceptance once the START record is written (R187). -/
def Part.startWritten (p : Part) (r : StartRequest) : Part :=
  (p.adopt r).writeAlways (.start p.start.kind (p.start.store.getD .cleared))

section
variable (p : Part) (r : StartRequest)

theorem Part.startWritten_frame : (p.startWritten r).lineTime = p.lineTime ∧ (p.startWritten r).supply = p.supply
    ∧ (p.startWritten r).retained = p.retained ∧ (p.startWritten r).start = p.start
    ∧ (p.startWritten r).clock = { p.clock with rolloverMinute := r.clamped.rolloverMinute }
    ∧ (p.startWritten r).board = p.board ∧ (p.startWritten r).fares = p.fares
    ∧ (p.startWritten r).peers = p.peers ∧ (p.startWritten r).line = p.line
    ∧ (p.startWritten r).port = { p.port with record := some r.clamped, clampSet := r.clampSet }
    ∧ (p.startWritten r).doze = { p.doze with state := .running } := by
  simp [Part.startWritten, Part.adopt]

/-- The checks of the clock at an acceptance (R4, R187). -/
def Part.started : Part := (p.startWritten r).startPages.acceptClock

theorem Part.started_frame : (p.started r).lineTime = p.lineTime ∧ (p.started r).supply = p.supply
    ∧ (p.started r).retained = p.retained ∧ (p.started r).start = p.start ∧ (p.started r).fares = p.fares
    ∧ (p.started r).peers = p.peers
    ∧ (p.started r).port = { p.port with record := some r.clamped, clampSet := r.clampSet }
    ∧ (p.started r).doze = { p.doze with state := .running } := by
  have frame := p.startWritten_frame r
  simp [Part.started, frame]

theorem Part.started_clock : (p.started r).clock
    = if p.clock.isSet = true then
        ({ p.clock with rolloverMinute := r.clamped.rolloverMinute } : HaltClock).dayCompared.minuteTold
      else { p.clock with rolloverMinute := r.clamped.rolloverMinute } := by
  obtain ⟨-, -, -, -, clock, -, -, -, -, -, doze⟩ := p.startWritten_frame r
  have awake : (p.startWritten r).startPages.awake = true := by simp [Part.awake, doze]
  simp only [Part.started, Part.acceptClock_clock _ awake, Part.startPages_frame, clock]
  rfl

/-- The clock of an accepted start, field by field (R3, R4, R187). -/
theorem Part.started_clock_fields : (p.started r).clock.rolloverMinute = r.clamped.rolloverMinute
    ∧ (p.started r).clock.reading = p.clock.reading ∧ (p.started r).clock.stratum = p.clock.stratum
    ∧ (p.started r).clock.lastEventMinute = (if p.clock.stratum = 15 then p.clock.lastEventMinute
        else some p.clock.reading.absMinute)
    ∧ ∀ d, p.clock.salesDay = some d → p.clock.stratum ≠ 15 → (p.started r).clock.salesDay
        = some (max d (computedSalesDay r.clamped.rolloverMinute p.clock.reading)) := by
  have clock := p.started_clock r
  by_cases unset : p.clock.stratum = 15
  · rw [if_neg (by simp [HaltClock.isSet, unset])] at clock
    rw [clock, if_pos unset]
    exact ⟨rfl, rfl, rfl, rfl, fun _ _ set => absurd unset set⟩
  · rw [if_pos (by simp [HaltClock.isSet, unset]), HaltClock.minuteTold, HaltClock.dayCompared] at clock
    rw [clock, if_neg unset]
    refine ⟨rfl, rfl, rfl, rfl, fun d day _ => ?_⟩
    simp [day, HaltClock.computedDay]

/-- The START record is in the journal under the next number (R187). -/
theorem Part.started_journal {n : Nat} (next : p.sales.nextNumber = some n) :
    ∃ j ∈ (p.started r).sales.journal, j.number = n ∧ j.body = .start p.start.kind (p.start.store.getD .cleared) := by
  have journal := Part.writeAlways_journal (p := p.adopt r) next (.start p.start.kind (p.start.store.getD .cleared))
  have sales : (p.startWritten r).startPages.sales = (p.startWritten r).sales := by simp
  have paged := (congrArg SalesUnit.journal sales).trans journal
  exact ⟨_, Part.acceptClock_keeps_newest paged, rfl, rfl⟩

/-- A page builder that starts has its interval running (R52, R57). -/
theorem Part.started_deadline (shows : r.roles.shows = true) :
    (p.started r).page.deadline = some (p.lineTime + r.clamped.pageInterval * 1000) := by
  obtain ⟨lineTime, -, -, -, -, -, -, -, -, port, doze⟩ := p.startWritten_frame r
  have awake : (p.startWritten r).startPages.doze.state ≠ .dozing := by simp [doze]
  have running : (p.startWritten r).pageRunning = true := by
    simp [Part.pageRunning, Part.roles, port, doze, StartRequest.clamped, shows]
  rw [Part.started, (Part.KeepsInterval.eventRule.acceptClock _ awake).2, Part.startPages, if_pos running]
  simp [Part.intervalMs, lineTime, port]

theorem Part.started_slots (empty : p.line.slots = []) :
    (p.started r).line.slots = [] ∧ (p.started r).line.nextSeq = p.line.nextSeq := by
  have line : (p.startWritten r).startPages.line = p.line := by
    simp [p.startWritten_frame r]
  have offers := Part.OffersNone.eventRule.acceptClock (p.startWritten r).startPages
  exact ⟨offers.empty (by rw [line, empty]), offers.numbers.trans (by rw [line])⟩

theorem Part.started_notices (empty : p.board.entries = []) :
    (p.started r).notices.entries.length ≤ p.notices.entries.length + 10 := by
  have board : (p.startWritten r).startPages.board.entries = [] := by simp [p.startWritten_frame r, empty]
  have written : p.Posts (p.startWritten r) 3 :=
    Part.Posts.trans (m := 0) (.of_same rfl) ((p.adopt r).writeAlways_posts _)
  exact ((written.trans (Part.startPages_posts _)).trans (Part.acceptClock_posts board)).length

/-- The first beacon of an accepted start (R144, R187): in an empty store there is room for it. -/
theorem Part.started_beacon :
    (p.started r).beaconDue.peers = { p.peers with
        beaconDeadline := some (p.lineTime + r.clamped.beaconPeriod * 1000)
        skipped := (p.started r).beaconDue.peers.skipped }
      ∧ (p.line.slots = [] → (p.started r).beaconDue.peers.skipped = p.peers.skipped)
      ∧ (p.line.slots = [] → ∃ sl ∈ (p.started r).beaconDue.line.slots,
          sl.body = .beacon ∧ sl.cls = .normal ∧ sl.seq = p.line.nextSeq) := by
  obtain ⟨lineTime, -, -, -, -, peers, port, -⟩ := p.started_frame r
  have period : (p.started r).beaconMs = r.clamped.beaconPeriod * 1000 := by rw [Part.beaconMs, port]
  have offered : p.line.slots = [] → (p.started r).line.beaconInStore = false
      ∧ (p.started r).line.hasRoom .normal = true := fun empty => by
    have none := (p.started_slots r empty).1
    simp [LineInterface.beaconInStore, LineInterface.hasRoom, LineInterface.used, none]
  refine ⟨?_, fun empty => ?_, fun empty => ?_⟩
  · have due := (p.started r).beaconDue_spec.2
    rw [lineTime, period, peers] at due
    exact due
  · obtain ⟨none, room⟩ := offered empty
    rw [((p.started r).beaconDue_of_none none).2, if_pos room, peers]
  · obtain ⟨none, room⟩ := offered empty
    obtain ⟨sl, mem, -, seq, cls, body⟩ := Slot.of_unwaited_mem ((p.started r).offer_mem .normal .beacon room)
    rw [((p.started r).beaconDue_of_none none).1]
    exact ⟨sl, mem, body, cls, seq.trans (p.started_slots r empty).2⟩

/-- The first beacon and the keys come last (R187, R198). -/
theorem Part.acceptStart_eq : p.acceptStart r = ((p.started r).beaconDue.reportHeld .a).reportHeld .b := rfl

theorem Part.acceptStart_frame : (p.acceptStart r).lineTime = p.lineTime ∧ (p.acceptStart r).supply = p.supply
    ∧ (p.acceptStart r).retained = p.retained ∧ (p.acceptStart r).start = p.start ∧ (p.acceptStart r).fares = p.fares
    ∧ (p.acceptStart r).port = { p.port with record := some r.clamped, clampSet := r.clampSet }
    ∧ (p.acceptStart r).doze = { p.doze with state := .running }
    ∧ (p.acceptStart r).clock = (p.started r).clock ∧ (p.acceptStart r).sales = (p.started r).sales
    ∧ (p.acceptStart r).peers = (p.started r).beaconDue.peers
    ∧ (p.acceptStart r).line = (p.started r).beaconDue.line := by
  have frame := p.started_frame r
  have awake : (p.started r).doze.state ≠ .dozing := by simp [frame]
  rw [Part.acceptStart_eq]
  simp [frame]

/-- The KEY HELD notices stand last, KEY A's first, and the page is the one that was started (R187, R198). -/
theorem Part.acceptStart_held (room : (p.started r).notices.entries.length < 63) :
    (p.acceptStart r).notices.entries = (p.started r).notices.entries ++ heldNotices p r := by
  have frame := p.started_frame r
  let b := (p.started r).beaconDue
  have doze : b.doze = { p.doze with state := .running } := by simp [b, frame]
  have notices : b.notices = (p.started r).notices := by simp [b]
  have awake : b.doze.state ≠ .dozing := by simp [doze]
  have one : (b.heldNotice .a).length ≤ 1 := by rw [Part.heldNotice]; split <;> simp
  obtain ⟨first, -⟩ := Part.reportHeld_of_awake .a awake (by rw [notices]; omega)
  have awake' : (b.reportHeld .a).doze.state ≠ .dozing := by simp [awake]
  obtain ⟨second, -⟩ := Part.reportHeld_of_awake .b awake' (by rw [first, List.length_append, notices]; omega)
  have held : b.heldNotice .a ++ (b.reportHeld .a).heldNotice .b = heldNotices p r := by
    simp only [Part.heldNotice, Part.keyEnabled, DozeKeys.key, Part.reportHeld_frame,
      Part.reportHeld_running _ _ awake, doze, b, Part.beaconDue_frame, frame]
    rw [heldNotices, map_filter_pair]
    rfl
  rw [Part.acceptStart_eq, second, first, List.append_assoc, held, notices]

theorem Part.acceptStart_deadline (shows : r.roles.shows = true) :
    (p.acceptStart r).page.deadline = some (p.lineTime + r.clamped.pageInterval * 1000) := by
  have frame := p.started_frame r
  have held : ∀ (q : Part) (k : Key), q.KeepsInterval (q.reportHeld k) := fun q k => by
    simp only [Part.reportHeld]
    split
    · exact Part.KeepsInterval.eventRule.post q _
    · exact Part.KeepsInterval.eventRule.refl q
  have reported := Part.KeepsInterval.eventRule.trans (held (p.started r).beaconDue .a) (held _ .b)
  have page : (p.started r).beaconDue.page = (p.started r).page := by simp
  rw [Part.acceptStart_eq, (reported (by simp [frame])).2, page, p.started_deadline r shows]

end

/-- START reaches its owner in WAITING_START (R183). -/
theorem Part.sendRequest_start {p : Part} {r : StartRequest} (up : p.up = true) (free : p.port.reply = none)
    (fits : r.fits = true) (waiting : p.doze.state = .waitingStart) :
    p.sendRequest (.start r) = replied .start (p.afterTaking.answerStart r) := by
  have asIs : p.afterTaking.wakeFor .start = p.afterTaking := if_neg fun ⟨dozing, _⟩ => by
    have dozing : p.doze.state = .dozing := dozing
    simp [waiting] at dozing
  have taken : p.afterTaking.doze.state.refusal .start = none := by
    have same : p.afterTaking.doze = p.doze := rfl
    simp [same, waiting, PartState.refusal]
  rw [p.sendRequest_eq_judgeState (.start r) up free (by simp [waiting]) fits]
  simp only [Request.kind, asIs, Part.judgeState, taken]
  rfl


theorem Roles.named_iff (x : Roles) : x.named = true ↔ x ≠ ⟨false, false, false⟩ := by
  obtain ⟨sells, shows, uplink⟩ := x
  simp only [Roles.named, Bool.or_eq_true, ne_eq, Roles.mk.injEq, ← Bool.not_eq_true]
  tauto

theorem StartRequest.fault_none {r : StartRequest} (node : r.node ≠ 0)
    (roles : r.roles.sells ∨ r.roles.shows ∨ r.roles.uplink) (seller : r.clamped.sellerIndex < r.clamped.sellerCount) :
    r.fault = none := by
  have named : r.roles.named = true := by simpa [Roles.named, or_assoc] using roles
  rw [StartRequest.fault, if_neg node, if_neg (by simp [named]), if_neg (Nat.not_le.mpr seller)]

theorem StartRequest.fault_some {r : StartRequest} {f : StartField}
    (faulty : r.node = 0 ∧ f = .node
      ∨ r.node ≠ 0 ∧ r.roles = ⟨false, false, false⟩ ∧ f = .roles
      ∨ r.node ≠ 0 ∧ r.roles ≠ ⟨false, false, false⟩ ∧ r.clamped.sellerCount ≤ r.clamped.sellerIndex
          ∧ f = .sellerIndex) : r.fault = some f := by
  rcases faulty with ⟨node, rfl⟩ | ⟨node, roles, rfl⟩ | ⟨node, roles, seller, rfl⟩
  · rw [StartRequest.fault, if_pos node]
  · rw [StartRequest.fault, if_neg node, if_pos (by simp [roles, Roles.named])]
  · rw [StartRequest.fault, if_neg node, if_neg (by simp [r.roles.named_iff.mpr roles]), if_pos seller]

/-- Settles O19: a START that passes its checks runs the acceptance, and one that fails names its field. -/
theorem startIsAcceptedOrNamesTheFault : Obligations.StartIsAcceptedOrNamesTheFault := by
  refine ⟨fun r s up waiting free fits node roles seller => ?_, fun r s f up waiting free fits faulty => ?_⟩
  · let p := s.part.afterTaking
    have answer : p.answerStart r = (p.acceptStart r, ⟨.done, .startDone r.clampSet r.clamped⟩) := by
      rw [Part.answerStart, StartRequest.fault_none node roles seller]
    have run : exec (.start (.clean r)) s
        = .next ⟨replied .start (p.acceptStart r, ⟨.done, .startDone r.clampSet r.clamped⟩), s.pending⟩ := by
      rw [exec_start, Part.send, Part.sendRequest_start up free fits waiting, answer]
    obtain ⟨lineTime, supply, retained, start, fares, port, doze, clock, sales, peers, line⟩ := p.acceptStart_frame r
    obtain ⟨rollover, reading, stratum, told, day⟩ := p.started_clock_fields r
    rw [← clock] at rollover reading stratum told day
    obtain ⟨deadline, skipped, first⟩ := p.started_beacon r
    rw [← peers] at deadline skipped
    refine ⟨_, run, rfl, ?_⟩
    simp only [replied, Part.putReply_doze, Part.putReply_port, Part.putReply_clock, Part.putReply_sales,
      Part.putReply_peers, Part.putReply_line, Part.putReply_page, Part.putReply_fares, Part.putReply_lineTime,
      Part.putReply_start, Part.putReply_retained, Part.putReply_supply, Part.putReply_notices]
    refine ⟨congrArg DozeKeys.state doze, ?_, rollover, fun n next => ?_, deadline, fun empty => ?_,
      p.acceptStart_deadline r, fares, lineTime, start, retained, supply, reading, stratum, told, day,
      fun empty few => ?_⟩
    · rw [port]
      rfl
    · obtain ⟨j, mem, record⟩ := p.started_journal r next
      exact ⟨j, (congrArg SalesUnit.journal sales).symm ▸ mem, record⟩
    · exact ⟨skipped empty, line ▸ first empty⟩
    · have room : (p.started r).notices.entries.length < 63 :=
        lt_of_le_of_lt (p.started_notices r empty) (by have : p.notices = s.part.notices := rfl; rw [this]; omega)
      exact ⟨_, p.acceptStart_held r room⟩
  · have answer : s.part.afterTaking.answerStart r = (s.part.afterTaking, ⟨.badRequest, .startField f⟩) := by
      rw [Part.answerStart, StartRequest.fault_some faulty]
    rw [exec_start, Part.send, Part.sendRequest_start up free fits waiting, answer]
    rfl

end Sys2Proof.Machine
end

section
namespace Sys2Proof.Machine

/-! ### The list after a minute event (R22 to R24, R44) -/

section
variable {p : Part}

/-- In a list with one entry for a train at most, a change of that train's entry, seen at every entry. -/
theorem Part.Changes.entries {q : Part} {t : TrainKey} {g : Entry → Entry} (change : p.Changes q t g)
    (nodup : (p.board.entries.map Entry.train).Nodup) :
    q.board.entries = p.board.entries.map (fun e => if e.train = t then g e else e) := by
  obtain ⟨f, board, -, found⟩ := change
  rw [board, DepartureList.modify]
  refine List.map_congr_left fun e mem => ?_
  split
  · rename_i its
    exact found e (its ▸ DepartureList.find_of_mem nodup mem)
  · rfl

theorem Entry.evaluated_train (now : Option Nat) (e : Entry) : (e.evaluated now).train = e.train := by
  rw [Entry.evaluated_rest]

/-- An entry judged, in its fields (R22 to R24, R42). -/
theorem Entry.evaluated_spec (e : Entry) (n : Nat) :
    e.evaluated (some n)
        = { e with state := e.judged n, refreshDeadline := (e.evaluated (some n)).refreshDeadline }
      ∧ (e.judged n ≠ .gone → (e.evaluated (some n)).refreshDeadline = e.refreshDeadline) := by
  have rest := e.evaluated_rest (some n)
  rw [Entry.evaluated_state] at rest
  exact ⟨rest, fun here => by simp [Entry.evaluated, here]⟩

/-- The evaluation of some trains, each named once, judges their entries and leaves the others (R22). -/
theorem Part.evaluateAll_entries (now : Nat) (l : List TrainKey) (once : l.Nodup) (p : Part)
    (nodup : (p.board.entries.map Entry.train).Nodup) :
    (p.evaluateAll now l).1.board.entries
      = p.board.entries.map (fun e => if e.train ∈ l then e.evaluated (some now) else e) := by
  induction l generalizing p with
  | nil => simp [Part.evaluateAll]
  | cons t l ih =>
    obtain ⟨new, once⟩ := List.nodup_cons.mp once
    simp only [Part.evaluateAll]
    cases found : p.board.find t with
    | none =>
      rw [ih once p nodup]
      refine List.map_congr_left fun e mem => ?_
      simp [DepartureList.find_none found e mem]
    | some e =>
      have train := (DepartureList.find_some found).2
      have change := p.evaluateEntry_changes e now true (by rw [train, found])
      have judges := p.evaluateEntry_judges e now true
      rw [train] at change
      rw [ih once _ (by rw [judges.board]; exact nodup), change.entries nodup, List.map_map]
      refine List.map_congr_left fun x _ => ?_
      by_cases its : x.train = t
      · simp [its, Entry.evaluated_train, new]
      · simp [its]

/-- A minute event judges every entry, whichever receiver acts first (R4, R22). -/
theorem Part.boardMinute_entries (nodup : (p.board.entries.map Entry.train).Nodup) (minute : Nat) :
    (p.boardMinute minute).board.entries = p.board.entries.map (Entry.evaluated (some minute)) := by
  have all := Part.evaluateAll_entries minute _ nodup p nodup
  simp only [Part.boardMinute, Part.boardChangedIf_frame, all]
  refine List.map_congr_left fun e mem => ?_
  rw [if_pos (List.mem_map_of_mem mem)]

theorem Part.minuteEvent_entries (nodup : (p.board.entries.map Entry.train).Nodup) :
    p.minuteEvent.board.entries = p.board.entries.map (Entry.evaluated (some p.clock.reading.absMinute)) := by
  have handed : ∀ (q : Part) (order m : Nat), (q.board.entries.map Entry.train).Nodup →
      (q.handMinute order m).board.entries = q.board.entries.map (Entry.evaluated (some m)) := by
    intro q order m nodup
    have after : ∀ q' : Part, q'.board = q.board →
        (q'.boardMinute m).board.entries = q.board.entries.map (Entry.evaluated (some m)) := fun q' board => by
      rw [← board] at nodup ⊢
      exact Part.boardMinute_entries nodup m
    simp only [Part.handMinute, threeInOrder]
    split <;> simp [after]
  exact handed _ _ _ nodup

/-! ### The checks of the clock, by the sales day (R3, R5) -/

/-- A sales day that stands leaves the minute event alone (R5). -/
theorem Part.clockCheck_of_stands (due : p.minuteDue = true)
    (stands : ∀ d, p.clock.salesDay = some d → p.clock.computedDay ≤ d) : p.clockCheck = p.minuteEvent := by
  have day : p.salesDayCheck = p := by
    simp only [Part.salesDayCheck]
    (repeat' split)
    · rfl
    · rename_i d known rise
      exact absurd (stands d known) (Nat.not_le.mpr rise)
    · rfl
    · rfl
  rw [Part.clockCheck, day, Part.minuteCheck, if_pos due]

/-- A sales day that rises has its rollover event before the minute event (R5). -/
theorem Part.clockCheck_of_rise (due : p.minuteDue = true) {d : Nat} (day : p.clock.salesDay = some d)
    (rise : d < p.clock.computedDay) : p.clockCheck = (p.rollover d p.clock.computedDay).minuteEvent := by
  simp only [Part.minuteDue, Bool.and_eq_true, decide_eq_true_eq] at due
  obtain ⟨⟨awake, set⟩, untold⟩ := due
  have check : p.salesDayCheck = p.rollover d p.clock.computedDay := by
    simp [Part.salesDayCheck, awake, set, day, rise]
  have still : (p.rollover d p.clock.computedDay).minuteDue = true := by
    have listens : (p.rollover d p.clock.computedDay).awake = true := (p.rollover_listens d _).trans awake
    have same : (p.rollover d p.clock.computedDay).clock.isSet = p.clock.isSet := by rw [Part.rollover_clock]; rfl
    rw [Part.minuteDue, listens, same, set, Part.rollover_clock]
    simpa using untold
  rw [Part.clockCheck, check, Part.minuteCheck, if_pos still]

/-! ### The rollover event on the sales unit (R108) -/

/-- A part that sells closes the old day: one record under the next number, and totals, serials and void window anew. -/
theorem Part.rollover_closes (sells : p.roles.sells = true) (old new : Nat) :
    (p.rollover old new).sales.totals = ⟨0, 0, 0, 0⟩ ∧ (p.rollover old new).sales.nextSerial = 1
      ∧ (p.rollover old new).sales.voidWindow = none
      ∧ ∀ n, p.sales.nextNumber = some n →
          ∃ j ∈ (p.rollover old new).sales.journal, j.number = n ∧ j.body = .dayClose old p.sales.totals := by
  rw [Part.rollover_sales]
  let q := (p.withClock (fun c => { c with salesDay := some new })).drawOrder
  have closes : (q.closeDay old).sales = _ := Part.closeDay_sales (p := q) sells old
  rw [show ((p.withClock (fun c => { c with salesDay := some new })).drawOrder.closeDay old).sales
    = (q.closeDay old).sales from rfl, closes]
  refine ⟨rfl, rfl, rfl, fun n next => ⟨q.record n (.dayClose old p.sales.totals), ?_, rfl, rfl⟩⟩
  have journal := Part.writeAlways_journal (p := q) next (.dayClose old q.sales.totals)
  simp only [journal]
  exact List.mem_append_right _ (List.mem_singleton.mpr rfl)

/-- A part that does not sell closes no day (log 38). -/
theorem Part.rollover_idle (idle : p.roles.sells = false) (old new : Nat) : (p.rollover old new).sales = p.sales := by
  rw [Part.rollover_sales, Part.closeDay_idle]
  · rfl
  · exact idle

/-! ### The rollover event on list and ledger (R44, R131) -/

/-- A train is sold exactly if its entry is (R24). -/
theorem Part.trainSellable_iff (nodup : (p.board.entries.map Entry.train).Nodup) (t : TrainKey) :
    p.trainSellable t = true ↔ ∃ e ∈ p.board.entries, e.train = t ∧ e.sellable = true := by
  simp only [Part.trainSellable]
  cases found : p.board.find t with
  | none =>
    refine iff_of_false (by simp) ?_
    rintro ⟨e, mem, its, -⟩
    exact DepartureList.find_none found e mem its
  | some x =>
    obtain ⟨here, train⟩ := DepartureList.find_some found
    refine ⟨fun sold => ⟨x, here, train, sold⟩, ?_⟩
    rintro ⟨e, mem, its, sold⟩
    rwa [← DepartureList.eq_of_find nodup found mem its]

/-- The purge takes no sellable entry, so each train is sold as before (R44). -/
theorem Part.purgeBoard_sells (nodup : (p.board.entries.map Entry.train).Nodup) (new : Nat) (t : TrainKey) :
    (p.purgeBoard new).trainSellable t = p.trainSellable t := by
  have nodup' : ((p.purgeBoard new).board.entries.map Entry.train).Nodup := by
    rw [Part.purgeBoard_entries]
    exact nodup.sublist (List.filter_sublist.map _)
  rw [Bool.eq_iff_iff, Part.trainSellable_iff nodup', Part.trainSellable_iff nodup, Part.purgeBoard_entries]
  constructor
  · rintro ⟨e, mem, train, sold⟩
    exact ⟨e, List.mem_of_mem_filter mem, train, sold⟩
  · rintro ⟨e, mem, train, sold⟩
    exact ⟨e, List.mem_filter.mpr ⟨mem, Entry.not_purged_of_sellable new sold⟩, train, sold⟩

/-- A rollover event on list, ledger and blind mark, whichever receiver acts first (R44, R115, R131). -/
theorem Part.rollover_purges (nodup : (p.board.entries.map Entry.train).Nodup) (old new : Nat) :
    (p.rollover old new).board.entries
        = p.board.entries.filter (fun e => e.sellable || decide (new ≤ e.train.day))
      ∧ (p.rollover old new).quota.ledger
        = p.quota.ledger.filter (fun r => p.trainSellable r.train || decide (new ≤ r.train.day))
      ∧ (p.rollover old new).quota.blind = false := by
  have keep : ∀ (sold : Bool) (day : Nat), (!(!sold && decide (day < new))) = (sold || decide (new ≤ day)) := by
    intro sold day
    rw [Bool.eq_iff_iff]
    cases sold <;> simp
  have keep' : ∀ (sold : Bool) (day : Nat), (!(decide (day < new) && !sold)) = (sold || decide (new ≤ day)) := by
    intro sold day
    rw [Bool.and_comm]
    exact keep sold day
  let q := (p.withClock (fun c => { c with salesDay := some new })).drawOrder
  have nodup : (q.board.entries.map Entry.train).Nodup := nodup
  have closed : ∀ t, (q.closeDay old).trainSellable t = q.trainSellable t := fun t => by simp [Part.trainSellable]
  have purged : ∀ t, (q.purgeBoard new).trainSellable t = q.trainSellable t := Part.purgeBoard_sells nodup new
  have both : ∀ t, ((q.closeDay old).purgeBoard new).trainSellable t = q.trainSellable t := fun t => by
    rw [Part.purgeBoard_sells (by simpa using nodup), closed]
  have both' : ∀ t, ((q.purgeBoard new).closeDay old).trainSellable t = q.trainSellable t := fun t => by
    rw [← purged]; simp [Part.trainSellable]
  have spec : ∀ order, (q.handRollover order old new).board.entries = q.board.entries.filter (fun e => !e.purged new)
      ∧ (q.handRollover order old new).quota = (q.purgeLedger new).quota := by
    intro order
    simp only [Part.handRollover, threeInOrder]
    split <;> simp [Part.purgeLedger, Part.purgeBoard_entries, closed, purged, both, both']
  obtain ⟨entries, quota⟩ := spec (Config.receiverOrder p.draws)
  refine ⟨entries.trans ?_, (congrArg QuotaUnit.ledger quota).trans ?_, congrArg QuotaUnit.blind quota⟩
  · exact List.filter_congr fun e _ => keep _ _
  · exact List.filter_congr fun r _ => keep' _ _

end

/-! ### A minute event in DOZING (R202, R203) -/

section
variable {p : Part}

/-- Where no entry changes its state, evaluation changes nothing and tells nobody (R22). -/
theorem Part.boardMinute_of_still {minute : Nat} (still : ∀ e ∈ p.board.entries, e.judged minute = e.state) :
    p.boardMinute minute = p := by
  have all : ∀ l, p.evaluateAll minute l = (p, false) := by
    intro l
    induction l with
    | nil => rfl
    | cons t l ih =>
      simp only [Part.evaluateAll]
      split
      · exact ih
      · rename_i e found
        have same := still e (DepartureList.find_some found).1
        simp [Part.evaluateEntry, same, ih]
  rw [Part.boardMinute, all]
  rfl

/-- The page builder rests while the part dozes (R57). -/
theorem Part.boardChanged_of_dozing (dozing : p.doze.state = .dozing) : p.boardChanged = p := by
  simp [Part.boardChanged, Part.pageRunning, dozing]

/-- A page that shows the list as it stands is built again unchanged (R51, R53). -/
theorem Part.rebuild_of_shown {r : StartRecord} (record : p.port.record = some r)
    (index : keepIndex p.page.index (pageCount r.rows (p.shownEntries r).length) = p.page.index)
    (shown : p.page.shown = (p.shownEntries r).length) (held : p.page.held = p.buildPage r p.page.index) :
    p.rebuild keepIndex = p := by
  rw [Part.rebuild_of_record p keepIndex r record]
  simp only [index, ← held, if_true]
  rw [← shown]

/-- A wake builds the page, and a minute event that follows finds nothing to change (R53, R203). -/
theorem Part.awoken_boardChanged (c : WakeCause) : (p.awoken c).boardChanged = p.awoken c := by
  cases record : p.port.record with
  | none => simp [Part.boardChanged, Part.pageRunning, Part.roles, Part.awoken, record]
  | some r =>
    by_cases shows : r.roles.shows = true
    · have same : (p.awoken c).port.record = some r := by rw [Part.awoken_eq]; exact record
      have entries : (p.awoken c).shownEntries r = p.shownEntries r := by rw [Part.awoken_eq]; rfl
      have page : (p.awoken c).page.index = keepIndex p.page.index (pageCount r.rows (p.shownEntries r).length)
          ∧ (p.awoken c).page.shown = (p.shownEntries r).length
          ∧ (p.awoken c).page.held = p.buildPage r (p.awoken c).page.index := by
        simp [Part.awoken, record, shows, keepIndex, Part.buildPage, HaltClock.isSet]
      obtain ⟨index, shown, held⟩ := page
      rw [Part.boardChanged, if_pos (by simp [Part.pageRunning, Part.awoken_running, Part.roles, same, shows])]
      refine Part.rebuild_of_shown same ?_ (by rw [shown, entries]) ?_
      · rw [entries, index]
        simp only [keepIndex]
        split <;> simp_all
      · rw [held]
        simp only [Part.buildPage, entries]
        rw [Part.awoken_eq]
    · simp [Part.boardChanged, Part.pageRunning, Part.roles, Part.awoken, record, shows]

/-- Two receivers with nothing to change, before or after the third, leave its work as it stands. -/
theorem threeInOrder_of_last {f g h : Part → Part} {p w : Part} (hf : f p = p) (hg : g p = p) (hh : h p = w)
    (hf' : f w = w) (hg' : g w = w) (n : Nat) : threeInOrder n f g h p = w := by
  simp only [threeInOrder]
  split <;> simp [hf, hg, hh, hf', hg']

/-- The part told of its present minute (R4). -/
def Part.minuteNoted (p : Part) : Part :=
  (p.withClock (fun c => { c with lastEventMinute := some p.clock.reading.absMinute })).drawOrder

theorem Part.minuteEvent_eq : p.minuteEvent
    = p.minuteNoted.handMinute (Config.receiverOrder p.draws) p.clock.reading.absMinute := rfl

/-- A minute event that changes no entry wakes a dozing part for a departure that is near, and does no more (R202). -/
theorem Part.minuteEvent_of_dozing (dozing : p.doze.state = .dozing)
    (still : ∀ e ∈ p.board.entries, e.judged p.clock.reading.absMinute = e.state) :
    (p.departureNear = none → p.minuteEvent = p.minuteNoted)
      ∧ ∀ e, p.departureNear = some e →
          p.minuteEvent = p.minuteNoted.awoken (.departure e.train e.absSort) := by
  let q := p.minuteNoted
  have dozes : q.doze.state = .dozing := dozing
  have near : q.departureNear = p.departureNear := rfl
  have board : q.boardMinute p.clock.reading.absMinute = q := Part.boardMinute_of_still (p := q) still
  have page : q.boardChanged = q := Part.boardChanged_of_dozing dozes
  refine ⟨fun far => ?_, fun e departs => ?_⟩
  · have rests : q.dozeMinute = q := by rw [Part.dozeMinute, if_pos dozes, near, far]
    rw [Part.minuteEvent_eq]
    exact threeInOrder_of_last (f := fun x => x.boardMinute p.clock.reading.absMinute) board page rests board page _
  · have wakes : q.dozeMinute = q.awoken (.departure e.train e.absSort) := by
      rw [Part.dozeMinute, if_pos dozes, near, departs]
      exact Part.wake_eq_awoken q _ dozes
    have still : ∀ x ∈ (q.awoken (.departure e.train e.absSort)).board.entries,
        x.judged p.clock.reading.absMinute = x.state := by rw [Part.awoken_eq]; exact still
    rw [Part.minuteEvent_eq]
    exact threeInOrder_of_last (f := fun x => x.boardMinute p.clock.reading.absMinute) board page wakes
      (Part.boardMinute_of_still still) (Part.awoken_boardChanged _) _

end

/-- Settles O43: by whether the sales day rises, and in DOZING by the departure that is near. -/
theorem minuteEventReachesItsReceivers : Obligations.MinuteEventReachesItsReceivers := by
  rintro ⟨p, pending⟩ up awake set untold nodup
  dsimp only at up awake set untold nodup
  have due : p.minuteDue = true := by simp [Part.minuteDue, awake, set, untold]
  have run : exec .minuteEvent ⟨p, pending⟩ = .next ⟨p.clockCheck, pending⟩ := by
    have came : p.minuteCame = true := by simp [Part.minuteCame, up, due]
    simp [came]
  have clock := p.clock.checked_eq p.awake
  rw [if_pos ⟨awake, set⟩, ← Part.clockCheck_clock] at clock
  obtain ⟨lineTime, -, -, -, fares, peers, port⟩ := p.clockCheck_frame
  refine ⟨_, run, rfl, clock, fun d day stands => ?_, fun d day rise => ?_, fun dozing stands still => ?_, fares, peers,
    port, lineTime⟩
  · have only : p.clockCheck = p.minuteEvent := Part.clockCheck_of_stands due fun d' day' => by
      rw [day] at day'
      cases day'
      exact stands
    have judges := p.minuteEvent_judges
    dsimp only
    rw [only, Part.minuteEvent_clock, Part.minuteEvent_entries nodup, judges.sales]
    exact ⟨day, judges.blind, rfl, rfl, Part.minuteEvent_entries nodup ▸ judges.board, fun e mem =>
      ⟨_, List.mem_map_of_mem mem, e.evaluated_spec _⟩⟩
  · have only := Part.clockCheck_of_rise due day rise
    have judges := (p.rollover d p.clock.computedDay).minuteEvent_judges
    obtain ⟨entries, ledger, blind⟩ := Part.rollover_purges nodup d p.clock.computedDay
    dsimp only
    rw [only, Part.minuteEvent_clock, Part.rollover_clock, judges.blind, judges.board, judges.ledger, entries, ledger,
      judges.sales]
    exact ⟨rfl, blind, fun sells => Part.rollover_closes sells _ _,
      fun idle => by rw [Part.rollover_idle idle], rfl, rfl⟩
  · have only := Part.clockCheck_of_stands due stands
    obtain ⟨rests, wakes⟩ := Part.minuteEvent_of_dozing dozing still
    have draws : p.minuteEvent.draws = p.minuteNoted.draws := by
      cases near : p.departureNear with
      | none => rw [rests near]
      | some e => rw [wakes e near, Part.awoken_eq]
    dsimp only
    rw [only, draws]
    exact ⟨rests, wakes⟩

end Sys2Proof.Machine
end
